-- ==== Sys2Proof/Word.lean ====
section
/-!
DEFINITION. The data the link carries: bytes. Everything else the part counts (lines, steps,
microseconds, prints, price units) is a natural number or an integer, as the manual treats it
(00_scope, "Quantities and units"); only the bytes of a frame are bit vectors.
-/

namespace Sys2Proof

/-- One byte of the print stream link (R161). -/
abbrev Byte := BitVec 8

end Sys2Proof
end

