-- ==== Sys2Proof/Syntax.lean ====
section
/-!
DEFINITION. The commands: one constructor for each row of spec/opcode_table.json, in the table's order.
A row that acts on a frame takes no operand: the frame is the one at the front of the Print Store or of the
Command Queue, which State holds (log entry 1). A row that is an event at a machine line or on the link carries
what the line brings.
-/

namespace Sys2Proof

/-- One sample of the punch sensor (R99). -/
inductive PunchSample where
  | hole
  | paper
  deriving DecidableEq, Repr

/-- The two qualified stop inputs (R158). -/
inductive StopInput where
  | estop
  | jam
  deriving DecidableEq, Repr

/-- The commands and events of the part, one per row of spec/opcode_table.json (95_what_each_step_holds:
each is whole and indivisible). -/
inductive Instr where
  /-- FULL_RESET: power-on, or the reset pin held low (R45). -/
  | fullReset
  /-- RESET_PIN_RELEASE (R83). -/
  | resetPinRelease
  /-- LINK_RESET: a break has been detected (R168, R169). -/
  | linkReset
  /-- FRAME_ARRIVAL: the receiver takes these bytes from the inbound line (R162 to R164). -/
  | frameArrival (bytes : List Byte)
  /-- CREDIT: the transmitter begins a CREDIT frame (R165). -/
  | credit
  /-- FRAME_TRANSMIT: the transmitter begins the oldest outbound frame (R166). -/
  | frameTransmit
  | orderOpen
  | orderClose
  | printHeader
  | line
  | printEnd
  | paperLoad
  | profileLoad
  | lutLoad
  | thermalLoad
  | sizeLoad
  | runparamLoad
  | runStart
  | runEnd
  | runAbort
  | orderCancel
  | binRelease
  | alertClear
  | alertEnable
  | monitorLoad
  | sortmapLoad
  | priceLoad
  | promoLoad
  | queryOrder
  | queryBin
  | queryPath
  | queryMonitor
  | queryRun
  | queryTable
  | queryCounters
  | queryAlerts
  /-- STEP: a line period expires; the punch sensor reads `sample` at this step (R23, R99). -/
  | step (sample : PunchSample)
  | cutDone
  | cutTimeout
  | dwellExpiry
  /-- CONVERSION: the conversion in progress completes with this temperature, in half-degrees (R84). -/
  | conversion (value : Int)
  /-- ESTOP_JAM_INPUT: the qualified level of one stop input becomes active or inactive (R158). -/
  | estopJamInput (input : StopInput) (active : Bool)
  /-- DROP: a qualified drop at bin 1 to 24, or at the tray, numbered 25 as R172 numbers it (R126, R127). -/
  | drop (place : Nat)
  | deliveryDeadline
  /-- BIN_CLEAR: a qualified clear of bin 1 to 24 (R132). -/
  | binClear (bin : Nat)
  | trayClear
  | pricingComplete
  /-- LENGTH_OVER_LIMIT: a frame start with this kind, tag and payload length, which is above 11,600 (R162). -/
  | lengthOverLimit (kind tag : Byte) (length : BitVec 16)
  | lineReturnsToMarking
  deriving DecidableEq, Repr

end Sys2Proof
end

