-- ==== Sys2Proof/Decode.lean ====
section
/-!
DEFINITION. The opcode table gives no bits to any row (this hardware is a block: its commands are not words),
so no word spells a command.
-/

namespace Sys2Proof

/-- The command that a word spells by the bits of spec/opcode_table.json: none, because the table gives bits to
no row. (The frames that the link carries are decoded from their bytes in Machine/Link.lean.) -/
def decodeTableWord (_nbits _w : Nat) : Option Instr := none

end Sys2Proof
end

