-- ==== Sys2Proof/Config.lean ====
section
/-!
DEFINITION. What the manual leaves open and the model does not choose: free values without a body, and
the levels of the machine lines that the part samples on its own clock.
-/

namespace Sys2Proof

/-- The levels, at one microsecond, of the machine lines that the part samples on its own clock
(00_scope, "The Link and the Machine Lines"; R84, R99, R126, R132, R158, R168). Lists are in the order
of the bins 1 to 24 and then the tray, and of the channels HEAD_R, HEAD_G, HEAD_B, DEV; a line that a
list does not reach reads inactive (or 0). -/
structure Pins where
  /-- emergency stop input: active -/
  estop : Bool
  /-- jam input: active -/
  jam : Bool
  /-- the 24 drop sensors and the tray sensor: shaded -/
  drops : List Bool
  /-- the 24 clear inputs and the tray clear input: active -/
  clears : List Bool
  /-- the converted temperature of each sensor, in half-degrees -/
  temperatures : List Int
  /-- punch sensor: a hole is at the sensor -/
  hole : Bool
  /-- inbound line of the link at its spacing level -/
  spacing : Bool
  deriving DecidableEq, Repr, Inhabited

/-- FREE VALUE (log entry 2). The levels of the sampled machine lines, as a function of the time in
microseconds since the release of the reset pin: the outside world drives them. -/
opaque Config.pinsAt : Nat → Pins

/-- FREE VALUE (log entry 3). The tag byte of the n-th outbound frame whose tag no rule gives (PRINT FATE,
REMAKE, ORDER DONE, ALERT): R161 gives a tag to the answers alone, R165 to CREDIT. -/
opaque Config.unsolicitedTag : Nat → Byte

/-- FREE VALUE (log entry 4). How long the pricing of an order taken at the given time lasts; R142 bounds it
by 1 ms, which `Machine.State.engineTake` imposes. -/
opaque Config.pricingDelay : Nat → Nat

end Sys2Proof
end

