-- ==== Sys2Proof/Machine/State.lean ====
section
/-!
DEFINITION. The state of the Velpra 3200 as plain data: one structure for each block of 00_scope's Block Overview,
each with its value after a full reset, and the whole state.
-/

namespace Sys2Proof.Machine

/-! ### Names (each list in the order in which the manual first sets its names out, R172) -/

inductive Source where | counter | kiosk | online | trade
  deriving DecidableEq, Repr

inductive ServiceClass where | standard | priority | express | bulk
  deriving DecidableEq, Repr

inductive Surface where | glossy | lustre
  deriving DecidableEq, Repr

/-- Order states OPEN, CLOSED, PRICING, CANCELLING, FAILING (R2). -/
inductive OrderState where | opened | closed | pricing | cancelling | failing
  deriving DecidableEq, Repr

inductive RunState where | idle | starting | running | draining | halted
  deriving DecidableEq, Repr

inductive HaltCause where | estop | jam | cutter | paperOut | pathFull
  deriving DecidableEq, Repr

inductive DrainCause where | runEnd | paper
  deriving DecidableEq, Repr

inductive SegmentKind where | print | waste | ramp | purge
  deriving DecidableEq, Repr

/-- Leading-boundary states (R25). -/
inductive LeadState where | pending | registered | predicted | late
  deriving DecidableEq, Repr

inductive ReaderMode where | reading | staged | feeding | awaitingEnd | discarding
  deriving DecidableEq, Repr

/-- Line sources STORE, MARGIN and NONE (R49); an absent source is `none` of the option that holds it. -/
inductive LineSource where | store | margin | cutOff
  deriving DecidableEq, Repr

inductive BinState where | free | filling | ready | held
  deriving DecidableEq, Repr

inductive TrayState where | empty | occupied
  deriving DecidableEq, Repr

inductive AlertMode where | comparator | twoTimes
  deriving DecidableEq, Repr

inductive ChannelState where | normal | tripped
  deriving DecidableEq, Repr

inductive PromoKind where | percent | amount | freePrints
  deriving DecidableEq, Repr

/-- The reject reasons, in the order of R159. -/
inductive RejectReason where
  | underrun | short | aborted | chem | dwell | miscut | cancelled | noBin | sortBusy | lost
  deriving DecidableEq, Repr

/-- The refusal reasons of a print header (R172). -/
inductive RefusalReason where
  | unknownOrder | orderClosed | sequence | overcount | notPending | noSize | paperWidth | noProfile | range
  deriving DecidableEq, Repr

/-- The results of STATUS (R167). -/
inductive StatusResult where
  | accepted | busy | range | full | duplicate | unknownOrder | notIdle | noPaper | blocked | halted
  deriving DecidableEq, Repr

/-- The fates of ORDER DONE (R172). -/
inductive OrderFate where | complete | cancelled | failed
  deriving DecidableEq, Repr

/-- The twenty alert causes (chapter Alerts and Counters). -/
inductive Cause where
  | monHeadR | monHeadG | monHeadB | monDev | paperLow | jam | estop | cutterFault | dwellExpired | regMissing
  | punchSpurious | underrun | sortMismatch | sortLost | trayUsed | trayFull | orderFailed | linkCheck
  | creditOverrun | outqLost
  deriving DecidableEq, Repr

/-- The production counters, in the order of R159. -/
inductive Counter where
  | accepted | good | rejected (reason : RejectReason) | refused | wasteLines | paperLines | linkCheck
  | outOfPlace | lateCutDone
  deriving DecidableEq, Repr

/-- The positions of the reject flap (R113, R115). -/
inductive Flap where | chute | conveyor
  deriving DecidableEq, Repr

/-- The inbound frame kinds, in the order of R161's table. -/
inductive InKind where
  | orderOpen | orderClose | printHeader | line | printEnd | paperLoad | profileLoad | lutLoad | thermalLoad
  | sizeLoad | runparamLoad | runStart | runEnd | runAbort | orderCancel | binRelease | alertClear | alertEnable
  | monitorLoad | sortmapLoad | priceLoad | promoLoad | query
  deriving DecidableEq, Repr

/-- The outbound frame kinds, in the order of R161's table. -/
inductive OutKind where | credit | status | reply | printFate | remake | orderDone | alert
  deriving DecidableEq, Repr

/-- An inbound frame that has passed its check (R161). -/
structure InFrame where
  kind : InKind
  tag : Byte
  payload : List Byte
  deriving DecidableEq, Repr

/-- An outbound frame; its start character, length and check are formed as it is sent (R161). -/
structure OutFrame where
  kind : OutKind
  tag : Byte
  payload : List Byte
  deriving DecidableEq, Repr

/-! ### Print records -/

/-- The notes of a print record, in the order of R52. -/
structure Notes where
  substituted : Bool := false
  short : Bool := false
  missingEnd : Bool := false
  long : Bool := false
  clipped : Bool := false
  hot : Bool := false
  misdelivered : Bool := false
  deriving DecidableEq, Repr

/-- The damage flags of a segment record, in the order of R25. -/
structure DamageFlags where
  underrun : Bool := false
  short : Bool := false
  aborted : Bool := false
  chem : Bool := false
  dwell : Bool := false
  miscut : Bool := false
  cancelled : Bool := false
  deriving DecidableEq, Repr

/-- One number for each colour: code values, gains, thermal values, on-times. -/
structure Rgb where
  r : Nat
  g : Nat
  b : Nat
  deriving DecidableEq, Repr

/-- What tells one print from every other: order number, print index and attempt (R9). -/
structure PrintKey where
  order : Nat
  index : Nat
  attempt : Nat
  deriving DecidableEq, Repr

/-- The print record (R52, and the paper width that R81 copies into it). -/
structure PrintRecord where
  order : Nat
  index : Nat
  remake : Bool
  attempt : Nat
  size : Nat
  length : Nat
  wanted : Surface
  used : Surface
  profile : Nat
  /-- the paper record's width at header acceptance, in millimetres (R81) -/
  width : Nat
  charge : Bool
  exposed : Nat
  underruns : Nat
  widthFits : Nat
  clipped : Nat
  thermal : Option Rgb
  notes : Notes
  deriving DecidableEq, Repr

/-! ### The Link Port (R161 to R169) -/

/-- The receiver: HUNTING, HEADER with the header bytes taken so far, or BODY with the kind, the tag, the number of
bytes still to come and the bytes taken so far (R162). -/
inductive Receiver where
  | hunting
  | header (taken : List Byte)
  | body (kind tag : Byte) (length : Nat) (taken : List Byte)
  deriving DecidableEq, Repr

structure LinkPort where
  receiver : Receiver
  /-- a break has been detected and the inbound line has not returned to marking (R168) -/
  breakHeld : Bool
  /-- microseconds for which the inbound line has stood at spacing, up to 10 (R168) -/
  spacing : Nat
  availableStream : Nat
  availableCommand : Nat
  returnedStream : Nat
  returnedCommand : Nat
  /-- the outbound queue, oldest first -/
  outbound : List OutFrame
  overflow : Bool
  dropped : Nat
  /-- the frame that the transmitter began last (R166) -/
  transmitting : Option OutFrame
  /-- the time at which the transmitter is free again -/
  transmitterFreeAt : Nat
  deriving DecidableEq, Repr

/-- After a full reset: R162, R165, R166. -/
def LinkPort.reset : LinkPort where
  receiver := .hunting
  breakHeld := false
  spacing := 0
  availableStream := 0
  availableCommand := 0
  returnedStream := 48
  returnedCommand := 16
  outbound := []
  overflow := false
  dropped := 0
  transmitting := none
  transmitterFreeAt := 0

/-! ### The Store Reader (R49) -/

structure Reader where
  mode : ReaderMode
  staged : Option PrintRecord
  /-- absent while no print is exposing -/
  source : Option LineSource
  /-- the line handed over last (R57) -/
  lastLine : Option (List Rgb)
  /-- in AWAITING_END, the complete print whose PRINT END is awaited (log entry 13) -/
  awaited : Option PrintKey
  deriving DecidableEq, Repr

/-- After a full reset: R49. -/
def Reader.reset : Reader where
  mode := .reading
  staged := none
  source := none
  lastLine := none
  awaited := none

/-! ### The Order Table (R1, R2) -/

structure Remake where
  index : Nat
  attempt : Nat
  deriving DecidableEq, Repr

structure Tally where
  size : Nat
  surface : Surface
  quantity : Nat
  deriving DecidableEq, Repr

/-- The order flags, in the order of R2. -/
structure OrderFlags where
  shortClose : Bool := false
  attention : Bool := false
  pickedEarly : Bool := false
  tray : Bool := false
  substituted : Bool := false
  deriving DecidableEq, Repr

/-- The order record (R2). -/
structure Order where
  number : Nat
  source : Source
  cls : ServiceClass
  promotion : Option Nat
  announced : Option Nat
  expected : Option Nat
  sent : Nat
  delivered : Nat
  inFlight : Nat
  remakes : List Remake
  tallies : List Tally
  unpriced : Nat
  group : Option Nat
  bins : List Nat
  flags : OrderFlags
  state : OrderState
  deriving DecidableEq, Repr

/-! ### The Exposure Unit (R67 to R81) -/

/-- A profile slot's record (R75). -/
structure Profile where
  loaded : Bool
  gain : Rgb
  floorPulse : Nat
  duty : Nat
  margin : Nat
  deriving DecidableEq, Repr

/-- A look-up table (R76). -/
structure Lut where
  loaded : Bool
  entries : List Nat
  deriving DecidableEq, Repr

/-- The thermal band table (R77). -/
structure ThermalTable where
  base : Int
  width : Nat
  bands : List Rgb
  deriving DecidableEq, Repr

/-- An entry of the size table (R78). -/
structure SizeEntry where
  loaded : Bool
  width : Nat
  length : Nat
  group : Nat
  deriving DecidableEq, Repr

/-- The paper record (R79). -/
structure Paper where
  loaded : Bool
  width : Nat
  surface : Surface
  profile : Nat
  remaining : Nat
  deriving DecidableEq, Repr

structure ExposureUnit where
  /-- slots 0 to 3 -/
  profiles : List Profile
  /-- table of slot s and colour c at index 3 × s + c (R174) -/
  luts : List Lut
  thermal : ThermalTable
  /-- size codes 0 to 15 -/
  sizes : List SizeEntry
  paper : Paper
  profileGeneration : Nat
  lutGeneration : Nat
  thermalGeneration : Nat
  sizeGeneration : Nat
  paperGeneration : Nat
  /-- reload value N of the line clock generator (R67) -/
  reload : Nat
  /-- while stepping runs, the time at which the next step falls due (R67) -/
  stepDue : Nat
  /-- the on-times with which the head is driven, from pixel 0; pixels beyond the list are driven at 0 (R69) -/
  drive : List Rgb
  deriving DecidableEq, Repr

/-- After a full reset: R67, R69, R75 to R80. -/
def ExposureUnit.reset : ExposureUnit where
  profiles := List.replicate 4
    { loaded := false, gain := ⟨4096, 4096, 4096⟩, floorPulse := 0, duty := 3, margin := 0 }
  luts := List.replicate 12 { loaded := false, entries := List.replicate 256 0 }
  thermal := { base := 0, width := 16, bands := List.replicate 16 ⟨1024, 1024, 1024⟩ }
  sizes := List.replicate 16 { loaded := false, width := 89, length := 900, group := 0 }
  paper := { loaded := false, width := 89, surface := .glossy, profile := 0, remaining := 0 }
  profileGeneration := 0
  lutGeneration := 0
  thermalGeneration := 0
  sizeGeneration := 0
  paperGeneration := 0
  reload := 1999
  stepDue := 0
  drive := []

/-! ### The Path Unit (R23 to R47) -/

/-- A segment record (R25). -/
structure Segment where
  kind : SegmentKind
  start : Int
  length : Nat
  planned : Nat
  print : Option PrintRecord
  flags : DamageFlags
  lead : LeadState
  deriving DecidableEq, Repr

/-- The run parameters (R46); times in the units of R46's table. -/
structure RunParams where
  linePeriod : Nat
  lCut : Nat
  dSensor : Nat
  window : Nat
  zIn : Nat
  zOut : Nat
  wasteUnit : Nat
  rampLength : Nat
  prefill : Nat
  tDwell : Nat
  tCut : Nat
  tDel : Nat
  aMax : Nat
  deriving DecidableEq, Repr

/-- The defaults of R46. -/
def RunParams.default : RunParams where
  linePeriod := 2000
  lCut := 36000
  dSensor := 240
  window := 24
  zIn := 6000
  zOut := 24000
  wasteUnit := 1200
  rampLength := 1200
  prefill := 16
  tDwell := 20
  tCut := 200
  tDel := 4000
  aMax := 3

/-- The dwell timer: stopped, running with the time at which it expires, or expired (R42). -/
inductive DwellTimer where
  | stopped
  | running (due : Nat)
  | expired
  deriving DecidableEq, Repr

structure PathUnit where
  run : RunState
  haltCause : Option HaltCause
  drainCause : Option DrainCause
  /-- the web position: the number of steps issued since the last full reset (R23) -/
  position : Nat
  /-- the path queue, oldest record first (R26) -/
  queue : List Segment
  dwell : DwellTimer
  params : RunParams
  generation : Nat
  /-- in STARTING, the ramp has not begun yet (R31; log entry 12) -/
  rampDue : Bool
  deriving DecidableEq, Repr

/-- The PURGE record that covers `length` lines from `start` (R44, R45). -/
def Segment.purge (start : Int) (length : Nat) : Segment where
  kind := .purge
  start := start
  length := length
  planned := length
  print := none
  flags := {}
  lead := .predicted

/-- After a full reset: R28, R42, R45, R170. -/
def PathUnit.reset : PathUnit where
  run := .idle
  haltCause := none
  drainCause := none
  position := 0
  queue := [Segment.purge (-36240) 36240]
  dwell := .stopped
  params := RunParams.default
  generation := 0
  rampDue := false

/-! ### The Monitor (R82 to R97) -/

/-- The limits of one channel that MONITOR LOAD replaces (R82, R95). -/
structure ChannelLimits where
  enabled : Bool
  mode : AlertMode
  faultCount : Nat
  hiTrip : Int
  hiRecover : Int
  loTrip : Int
  loRecover : Int
  deriving DecidableEq, Repr

/-- A channel record (R82). -/
structure Channel where
  reading : Int
  limits : ChannelLimits
  exceed : Nat
  state : ChannelState
  armed : Bool
  deriving DecidableEq, Repr

structure MonitorUnit where
  /-- HEAD_R, HEAD_G, HEAD_B, DEV -/
  channels : List Channel
  /-- the channel whose conversion is in progress, 0 to 3 (R83) -/
  converting : Nat
  /-- the time at which that conversion completes -/
  conversionDue : Nat
  generation : Nat
  deriving DecidableEq, Repr

/-- The default limits of a head channel (R82). -/
def ChannelLimits.head : ChannelLimits :=
  { enabled := true, mode := .twoTimes, faultCount := 2, hiTrip := 90, hiRecover := 80, loTrip := -40, loRecover := -40 }

/-- The default limits of DEV (R82). -/
def ChannelLimits.dev : ChannelLimits :=
  { enabled := true, mode := .comparator, faultCount := 4, hiTrip := 79, hiRecover := 78, loTrip := 75, loRecover := 76 }

/-- A channel after a full reset: R82. -/
def Channel.reset (limits : ChannelLimits) : Channel :=
  { reading := 0, limits := limits, exceed := 0, state := .normal, armed := false }

/-- After a full reset and the release of the reset pin: R82, R83. -/
def MonitorUnit.reset : MonitorUnit where
  channels := [.reset .head, .reset .head, .reset .head, .reset .dev]
  converting := 0
  conversionDue := 25000
  generation := 0

/-! ### The Cutter Unit (R98 to R117) -/

/-- A boundary the Cutter Unit deals with: cut point j of the PURGE record, or the leading boundary of the record
that starts at a web position (R100, R101, R106). -/
inductive Boundary where
  | cutPoint (j : Nat)
  | record (start : Int)
  deriving DecidableEq, Repr

/-- An entry of the cut list (R100). -/
structure CutEntry where
  boundary : Boundary
  cutAt : Int
  retry : Bool
  deriving DecidableEq, Repr

/-- A cut in progress, which is of the oldest cut list entry: when it was fired and when T_cut expires (R100, R108). -/
structure CutProgress where
  firedAt : Nat
  due : Nat
  deriving DecidableEq, Repr

structure CutterUnit where
  current : Option Boundary
  /-- registration offset δ -/
  delta : Int
  cutList : List CutEntry
  progress : Option CutProgress
  consecutive : Nat
  missing : Nat
  spurious : Nat
  /-- punch qualifier (R99) -/
  lastSample : PunchSample
  qualified : PunchSample
  /-- the cut position of the PURGE record's last scheduled cut point (R106) -/
  lastPurgeCut : Option Int
  deriving DecidableEq, Repr

/-- After a full reset: R45, R99, R100. -/
def CutterUnit.reset : CutterUnit where
  current := some (.cutPoint 1)
  delta := 0
  cutList := []
  progress := none
  consecutive := 0
  missing := 0
  spurious := 0
  lastSample := .paper
  qualified := .paper
  lastPurgeCut := none

/-! ### The Sorter Unit (R118 to R138) -/

/-- A bin record (R118). -/
structure Bin where
  state : BinState
  owner : Option Nat
  ownerLive : Bool
  ownerClass : ServiceClass
  count : Nat
  pending : Nat
  stray : Nat
  deriving DecidableEq, Repr

/-- The tray's record (R119). -/
structure Tray where
  state : TrayState
  count : Nat
  pending : Nat
  stray : Nat
  deriving DecidableEq, Repr

/-- Where a print is sent: bin 1 to 24, or the tray (R125). -/
inductive Target where
  | bin (number : Nat)
  | tray
  deriving DecidableEq, Repr

/-- An entry of the sorter queue; its order number stands in the print record (R125). -/
structure SortEntry where
  print : PrintRecord
  target : Target
  leftAt : Nat
  deadline : Nat
  deriving DecidableEq, Repr

/-- A sort map window (R121). -/
structure Window where
  enabled : Bool
  base : Nat
  mask : Nat
  first : Nat
  last : Nat
  deriving DecidableEq, Repr

/-- A lamp pattern: carrier duty code and the choice of the 4, 2, 1 and 0.5 Hz phases (R135). -/
structure LampPattern where
  carrier : Nat
  hz4 : Bool
  hz2 : Bool
  hz1 : Bool
  hzHalf : Bool
  deriving DecidableEq, Repr

/-- A qualified input: its level, its last sample, and how many samples in a row have agreed (R126, R132, R158). -/
structure Qualifier where
  level : Bool
  last : Bool
  agreeing : Nat
  deriving DecidableEq, Repr

/-- After a full reset: level and last sample inactive (R126, R132, R158). -/
def Qualifier.reset : Qualifier := { level := false, last := false, agreeing := 0 }

structure SorterUnit where
  /-- bins 1 to 24 -/
  bins : List Bin
  tray : Tray
  /-- the sorter queue, oldest first -/
  queue : List SortEntry
  windows : List Window
  capacity : Nat
  lamps : List LampPattern
  generation : Nat
  /-- the 24 drop sensors and the tray sensor -/
  dropInputs : List Qualifier
  /-- the 24 clear inputs and the tray clear input -/
  clearInputs : List Qualifier
  deriving DecidableEq, Repr

/-- After a full reset: R118, R119, R121, R125, R126, R132, R136, R137. -/
def SorterUnit.reset : SorterUnit where
  bins := List.replicate 24
    { state := .held, owner := none, ownerLive := false, ownerClass := .standard, count := 0, pending := 0, stray := 0 }
  tray := { state := .empty, count := 0, pending := 0, stray := 0 }
  queue := []
  windows := List.replicate 8 { enabled := false, base := 0, mask := 0, first := 1, last := 24 }
  capacity := 120
  lamps :=
    [⟨0, false, false, false, false⟩, ⟨1, false, false, false, false⟩, ⟨4, false, false, false, false⟩,
     ⟨4, false, false, true, false⟩, ⟨4, false, true, false, false⟩, ⟨0, false, false, false, false⟩]
  generation := 0
  dropInputs := List.replicate 25 Qualifier.reset
  clearInputs := List.replicate 25 Qualifier.reset

/-! ### The Price Engine (R139 to R152) -/

/-- A quantity break (R139). -/
structure Break where
  threshold : Nat
  percent : Nat
  deriving DecidableEq, Repr

/-- A row of the price table (R139). -/
structure PriceRow where
  loaded : Bool
  glossy : Nat
  lustre : Nat
  breaks : List Break
  deriving DecidableEq, Repr

/-- A promotion record with the value fields of each kind (R140; log entry 14). -/
structure Promotion where
  code : Nat
  enabled : Bool
  kind : PromoKind
  percent : Nat
  amount : Nat
  size : Nat
  prints : Nat
  cap : Nat
  base : Nat
  mask : Nat
  deriving DecidableEq, Repr

/-- The order being priced, and when its pricing completes at the latest (R141, R142). -/
structure Pricing where
  slot : Nat
  due : Nat
  deriving DecidableEq, Repr

structure PriceEngine where
  rows : List PriceRow
  /-- surcharges in the order STANDARD, PRIORITY, EXPRESS, BULK -/
  surcharges : List Nat
  priceGeneration : Nat
  promotions : List Promotion
  promoGeneration : Nat
  queue : List Nat
  /-- absent: the engine is IDLE -/
  engine : Option Pricing
  deriving DecidableEq, Repr

/-- After a full reset: R139, R140, R141. -/
def PriceEngine.reset : PriceEngine where
  rows := List.replicate 16 { loaded := false, glossy := 0, lustre := 0, breaks := [] }
  surcharges := List.replicate 4 0
  priceGeneration := 0
  promotions := List.replicate 16
    { code := 0, enabled := false, kind := .amount, percent := 0, amount := 0, size := 0, prints := 0, cap := 0,
      base := 0, mask := 0 }
  promoGeneration := 0
  queue := []
  engine := none

/-! ### The Alert Unit (R153 to R160) -/

/-- A cause record (R153). -/
structure CauseRecord where
  enabled : Bool
  pending : Bool
  reported : Bool
  count : Nat
  deriving DecidableEq, Repr

structure AlertUnit where
  /-- causes 0 to 19 -/
  causes : List CauseRecord
  /-- the production counters, in the order of R159 -/
  counters : List Nat
  estop : Qualifier
  jam : Qualifier
  deriving DecidableEq, Repr

/-- After a full reset: R153, R158, R159. -/
def AlertUnit.reset : AlertUnit where
  causes := List.replicate 20 { enabled := true, pending := false, reported := false, count := 0 }
  counters := List.replicate 18 0
  estop := Qualifier.reset
  jam := Qualifier.reset

/-! ### Actuation lines -/

/-- The flap, and the microseconds for which each pulse output stays on (chapter 10, Rate and Signals). -/
structure Outputs where
  flap : Flap
  stepPulse : Nat
  punchPulse : Nat
  firePulse : Nat
  deriving DecidableEq, Repr

def Outputs.reset : Outputs := { flap := .chute, stepPulse := 0, punchPulse := 0, firePulse := 0 }

/-! ### The whole state -/

structure State where
  /-- the reset pin is held low -/
  inReset : Bool
  /-- microseconds since the release of the reset pin -/
  now : Nat
  link : LinkPort
  /-- the Print Store, front first (48 frames) -/
  store : List InFrame
  /-- the Command Queue, front first (16 frames) -/
  commands : List InFrame
  reader : Reader
  /-- the 32 slots of the Order Table -/
  orders : List (Option Order)
  exposure : ExposureUnit
  path : PathUnit
  monitor : MonitorUnit
  cutter : CutterUnit
  sorter : SorterUnit
  price : PriceEngine
  alerts : AlertUnit
  outputs : Outputs
  /-- the model's own: how many free tag values have been used (log entry 3) -/
  freeTags : Nat
  /-- the commands that are waiting, first in, first out -/
  pending : List Instr
  deriving DecidableEq, Repr

/-- The machine right after a full reset, at the release of the reset pin (R45, R83; log entry 8). -/
def State.reset : State where
  inReset := false
  now := 0
  link := LinkPort.reset
  store := []
  commands := []
  reader := Reader.reset
  orders := List.replicate 32 none
  exposure := ExposureUnit.reset
  path := PathUnit.reset
  monitor := MonitorUnit.reset
  cutter := CutterUnit.reset
  sorter := SorterUnit.reset
  price := PriceEngine.reset
  alerts := AlertUnit.reset
  outputs := Outputs.reset
  freeTags := 0
  pending := []

/-- Why a step can stop the machine. -/
inductive Fault where
  /-- Raised by DROP and BIN_CLEAR for a sensor or an input the part does not have (bins are numbered 1 to 24, and the
  tray is place 25). Safe: the part has no such line, so the event cannot happen (log entry 27). -/
  | noSuchInput (place : Nat)
  deriving DecidableEq, Repr

/-- Why a step can have no meaning. -/
inductive Refusal where
  /-- Raised by `exec` alone, for a command that is not modelled yet; no arm raises it now. Safe. -/
  | notModelled (mnemonic : String)
  deriving DecidableEq, Repr

end Sys2Proof.Machine
end

