-- ==== Sys2Proof/Machine/Operands.lean ====
section
/-!
DEFINITION. The fields of a payload (R172): numbers in as many bytes as their range needs, most significant byte first,
yes or no values, and the codes of named values; and how the fields of an inbound payload are read back.
-/

namespace Sys2Proof.Machine

/-! ### Writing fields -/

/-- A whole number in `n` bytes, most significant byte first (R172, 00_scope "Multi-byte fields"). -/
def bytesOf : Nat → Nat → List Byte
  | 0, _ => []
  | n + 1, v => BitVec.ofNat 8 (v / 256 ^ n) :: bytesOf n v

/-- A number that may be below 0, in two's complement in `n` bytes (R172). -/
def bytesOfInt (n : Nat) (v : Int) : List Byte := bytesOf n (v % (256 ^ n : Nat)).toNat

/-- A yes or no value: 1 or 0 (R172). -/
def yesNo (b : Bool) : List Byte := [if b then 1 else 0]

/-- A value that may be absent: a yes or no byte, then the value, sent as 0 when absent (R172). -/
def bytesOfOption (n : Nat) (v : Option (List Byte)) : List Byte :=
  match v with
  | some bytes => 1 :: bytes
  | none => 0 :: List.replicate n 0

/-- A list of varying length: one byte giving its number of entries, then the entries (R172). -/
def bytesOfList {α : Type} (entry : α → List Byte) (l : List α) : List Byte :=
  bytesOf 1 l.length ++ l.flatMap entry

/-! ### Reading fields -/

/-- The number that bytes hold, most significant byte first. -/
def numberOf (bytes : List Byte) : Nat := bytes.foldl (fun n b => n * 256 + b.toNat) 0

/-- The field of `n` bytes at an offset of a payload, as a number. -/
def field (payload : List Byte) (offset n : Nat) : Nat := numberOf ((payload.drop offset).take n)

/-- The field of `n` bytes at an offset, as a number in two's complement. -/
def fieldInt (payload : List Byte) (offset n : Nat) : Int :=
  let v := field payload offset n
  if v < 256 ^ n / 2 then v else (v : Int) - (256 ^ n : Nat)

/-- The field at an offset if the payload reaches so far, and otherwise 0 (R171, a PRINT HEADER of wrong length). -/
def fieldOrZero (payload : List Byte) (offset n : Nat) : Nat :=
  if offset + n ≤ payload.length then field payload offset n else 0

/-- The pixels of a LINE payload after its pixel count: three bytes each, R, G, B (R172). -/
def pixelsOf : List Byte → List Rgb
  | r :: g :: b :: rest => ⟨r.toNat, g.toNat, b.toNat⟩ :: pixelsOf rest
  | _ => []

/-- Numbers of `n` bytes each, one after another, `count` of them. -/
def numbersOf (payload : List Byte) (offset n count : Nat) : List Nat :=
  (List.range count).map fun i => field payload (offset + n * i) n

/-! ### Codes of named values: the place in the manual's list (R172) -/

def Source.code : Source → Nat
  | .counter => 0 | .kiosk => 1 | .online => 2 | .trade => 3

def Source.ofCode : Nat → Option Source
  | 0 => some .counter | 1 => some .kiosk | 2 => some .online | 3 => some .trade | _ => none

def ServiceClass.code : ServiceClass → Nat
  | .standard => 0 | .priority => 1 | .express => 2 | .bulk => 3

def ServiceClass.ofCode : Nat → Option ServiceClass
  | 0 => some .standard | 1 => some .priority | 2 => some .express | 3 => some .bulk | _ => none

def Surface.code : Surface → Nat
  | .glossy => 0 | .lustre => 1

def Surface.ofCode : Nat → Option Surface
  | 0 => some .glossy | 1 => some .lustre | _ => none

/-- A header's surface: a value that names neither reads as GLOSSY (R51). -/
def Surface.ofHeader (code : Nat) : Surface := (Surface.ofCode code).getD .glossy

/-- A header's charge flag: CHARGE 0, NOCHARGE 1, and any other value reads as CHARGE (R51). -/
def chargeOfHeader (code : Nat) : Bool := code ≠ 1

def OrderState.code : OrderState → Nat
  | .opened => 0 | .closed => 1 | .pricing => 2 | .cancelling => 3 | .failing => 4

def RunState.code : RunState → Nat
  | .idle => 0 | .starting => 1 | .running => 2 | .draining => 3 | .halted => 4

def HaltCause.code : HaltCause → Nat
  | .estop => 0 | .jam => 1 | .cutter => 2 | .paperOut => 3 | .pathFull => 4

def DrainCause.code : DrainCause → Nat
  | .runEnd => 0 | .paper => 1

def SegmentKind.code : SegmentKind → Nat
  | .print => 0 | .waste => 1 | .ramp => 2 | .purge => 3

def LeadState.code : LeadState → Nat
  | .pending => 0 | .registered => 1 | .predicted => 2 | .late => 3

def ReaderMode.code : ReaderMode → Nat
  | .reading => 0 | .staged => 1 | .feeding => 2 | .awaitingEnd => 3 | .discarding => 4

def LineSource.code : LineSource → Nat
  | .store => 0 | .margin => 1 | .cutOff => 2

def BinState.code : BinState → Nat
  | .free => 0 | .filling => 1 | .ready => 2 | .held => 3

def TrayState.code : TrayState → Nat
  | .empty => 0 | .occupied => 1

def AlertMode.code : AlertMode → Nat
  | .comparator => 0 | .twoTimes => 1

def AlertMode.ofCode : Nat → Option AlertMode
  | 0 => some .comparator | 1 => some .twoTimes | _ => none

def ChannelState.code : ChannelState → Nat
  | .normal => 0 | .tripped => 1

def PromoKind.code : PromoKind → Nat
  | .percent => 0 | .amount => 1 | .freePrints => 2

def PromoKind.ofCode : Nat → Option PromoKind
  | 0 => some .percent | 1 => some .amount | 2 => some .freePrints | _ => none

def PunchSampleCode : PunchSample → Nat
  | .hole => 0 | .paper => 1

/-- The place of a reject reason in the list of R159. -/
def RejectReason.code : RejectReason → Nat
  | .underrun => 0 | .short => 1 | .aborted => 2 | .chem => 3 | .dwell => 4 | .miscut => 5 | .cancelled => 6
  | .noBin => 7 | .sortBusy => 8 | .lost => 9

def RefusalReason.code : RefusalReason → Nat
  | .unknownOrder => 0 | .orderClosed => 1 | .sequence => 2 | .overcount => 3 | .notPending => 4 | .noSize => 5
  | .paperWidth => 6 | .noProfile => 7 | .range => 8

def StatusResult.code : StatusResult → Nat
  | .accepted => 0 | .busy => 1 | .range => 2 | .full => 3 | .duplicate => 4 | .unknownOrder => 5 | .notIdle => 6
  | .noPaper => 7 | .blocked => 8 | .halted => 9

def OrderFate.code : OrderFate → Nat
  | .complete => 0 | .cancelled => 1 | .failed => 2

/-- Cause numbers (chapter Alerts and Counters). -/
def Cause.code : Cause → Nat
  | .monHeadR => 0 | .monHeadG => 1 | .monHeadB => 2 | .monDev => 3 | .paperLow => 4 | .jam => 5 | .estop => 6
  | .cutterFault => 7 | .dwellExpired => 8 | .regMissing => 9 | .punchSpurious => 10 | .underrun => 11
  | .sortMismatch => 12 | .sortLost => 13 | .trayUsed => 14 | .trayFull => 15 | .orderFailed => 16
  | .linkCheck => 17 | .creditOverrun => 18 | .outqLost => 19

/-- The place of a production counter in the table of R159, the ten rejection counters in its order. -/
def Counter.place : Counter → Nat
  | .accepted => 0 | .good => 1 | .rejected reason => 2 + reason.code | .refused => 12 | .wasteLines => 13
  | .paperLines => 14 | .linkCheck => 15 | .outOfPlace => 16 | .lateCutDone => 17

/-- A bin or the tray in one byte: the bin number, or 25 (R172). -/
def Target.code : Target → Nat
  | .bin number => number
  | .tray => 25

/-- The place that a drop names: bins 1 to 24, and 25 for the tray. -/
def Target.ofPlace (place : Nat) : Target := if place = 25 then .tray else .bin place

/-- The kind byte of an inbound frame (R161). -/
def InKind.code : InKind → Byte
  | .orderOpen => 0x11 | .orderClose => 0x12 | .printHeader => 0x13 | .line => 0x14 | .printEnd => 0x15
  | .paperLoad => 0x16 | .profileLoad => 0x17 | .lutLoad => 0x18 | .thermalLoad => 0x19 | .sizeLoad => 0x1A
  | .runparamLoad => 0x1B | .runStart => 0x21 | .runEnd => 0x22 | .runAbort => 0x23 | .orderCancel => 0x24
  | .binRelease => 0x25 | .alertClear => 0x26 | .alertEnable => 0x27 | .monitorLoad => 0x28 | .sortmapLoad => 0x29
  | .priceLoad => 0x2A | .promoLoad => 0x2B | .query => 0x2C

/-- The inbound kind that a kind byte names, if any (R161). -/
def InKind.ofCode (b : Byte) : Option InKind :=
  match b.toNat with
  | 0x11 => some .orderOpen | 0x12 => some .orderClose | 0x13 => some .printHeader | 0x14 => some .line
  | 0x15 => some .printEnd | 0x16 => some .paperLoad | 0x17 => some .profileLoad | 0x18 => some .lutLoad
  | 0x19 => some .thermalLoad | 0x1A => some .sizeLoad | 0x1B => some .runparamLoad | 0x21 => some .runStart
  | 0x22 => some .runEnd | 0x23 => some .runAbort | 0x24 => some .orderCancel | 0x25 => some .binRelease
  | 0x26 => some .alertClear | 0x27 => some .alertEnable | 0x28 => some .monitorLoad | 0x29 => some .sortmapLoad
  | 0x2A => some .priceLoad | 0x2B => some .promoLoad | 0x2C => some .query
  | _ => none

/-- Sequenced frames go to the Print Store, the others to the Command Queue (R161, R164). -/
def InKind.sequenced : InKind → Bool
  | .orderOpen | .orderClose | .printHeader | .line | .printEnd => true
  | .paperLoad | .profileLoad | .lutLoad | .thermalLoad | .sizeLoad | .runparamLoad => true
  | .runStart | .runEnd | .runAbort | .orderCancel | .binRelease => false
  | .alertClear | .alertEnable | .monitorLoad | .sortmapLoad | .priceLoad | .promoLoad | .query => false

/-- The kind byte of an outbound frame (R161). -/
def OutKind.code : OutKind → Byte
  | .credit => 0x41 | .status => 0x42 | .reply => 0x43 | .printFate => 0x44 | .remake => 0x45 | .orderDone => 0x46
  | .alert => 0x47

end Sys2Proof.Machine
end

