-- ==== Sys2Proof/Machine/Flags.lean ====
section
/-!
DEFINITION. Sets of flags, notes and reject reasons: their two bytes on the link (R172), and how they are formed.
-/

namespace Sys2Proof.Machine

/-- A set as a number: bit i stands for the i-th name of its list (R172). -/
def bitsOf : List Bool → Nat
  | [] => 0
  | b :: rest => (if b then 1 else 0) + 2 * bitsOf rest

/-- A set in two bytes (R172). -/
def bytesOfSet (members : List Bool) : List Byte := bytesOf 2 (bitsOf members)

/-- The notes in the order of R52. -/
def Notes.members (n : Notes) : List Bool :=
  [n.substituted, n.short, n.missingEnd, n.long, n.clipped, n.hot, n.misdelivered]

/-- The damage flags in the order of R25. -/
def DamageFlags.members (f : DamageFlags) : List Bool :=
  [f.underrun, f.short, f.aborted, f.chem, f.dwell, f.miscut, f.cancelled]

/-- The order flags in the order of R2, followed by PROMO_UNKNOWN and PROMO_NOT_ELIGIBLE (R172). -/
def OrderFlags.members (f : OrderFlags) (unknown notEligible : Bool) : List Bool :=
  [f.shortClose, f.attention, f.pickedEarly, f.tray, f.substituted, unknown, notEligible]

/-- The reject reasons that a segment's damage flags show: the first seven reasons are the seven flags (R25, R159). -/
def DamageFlags.reasons (f : DamageFlags) : List RejectReason :=
  (if f.underrun then [.underrun] else []) ++ (if f.short then [.short] else []) ++
  (if f.aborted then [.aborted] else []) ++ (if f.chem then [.chem] else []) ++
  (if f.dwell then [.dwell] else []) ++ (if f.miscut then [.miscut] else []) ++
  (if f.cancelled then [.cancelled] else [])

/-- A list of reject reasons as a set, in the order of R159. -/
def reasonMembers (reasons : List RejectReason) : List Bool :=
  [.underrun, .short, .aborted, .chem, .dwell, .miscut, .cancelled, .noBin, .sortBusy, .lost].map
    fun reason => decide (reason ∈ reasons)

/-- An order's key: 16 × source + 4 × service class + size group, an unset group taken as 0 (R3). -/
def Order.key (r : Order) : Nat := 16 * r.source.code + 4 * r.cls.code + r.group.getD 0

/-- A base and mask hit a key when both, ANDed with the mask, are equal (R121, R140). -/
def maskHits (key base mask : Nat) : Bool := key &&& mask == base &&& mask

end Sys2Proof.Machine
end

