-- ==== Sys2Proof/Machine/Ops.lean ====
section
/-!
DEFINITION. The operations that every block uses: saturating counts, generation numbers, the outbound queue, the cause
records and the production counters, the two inbound stores, the Order Table's slots and the records of bins and
segments.
-/

namespace Sys2Proof.Machine

/-! ### Numbers and lists -/

/-- A count that stops at its maximum (00_scope, "Arithmetic and rounding"). -/
def saturate (max n : Nat) : Nat := if n < max then n + 1 else n

/-- The generation number after an accepted load: 65,535 is followed by 0 (R170). -/
def nextGeneration (g : Nat) : Nat := (g + 1) % 65536

/-- Change the newest element of a list. -/
def modifyLast {α : Type} (f : α → α) : List α → List α
  | [] => []
  | [a] => [f a]
  | a :: b :: rest => a :: modifyLast f (b :: rest)

/-! ### The outbound queue (R166, R167) -/

/-- Queue an outbound frame: while 64 frames are held it is dropped, counted, and the overflow mark is set (R166). -/
def State.queueFrame (f : OutFrame) (s : State) : State :=
  if s.link.outbound.length < 64 then
    { s with link := { s.link with outbound := s.link.outbound ++ [f] } }
  else
    { s with link := { s.link with dropped := saturate 65535 s.link.dropped, overflow := true } }

/-- The STATUS frame that answers an inbound frame: its tag, its kind code and the result (R167). -/
def statusFrame (f : InFrame) (result : StatusResult) : OutFrame where
  kind := .status
  tag := f.tag
  payload := [f.kind.code] ++ bytesOf 1 result.code

/-- Answer an inbound frame with STATUS (R167). -/
def State.answer (f : InFrame) (result : StatusResult) (s : State) : State := s.queueFrame (statusFrame f result)

/-- Queue a frame that the part sends of itself; no rule gives its tag, so the tag is a free value (log entry 3). -/
def State.report (kind : OutKind) (payload : List Byte) (s : State) : State :=
  State.queueFrame { kind := kind, tag := Config.unsolicitedTag s.freeTags, payload := payload }
    { s with freeTags := s.freeTags + 1 }

/-! ### Causes and counters (R154, R159) -/

/-- An ALERT frame carries the cause number and the occurrence count (R154). -/
def alertPayload (c : Cause) (count : Nat) : List Byte := bytesOf 1 c.code ++ bytesOf 1 count

/-- The record of a cause. -/
def State.cause (c : Cause) (s : State) : CauseRecord :=
  s.alerts.causes.getD c.code { enabled := false, pending := false, reported := false, count := 0 }

/-- Replace the record of a cause. -/
def State.setCause (c : Cause) (r : CauseRecord) (s : State) : State :=
  { s with alerts := { s.alerts with causes := s.alerts.causes.set c.code r } }

/-- Queue the ALERT frame of a cause that is enabled, pending and not reported; the cause becomes reported (R154, R155). -/
def State.reportCause (c : Cause) (s : State) : State :=
  let r := s.cause c
  if r.enabled ∧ r.pending ∧ ¬ r.reported then
    (s.setCause c { r with reported := true }).report .alert (alertPayload c r.count)
  else s

/-- Raise a cause: count it, make it pending, and report it (R154). -/
def State.raise (c : Cause) (s : State) : State :=
  let r := s.cause c
  (s.setCause c { r with count := saturate 255 r.count, pending := true }).reportCause c

/-- Increment a production counter, 32 bits and saturating (R159). -/
def State.bump (c : Counter) (s : State) : State :=
  { s with alerts := { s.alerts with counters := s.alerts.counters.modify c.place (saturate 4294967295) } }

/-! ### The two inbound stores (R48, R165) -/

/-- Remove the frame at the front of the Print Store, which returns one stream credit (R48, R165). -/
def State.removeSequenced (s : State) : State :=
  match s.store with
  | [] => s
  | _ :: rest =>
    { s with store := rest, link := { s.link with returnedStream := s.link.returnedStream + 1 } }

/-- Remove the frame at the front of the Command Queue, which returns one command credit (R165). -/
def State.removeImmediate (s : State) : State :=
  match s.commands with
  | [] => s
  | _ :: rest =>
    { s with commands := rest, link := { s.link with returnedCommand := s.link.returnedCommand + 1 } }

/-- Act on the frame at the front of the Command Queue if it is of the given kind. The command has no effect where the
front holds another frame or none (log entry 1). -/
def State.onImmediate (kind : InKind) (act : InFrame → State → State) (s : State) : State :=
  match s.commands with
  | f :: _ => if f.kind = kind then act f s else s
  | [] => s

/-! ### Slots, bins and segments -/

/-- The order that a slot holds, if its number is the one sought. -/
def matchOrder (number : Nat) : Option Order → Option Order
  | some r => if r.number = number then some r else none
  | none => none

/-- The live order of a number (R1). -/
def State.findOrder (number : Nat) (s : State) : Option Order := s.orders.findSome? (matchOrder number)

/-- The slot that holds the live order of a number. -/
def State.slotOf (number : Nat) (s : State) : Option Nat :=
  s.orders.findIdx? fun o => (matchOrder number o).isSome

/-- Change the record of the live order of a number. -/
def State.updateOrder (number : Nat) (f : Order → Order) (s : State) : State :=
  { s with orders := s.orders.map fun o => o.map fun r => if r.number = number then f r else r }

/-- The record of bin 1 to 24. -/
def State.bin (number : Nat) (s : State) : Option Bin :=
  if number = 0 then none else s.sorter.bins[number - 1]?

/-- Change the record of bin 1 to 24. -/
def State.updateBin (number : Nat) (f : Bin → Bin) (s : State) : State :=
  if number = 0 then s
  else { s with sorter := { s.sorter with bins := s.sorter.bins.modify (number - 1) f } }

/-- Change every bin record. -/
def State.mapBins (f : Bin → Bin) (s : State) : State :=
  { s with sorter := { s.sorter with bins := s.sorter.bins.map f } }

/-- Change every segment record of the path queue. -/
def State.mapSegments (f : Segment → Segment) (s : State) : State :=
  { s with path := { s.path with queue := s.path.queue.map f } }

/-- Change the head segment, which is the newest record (R23). -/
def State.modifyHead (f : Segment → Segment) (s : State) : State :=
  { s with path := { s.path with queue := modifyLast f s.path.queue } }

/-- The head segment. -/
def State.headSegment (s : State) : Option Segment := s.path.queue.getLast?

/-- A print is exposing while its line source is present (R49). -/
def State.exposing (s : State) : Bool := s.reader.source.isSome

/-- Steps are issued while the run is STARTING, RUNNING or DRAINING (R23, R28). -/
def State.stepping (s : State) : Bool :=
  match s.path.run with
  | .starting | .running | .draining => true
  | .idle | .halted => false

/-- The path queue holds a PRINT segment. -/
def State.hasPrint (s : State) : Bool := s.path.queue.any fun g => g.kind == .print

/-- The print a record is of. -/
def PrintRecord.key (p : PrintRecord) : PrintKey := { order := p.order, index := p.index, attempt := p.attempt }

/-- A channel of the Monitor is TRIPPED. -/
def State.tripped (channel : Nat) (s : State) : Bool :=
  match s.monitor.channels[channel]? with
  | some c => c.state == .tripped
  | none => false

/-- The head hold is on while a head channel is TRIPPED (R92). -/
def State.headHold (s : State) : Bool := s.tripped 0 || s.tripped 1 || s.tripped 2

/-- The chemistry hold is on while DEV is TRIPPED (R92). -/
def State.chemistryHold (s : State) : Bool := s.tripped 3

/-- Run an event of the part, which has no effect while the reset pin is held low (00_scope, Resets; log entry 8). -/
def State.event (f : State → State) (s : State) : Host.Outcome State Fault Refusal :=
  .next (if s.inReset then s else f s)

end Sys2Proof.Machine
end

