-- ==== Sys2Proof/Machine/Orders.lean ====
section
/-!
DEFINITION. The Order Table (chapter 01): rejection, winding down and the end of an order, delivery and completion, and the
frames PRINT FATE, REMAKE and ORDER DONE.
-/

namespace Sys2Proof.Machine

/-! ### PRINT FATE, REMAKE and ORDER DONE -/

/-- PRINT FATE REFUSED: order number, print index, remake flag and reason (R51, R172). -/
def refusedPayload (order index : Nat) (remake : Bool) (reason : RefusalReason) : List Byte :=
  bytesOf 1 0 ++ bytesOf 3 order ++ bytesOf 2 index ++ yesNo remake ++ bytesOf 1 reason.code

/-- PRINT FATE REJECTED for a discarded staged print: order number, print index, attempt and reason (R54; log entry 15). -/
def discardedPayload (p : PrintRecord) (reason : RejectReason) : List Byte :=
  bytesOf 1 1 ++ bytesOf 3 p.order ++ bytesOf 2 p.index ++ bytesOf 1 p.attempt ++ bytesOfSet (reasonMembers [reason])

/-- The print details of R114: order number, print index, remake flag, attempt, reject reasons, notes, the three counts
and the three thermal values (log entry 16). -/
def printDetails (p : PrintRecord) (reasons : List RejectReason) : List Byte :=
  let k := p.thermal.getD ⟨0, 0, 0⟩
  bytesOf 3 p.order ++ bytesOf 2 p.index ++ yesNo p.remake ++ bytesOf 1 p.attempt ++ bytesOfSet (reasonMembers reasons) ++
    bytesOfSet p.notes.members ++ bytesOf 2 p.underruns ++ bytesOf 2 p.widthFits ++ bytesOf 2 p.clipped ++
    bytesOf 2 k.r ++ bytesOf 2 k.g ++ bytesOf 2 k.b

/-- PRINT FATE REJECTED of a started print (R114; at a RUN ABORT log entry 38). -/
def rejectedPayload (p : PrintRecord) (reasons : List RejectReason) : List Byte := bytesOf 1 1 ++ printDetails p reasons

/-- PRINT FATE GOOD: the print details with no reject reason, and the bin or the tray (R127). -/
def goodPayload (p : PrintRecord) (place : Target) : List Byte :=
  bytesOf 1 2 ++ printDetails p [] ++ bytesOf 1 place.code

/-- REMAKE: order number, print index and next attempt (R9). -/
def remakePayload (order index attempt : Nat) : List Byte := bytesOf 3 order ++ bytesOf 2 index ++ bytesOf 1 attempt

/-- What ORDER DONE carries beside the order record (R143). -/
structure OrderBill where
  subtotal : Nat
  discount : Nat
  total : Nat
  unpriced : Nat
  unknown : Bool
  notEligible : Bool
  deriving DecidableEq, Repr

/-- ORDER DONE: the fate first (R172), then the items of R143 in its order. -/
def orderDonePayload (r : Order) (fate : OrderFate) (bill : OrderBill) (priceGeneration promoGeneration : Nat) : List Byte :=
  bytesOf 1 fate.code ++ bytesOf 3 r.number ++ bytesOf 2 r.delivered ++ bytesOf 4 bill.subtotal ++ bytesOf 4 bill.discount ++
    bytesOf 4 bill.total ++ bytesOf 2 bill.unpriced ++ bytesOfSet (r.flags.members bill.unknown bill.notEligible) ++
    bytesOfList (bytesOf 1) r.bins ++ bytesOf 2 priceGeneration ++ bytesOf 2 promoGeneration

/-! ### The end of an order (R21, R120) -/

/-- Free the slot of an order: the record is discarded, and its number no longer lives as a bin's owner (R2, R120). -/
def State.freeOrder (number : Nat) (s : State) : State :=
  State.mapBins (fun b => if b.owner = some number ∧ b.ownerLive then { b with ownerLive := false } else b)
    { s with orders := s.orders.map fun o => if (matchOrder number o).isSome then none else o }

/-- The fate of an order that ends without being priced: CANCELLED or FAILED by its state (R21). -/
def OrderState.windingDown : OrderState → Option OrderFate
  | .cancelling => some .cancelled
  | .failing => some .failed
  | .opened | .closed | .pricing => none

/-- End an order in CANCELLING or FAILING whose in-flight count is 0: ORDER DONE with no price, and the slot is freed (R21). -/
def State.endIfDrained (number : Nat) (s : State) : State :=
  match s.findOrder number with
  | none => s
  | some r =>
    match r.state.windingDown with
    | none => s
    | some fate =>
      if r.inFlight = 0 then
        State.freeOrder number
          (s.report .orderDone
            (orderDonePayload r fate
              { subtotal := 0, discount := 0, total := 0, unpriced := r.unpriced, unknown := false, notEligible := false }
              s.price.priceGeneration s.price.promoGeneration))
      else s

/-! ### Winding down (R20) -/

/-- Send PRINT FATE REJECTED for a staged print that is discarded, and count its reason (R54, R159). -/
def State.reportDiscard (p : PrintRecord) (reason : RejectReason) (s : State) : State :=
  (s.report .printFate (discardedPayload p reason)).bump (.rejected reason)

/-- One print of the order leaves flight (R9, R11, R12). -/
def Order.leaveFlight (r : Order) : Order := { r with inFlight := r.inFlight - 1 }

/-- Discard the staged print if it belongs to an order that is being wound down (R20, R54). -/
def State.discardStagedOf (number : Nat) (s : State) : State :=
  match s.reader.staged with
  | none => s
  | some p =>
    if p.order = number then
      State.updateOrder number Order.leaveFlight
        (State.reportDiscard p .cancelled { s with reader := { s.reader with staged := none, mode := .discarding } })
    else s

/-- Flag a PRINT segment of an order CANCELLED (R20). -/
def Segment.cancelOf (number : Nat) (g : Segment) : Segment :=
  match g.print with
  | some p => if p.order = number then { g with flags := { g.flags with cancelled := true } } else g
  | none => g

/-- A FILLING bin of an order takes another state (R120). -/
def Bin.retire (number : Nat) (next : BinState) (b : Bin) : Bin :=
  if b.owner = some number ∧ b.state = .filling then { b with state := next } else b

/-- Wind an order down: it enters CANCELLING or FAILING, its remake list is emptied, its staged print is discarded, its
segments are flagged, its FILLING bins become HELD, and it ends at once if nothing is in flight (R20). -/
def State.windDown (number : Nat) (next : OrderState) (s : State) : State :=
  s.updateOrder number (fun r => { r with state := next, remakes := [] })
    |>.discardStagedOf number
    |>.mapSegments (Segment.cancelOf number)
    |>.mapBins (Bin.retire number .held)
    |>.endIfDrained number

/-! ### Rejection (R9 to R11) -/

/-- The Order Table takes the rejection of a print: a remake entry and a REMAKE frame, or FAILING; an order being wound
down only counts it and may end (R9, R10, R11). -/
def State.reject (order index attempt : Nat) (s : State) : State :=
  match s.findOrder order with
  | none => s
  | some r =>
    match r.state with
    | .opened | .closed =>
      let s := s.updateOrder order Order.leaveFlight
      if attempt + 1 ≤ s.path.params.aMax ∧ r.remakes.length < 16 then
        (s.updateOrder order fun r => { r with remakes := r.remakes ++ [{ index := index, attempt := attempt + 1 }] }).report
          .remake (remakePayload order index (attempt + 1))
      else (s.raise .orderFailed).windDown order .failing
    | .cancelling | .failing => (s.updateOrder order Order.leaveFlight).endIfDrained order
    | .pricing => s

/-- Discard the staged print, if there is one: it ceases to be staged, its fate is sent, and its order takes the rejection
(R54). -/
def State.discardStaged (reason : RejectReason) (mode : ReaderMode) (s : State) : State :=
  match s.reader.staged with
  | none => s
  | some p =>
    (State.reportDiscard p reason { s with reader := { s.reader with staged := none, mode := mode } }).reject
      p.order p.index p.attempt

/-- Count each reason that a PRINT FATE REJECTED carries (R159). -/
def State.countReasons (reasons : List RejectReason) (s : State) : State :=
  reasons.foldl (fun s reason => s.bump (.rejected reason)) s

/-- Reject a started print: PRINT FATE REJECTED, its counters, and then the rejection at the Order Table (R114, R128). -/
def State.rejectPrint (p : PrintRecord) (reasons : List RejectReason) (s : State) : State :=
  ((s.report .printFate (rejectedPayload p reasons)).countReasons reasons).reject p.order p.index p.attempt

/-! ### Completion (R16, R142) -/

/-- The idle engine takes the oldest slot of the pricing queue; the pricing lasts at most 1 ms (R142; log entry 4). -/
def State.engineTake (s : State) : State :=
  match s.price.engine, s.price.queue with
  | none, slot :: rest =>
    { s with price := { s.price with
        engine := some { slot := slot, due := s.now + min 1000 (Config.pricingDelay s.now) }, queue := rest } }
  | _, _ => s

/-- The completion test of a CLOSED order: D = E, F = 0 and an empty remake list (R16). -/
def Order.complete (r : Order) : Bool :=
  decide (r.state = .closed ∧ r.expected = some r.delivered ∧ r.inFlight = 0 ∧ r.remakes = [])

/-- Make the completion test; an order that passes enters PRICING and its slot joins the pricing queue (R16). -/
def State.completionTest (number : Nat) (s : State) : State :=
  match s.findOrder number, s.slotOf number with
  | some r, some slot =>
    if r.complete then
      let s := s.updateOrder number fun r => { r with state := .pricing }
      State.engineTake { s with price := { s.price with queue := s.price.queue ++ [slot] } }
    else s
  | _, _ => s

/-! ### Delivery (R12, R13) -/

/-- Add one to the quantity of the entry for a pair, if the list has one. -/
def tallyCount (size : Nat) (surface : Surface) (l : List Tally) : List Tally :=
  l.map fun t => if t.size = size ∧ t.surface = surface then { t with quantity := t.quantity + 1 } else t

/-- Enter a charged delivered print in the tally: its entry, a new entry, or the unpriced count (R13). -/
def Order.tally (size : Nat) (surface : Surface) (r : Order) : Order :=
  if r.tallies.any fun t => t.size = size ∧ t.surface = surface then
    { r with tallies := tallyCount size surface r.tallies }
  else if r.tallies.length < 8 then
    { r with tallies := r.tallies ++ [{ size := size, surface := surface, quantity := 1 }] }
  else { r with unpriced := r.unpriced + 1 }

/-- The record of an order after the delivery of a print (R12). -/
def Order.deliver (p : PrintRecord) (r : Order) : Order :=
  let r := { r with inFlight := r.inFlight - 1, delivered := r.delivered + 1 }
  if p.charge then r.tally p.size p.used else r

/-- The Order Table records a delivery (R12). -/
def State.deliver (p : PrintRecord) (s : State) : State :=
  match s.findOrder p.order with
  | none => s
  | some r =>
    match r.state with
    | .opened => s.updateOrder p.order (Order.deliver p)
    | .closed => (s.updateOrder p.order (Order.deliver p)).completionTest p.order
    | .cancelling | .failing => (s.updateOrder p.order (Order.deliver p)).endIfDrained p.order
    | .pricing => s

/-- Set the size group of an order if it is unset, from the size table as it stands (R14). -/
def State.setGroup (p : PrintRecord) (s : State) : State :=
  match s.exposure.sizes[p.size]? with
  | some entry =>
    s.updateOrder p.order fun r => if r.group.isNone then { r with group := some entry.group } else r
  | none => s

/-! ### The three frames of the Order Table -/

/-- An absent value is sent as 0 (R4). -/
def absentIfZero (n : Nat) : Option Nat := if n = 0 then none else some n

/-- A new order record (R2). -/
def Order.new (number : Nat) (source : Source) (cls : ServiceClass) (promotion announced : Option Nat) : Order where
  number := number
  source := source
  cls := cls
  promotion := promotion
  announced := announced
  expected := none
  sent := 0
  delivered := 0
  inFlight := 0
  remakes := []
  tallies := []
  unpriced := 0
  group := none
  bins := []
  flags := {}
  state := .opened

/-- The result of ORDER OPEN and, if it is ACCEPTED, the slot and the record (R4, R171). -/
def State.judgeOrderOpen (payload : List Byte) (s : State) : StatusResult ⊕ (Nat × Order) :=
  let number := field payload 0 3
  let announced := field payload 7 2
  if payload.length ≠ 9 ∨ number = 0 ∨ 999 < announced then .inl .range
  else
    match Source.ofCode (field payload 3 1), ServiceClass.ofCode (field payload 4 1) with
    | some source, some cls =>
      if (s.findOrder number).isSome then .inl .duplicate
      else
        match s.orders.findIdx? Option.isNone with
        | none => .inl .full
        | some slot => .inr (slot, .new number source cls (absentIfZero (field payload 5 2)) (absentIfZero announced))
    | _, _ => .inl .range

/-- The Order Table answers an ORDER OPEN (R4). -/
def State.takeOrderOpen (f : InFrame) (s : State) : State :=
  State.removeSequenced
    (match s.judgeOrderOpen f.payload with
    | .inl result => s.answer f result
    | .inr (slot, r) => { s with orders := s.orders.set slot (some r) }.answer f .accepted)

/-- An order closes: E = S, and SHORT_CLOSE where E0 is present and differs (R8). -/
def Order.close (r : Order) : Order :=
  { r with
    state := .closed
    expected := some r.sent
    flags := { r.flags with
      shortClose := r.flags.shortClose || (r.announced.isSome && decide (r.announced ≠ some r.sent)) } }

/-- The Order Table answers an ORDER CLOSE (R8, R171). -/
def State.takeOrderClose (f : InFrame) (s : State) : State :=
  State.removeSequenced
    (if f.payload.length ≠ 3 then s.answer f .range
    else
      match s.findOrder (field f.payload 0 3) with
      | none => s.answer f .unknownOrder
      | some r =>
        if r.state = .opened then
          ((s.updateOrder r.number Order.close).answer f .accepted).completionTest r.number
        else s.answer f .busy)

/-- The Order Table answers an ORDER CANCEL (R19, R171). -/
def State.takeOrderCancel (f : InFrame) (s : State) : State :=
  State.removeImmediate
    (if f.payload.length ≠ 3 then s.answer f .range
    else
      match s.findOrder (field f.payload 0 3) with
      | none => s.answer f .unknownOrder
      | some r =>
        match r.state with
        | .opened | .closed => (s.answer f .accepted).windDown r.number .cancelling
        | .pricing => s.answer f .busy
        | .cancelling | .failing => s.answer f .accepted)

/-- ORDER_CANCEL (R19). -/
def execOrderCancel (s : State) : Host.Outcome State Fault Refusal :=
  s.event (State.onImmediate .orderCancel State.takeOrderCancel)

end Sys2Proof.Machine
end

