-- ==== Sys2Proof/Machine/Pricing.lean ====
section
/-!
DEFINITION. The Price Engine (chapter 08): the price of an order, the completion of a pricing, and the loads of the price
table and the promotion table.
-/

namespace Sys2Proof.Machine

/-! ### The computation (R144 to R148) -/

/-- The percent of the break with the highest threshold not above the quantity, or 0 (R144). -/
def bandPercent (breaks : List Break) (quantity : Nat) : Nat :=
  (breaks.foldl
    (fun (best : Break) b => if b.threshold ≤ quantity ∧ best.threshold ≤ b.threshold then b else best)
    { threshold := 0, percent := 0 }).percent

/-- The base price of a row for a surface (R139). -/
def PriceRow.base (row : PriceRow) : Surface → Nat
  | .glossy => row.glossy
  | .lustre => row.lustre

/-- The unit price of a quantity of one size and surface (R144). -/
def PriceRow.unitPrice (row : PriceRow) (surface : Surface) (quantity : Nat) : Nat :=
  (row.base surface * (100 - bandPercent row.breaks quantity) + 50) / 100

/-- The unit price of a tally entry, if its row is loaded (R144, R145). -/
def PriceEngine.unitPrice (e : PriceEngine) (t : Tally) : Option Nat :=
  match e.rows[t.size]? with
  | some row => if row.loaded then some (row.unitPrice t.surface t.quantity) else none
  | none => none

/-- The tally entries whose row is loaded, each with its unit price, in the order of the list (R145). -/
def PriceEngine.priced (e : PriceEngine) (tallies : List Tally) : List (Tally × Nat) :=
  tallies.filterMap fun t => (e.unitPrice t).map fun pu => (t, pu)

/-- The surcharge of a service class (R139). -/
def PriceEngine.surcharge (e : PriceEngine) (cls : ServiceClass) : Nat := e.surcharges.getD cls.code 0

/-- The subtotal: quantity × unit price plus quantity × surcharge, summed over the priced entries (R145). -/
def PriceEngine.subtotal (e : PriceEngine) (r : Order) : Nat :=
  ((e.priced r.tallies).map fun (t, pu) => t.quantity * pu + t.quantity * e.surcharge r.cls).sum

/-- The unpriced count of ORDER DONE: the record's, and the quantities of the entries whose row is not loaded (R143). -/
def PriceEngine.unpriced (e : PriceEngine) (r : Order) : Nat :=
  r.unpriced + ((r.tallies.filter fun t => (e.unitPrice t).isNone).map Tally.quantity).sum

/-- Put an entry behind every entry whose unit price is not above its own. -/
def insertByPrice (a : Tally × Nat) : List (Tally × Nat) → List (Tally × Nat)
  | [] => [a]
  | b :: rest => if b.2 ≤ a.2 then b :: insertByPrice a rest else a :: b :: rest

/-- The entries in order of unit price, lowest first, and of two with one price the earlier first (R147). -/
def sortByPrice (l : List (Tally × Nat)) : List (Tally × Nat) := l.foldl (fun sorted a => insertByPrice a sorted) []

/-- Give away up to m prints, walking the entries (R147). -/
def freePrints : Nat → List (Tally × Nat) → Nat
  | _, [] => 0
  | m, (t, pu) :: rest => min m t.quantity * pu + freePrints (m - min m t.quantity) rest

/-- The discount before its limits (R147). -/
def PriceEngine.rawDiscount (e : PriceEngine) (promo : Promotion) (r : Order) : Nat :=
  match promo.kind with
  | .percent => (e.subtotal r * promo.percent + 50) / 100
  | .amount => promo.amount
  | .freePrints => freePrints promo.prints (sortByPrice ((e.priced r.tallies).filter fun (t, _) => t.size = promo.size))

/-- The discount after the cap and the subtotal have limited it (R148). -/
def limitDiscount (cap subtotal d : Nat) : Nat := min (if 0 < cap then min d cap else d) subtotal

/-- The promotion of an order: its discount and the two pricing flags (R146 to R148). -/
def PriceEngine.discount (e : PriceEngine) (r : Order) : Nat × Bool × Bool :=
  match r.promotion with
  | none => (0, false, false)
  | some code =>
    match e.promotions.find? fun p => p.enabled ∧ p.code = code with
    | none => (0, true, false)
    | some promo =>
      if maskHits r.key promo.base promo.mask then
        (limitDiscount promo.cap (e.subtotal r) (e.rawDiscount promo r), false, false)
      else (0, false, true)

/-- The bill of an order (R143 to R148). -/
def PriceEngine.bill (e : PriceEngine) (r : Order) : OrderBill :=
  let subtotal := e.subtotal r
  let (discount, unknown, notEligible) := e.discount r
  { subtotal := subtotal, discount := discount, total := subtotal - discount, unpriced := e.unpriced r,
    unknown := unknown, notEligible := notEligible }

/-! ### The loads (R149 to R151) -/

/-- A yes or no byte (R172). -/
def yesNoOf (n : Nat) : Option Bool :=
  match n with
  | 0 => some false
  | 1 => some true
  | _ => none

/-- Read n quantity breaks. -/
def parseBreaks : Nat → List Byte → Option (List Break × List Byte)
  | 0, rest => some ([], rest)
  | n + 1, t1 :: t0 :: p :: rest =>
    (parseBreaks n rest).map fun (breaks, rest) =>
      ({ threshold := numberOf [t1, t0], percent := p.toNat } :: breaks, rest)
  | _ + 1, _ => none

/-- Breaks in range: thresholds 2 to 999 strictly ascending, percents 1 to 90 not falling (R139, R150). -/
def breaksValid : List Break → Bool
  | [] => true
  | [b] => decide (2 ≤ b.threshold ∧ b.threshold ≤ 999 ∧ 1 ≤ b.percent ∧ b.percent ≤ 90)
  | a :: b :: rest =>
    decide (2 ≤ a.threshold ∧ a.threshold ≤ 999 ∧ 1 ≤ a.percent ∧ a.percent ≤ 90 ∧
      a.threshold < b.threshold ∧ a.percent ≤ b.percent) && breaksValid (b :: rest)

/-- Read one price row and check it (R150). -/
def parsePriceRow : List Byte → Option (PriceRow × List Byte)
  | l :: g1 :: g0 :: u1 :: u0 :: n :: rest =>
    match yesNoOf l.toNat, parseBreaks n.toNat rest with
    | some loaded, some (breaks, rest) =>
      if n.toNat ≤ 3 ∧ breaksValid breaks then
        some ({ loaded := loaded, glossy := numberOf [g1, g0], lustre := numberOf [u1, u0], breaks := breaks }, rest)
      else none
    | _, _ => none
  | _ => none

/-- Read n price rows, one after another. -/
def parsePriceRows : Nat → List Byte → Option (List PriceRow × List Byte)
  | 0, rest => some ([], rest)
  | n + 1, bytes =>
    match parsePriceRow bytes with
    | none => none
    | some (row, rest) => (parsePriceRows n rest).map fun (rows, rest) => (row :: rows, rest)

/-- A PRICE LOAD payload: 16 rows and four surcharges, or nothing if any check of R150 fails. -/
def parsePriceLoad (payload : List Byte) : Option (List PriceRow × List Nat) :=
  match parsePriceRows 16 payload with
  | some (rows, rest) => if rest.length = 8 then some (rows, numbersOf rest 0 2 4) else none
  | none => none

/-- Read the promotion record at an offset: code, enabled, kind, the value fields of the three kinds in the order of R140,
cap, base, mask (R151; log entry 14). -/
def parsePromotion (payload : List Byte) (offset : Nat) : Option Promotion :=
  match yesNoOf (field payload (offset + 2) 1), PromoKind.ofCode (field payload (offset + 3) 1) with
  | some enabled, some kind =>
    some
      { code := field payload offset 2
        enabled := enabled
        kind := kind
        percent := field payload (offset + 4) 1
        amount := field payload (offset + 5) 3
        size := field payload (offset + 8) 1
        prints := field payload (offset + 9) 1
        cap := field payload (offset + 10) 3
        base := field payload (offset + 13) 1
        mask := field payload (offset + 14) 1 }
  | _, _ => none

/-- The value fields of a promotion's kind are in range (R151). -/
def Promotion.valueValid (p : Promotion) : Bool :=
  match p.kind with
  | .percent => decide (1 ≤ p.percent ∧ p.percent ≤ 100)
  | .amount => decide (p.amount ≤ 1000000)
  | .freePrints => decide (p.size ≤ 15 ∧ 1 ≤ p.prints ∧ p.prints ≤ 99)

/-- A promotion record passes the checks on it alone (R151). -/
def Promotion.valid (p : Promotion) : Bool :=
  p.valueValid && decide (p.cap ≤ 1000000 ∧ p.base ≤ 63 ∧ p.mask ≤ 63 ∧ (p.enabled → p.code ≠ 0))

/-- No two enabled records carry one code (R140, R151). -/
def promotionsDistinct : List Promotion → Bool
  | [] => true
  | p :: rest => (!p.enabled || rest.all fun q => !(q.enabled && q.code == p.code)) && promotionsDistinct rest

/-- A PROMO LOAD payload: 16 records, or nothing if any check of R151 fails. -/
def parsePromoLoad (payload : List Byte) : Option (List Promotion) :=
  if payload.length = 240 then
    match (List.range 16).mapM fun i => parsePromotion payload (15 * i) with
    | some records => if records.all Promotion.valid && promotionsDistinct records then some records else none
    | none => none
  else none

/-- The Price Engine, IDLE, answers a PRICE LOAD (R149, R150). -/
def State.takePriceLoad (f : InFrame) (s : State) : State :=
  State.removeImmediate
    (match parsePriceLoad f.payload with
    | none => s.answer f .range
    | some (rows, surcharges) =>
      State.answer f .accepted
        { s with price := { s.price with
            rows := rows, surcharges := surcharges, priceGeneration := nextGeneration s.price.priceGeneration } })

/-- The Price Engine, IDLE, answers a PROMO LOAD (R149, R151). -/
def State.takePromoLoad (f : InFrame) (s : State) : State :=
  State.removeImmediate
    (match parsePromoLoad f.payload with
    | none => s.answer f .range
    | some records =>
      State.answer f .accepted
        { s with price := { s.price with
            promotions := records, promoGeneration := nextGeneration s.price.promoGeneration } })

/-- Do something only while the engine is IDLE; a load waits at the front otherwise (R149). -/
def State.whenEngineIdle (act : InFrame → State → State) (f : InFrame) (s : State) : State :=
  if s.price.engine.isNone then act f s else s

/-- PRICE_LOAD (R149, R150). -/
def execPriceLoad (s : State) : Host.Outcome State Fault Refusal :=
  s.event (State.onImmediate .priceLoad (State.whenEngineIdle State.takePriceLoad))

/-- PROMO_LOAD (R149, R151). -/
def execPromoLoad (s : State) : Host.Outcome State Fault Refusal :=
  s.event (State.onImmediate .promoLoad (State.whenEngineIdle State.takePromoLoad))

/-! ### The completion of a pricing (R143) -/

/-- A load that has waited at the front of the Command Queue is answered when the pricing completes (R149). -/
def State.takeWaitingLoad (s : State) : State :=
  match s.commands with
  | f :: _ =>
    match f.kind with
    | .priceLoad => s.takePriceLoad f
    | .promoLoad => s.takePromoLoad f
    | _ => s
  | [] => s

/-- An order is done: ORDER DONE COMPLETE, its FILLING bins become READY, and its slot is freed (R18, R143). -/
def State.orderPriced (r : Order) (s : State) : State :=
  s.report .orderDone (orderDonePayload r .complete (s.price.bill r) s.price.priceGeneration s.price.promoGeneration)
    |>.mapBins (Bin.retire r.number .ready)
    |>.freeOrder r.number

/-- The pricing of an order completes (R142, R143, R149). -/
def State.completePricing (s : State) : State :=
  match s.price.engine with
  | none => s
  | some pricing =>
    let s :=
      match s.orders[pricing.slot]? with
      | some (some r) => s.orderPriced r
      | _ => s
    (State.takeWaitingLoad { s with price := { s.price with engine := none } }).engineTake

/-- PRICING_COMPLETE (R143). -/
def execPricingComplete (s : State) : Host.Outcome State Fault Refusal := s.event State.completePricing

end Sys2Proof.Machine
end

