-- ==== Sys2Proof/Machine/Sorter.lean ====
section
/-!
DEFINITION. The Sorter Unit (chapter 07): assignment of good prints, drops, lost prints, clears, BIN RELEASE, the sort map,
and the gate and lamp outputs.
-/

namespace Sys2Proof.Machine

/-! ### Assignment (R121 to R124) -/

/-- The range of bins of an order key: of the first window that hits, or 1 to 24 (R121). -/
def binRange (windows : List Window) (key : Nat) : Nat × Nat :=
  match windows.find? fun w => w.enabled && maskHits key w.base w.mask with
  | some w => (w.first, w.last)
  | none => (1, 24)

/-- The lowest-numbered FREE bin of a range (R123). -/
def State.freeBinIn (range : Nat × Nat) (s : State) : Option Nat :=
  ((List.range 24).map (· + 1)).find? fun n =>
    decide (range.1 ≤ n ∧ n ≤ range.2) &&
      (match s.bin n with
      | some b => b.state == .free
      | none => false)

/-- Step 1 of R123: the last bin of the order's list, while it is FILLING and has room. -/
def State.lastBinWithRoom (r : Order) (s : State) : Option Nat :=
  match r.bins.getLast? with
  | none => none
  | some n =>
    match s.bin n with
    | some b => if b.state = .filling ∧ b.count + b.pending < s.sorter.capacity then some n else none
    | none => none

/-- Step 2 of R123: a FREE bin in the order's range, while its list holds fewer than 4. -/
def State.newBinFor (r : Order) (s : State) : Option Nat :=
  if r.bins.length < 4 then s.freeBinIn (binRange s.sorter.windows r.key) else none

/-- Lend a FREE bin to an order (R15, R120). -/
def State.lendBin (n : Nat) (r : Order) (s : State) : State :=
  (s.updateBin n fun b =>
    { b with state := .filling, owner := some r.number, ownerLive := true, ownerClass := r.cls }).updateOrder r.number
      fun r => { r with bins := r.bins ++ [n] }

/-- One more entry of the sorter queue has this target (R124). -/
def State.addPending : Target → State → State
  | .bin n, s => s.updateBin n fun b => { b with pending := b.pending + 1 }
  | .tray, s => { s with sorter := { s.sorter with tray := { s.sorter.tray with pending := s.sorter.tray.pending + 1 } } }

/-- An entry with this target has left the sorter queue (R127 to R131). -/
def State.dropPending : Target → State → State
  | .bin n, s => s.updateBin n fun b => { b with pending := b.pending - 1 }
  | .tray, s => { s with sorter := { s.sorter with tray := { s.sorter.tray with pending := s.sorter.tray.pending - 1 } } }

/-- An order's TRAY flag is set (R15). -/
def Order.flagTray (r : Order) : Order := { r with flags := { r.flags with tray := true } }

/-- Find a target for a piece: the order's last bin, a new bin, the tray, or none (R123). -/
def State.assign (r : Order) (s : State) : Option Target × State :=
  match s.lastBinWithRoom r with
  | some n => (some (.bin n), s)
  | none =>
    match s.newBinFor r with
    | some n => (some (.bin n), s.lendBin n r)
    | none =>
      if s.sorter.tray.count + s.sorter.tray.pending < 250 then
        (some .tray, (s.updateOrder r.number Order.flagTray).raise .trayUsed)
      else (none, s.raise .trayFull)

/-- A print joins the sorter queue; it left the cutter now, and its deadline is T_del away (R124, R125). -/
def State.joinSorter (p : PrintRecord) (target : Target) (s : State) : State :=
  State.addPending target
    { s with sorter := { s.sorter with queue := s.sorter.queue ++
        [{ print := p, target := target, leftAt := s.now, deadline := s.now + s.path.params.tDel * 1000 }] } }

/-- The Sorter Unit takes a good print: it sets the size group, and answers with a target or a refusal (R115, R122). -/
def State.sortPrint (p : PrintRecord) (s : State) : Except RejectReason Target × State :=
  let s := s.setGroup p
  if 24 ≤ s.sorter.queue.length then (.error .sortBusy, s)
  else
    match s.findOrder p.order with
    | none => (.error .noBin, s)
    | some r =>
      match s.assign r with
      | (some target, s) => (.ok target, s.joinSorter p target)
      | (none, s) => (.error .noBin, s)

/-! ### The gate (R125) -/

/-- The target that the gate-select output names: the oldest entry's, or the tray (R125). -/
def State.gateSelect (s : State) : Target :=
  match s.sorter.queue with
  | e :: _ => e.target
  | [] => .tray

/-! ### Drops and deadlines (R127 to R131) -/

/-- The oldest entry leaves the sorter queue (R125). -/
def State.popSorter (s : State) : State :=
  match s.sorter.queue with
  | [] => s
  | e :: rest => State.dropPending e.target { s with sorter := { s.sorter with queue := rest } }

/-- A bin or the tray counts one more print; the tray becomes OCCUPIED (R127). -/
def State.countInto : Target → State → State
  | .bin n, s => s.updateBin n fun b => { b with count := b.count + 1 }
  | .tray, s =>
    { s with sorter := { s.sorter with tray := { s.sorter.tray with count := s.sorter.tray.count + 1, state := .occupied } } }

/-- A print is delivered at a place: PRINT FATE GOOD, the counter, and the delivery at the Order Table (R127). -/
def State.deliverAt (p : PrintRecord) (place : Target) (s : State) : State :=
  ((s.report .printFate (goodPayload p place)).bump .good).deliver p

/-- The oldest entry is lost (R128, R131). -/
def State.loseOldest (s : State) : State :=
  match s.sorter.queue with
  | [] => s
  | e :: _ => (s.popSorter.rejectPrint e.print [.lost]).raise .sortLost

/-- The oldest entry is delivered at its target (R127). -/
def State.deliverOldest (s : State) : State :=
  match s.sorter.queue with
  | [] => s
  | e :: _ => (s.popSorter.countInto e.target).deliverAt e.print e.target

/-- The ATTENTION flag of an order is set (R15). -/
def Order.flagAttention (r : Order) : Order := { r with flags := { r.flags with attention := true } }

/-- The owner of a FILLING bin, unless it is the excepted order, is flagged ATTENTION (R129, R130). -/
def State.attendOwner (n : Nat) (excepted : Option Nat) (s : State) : State :=
  match s.bin n with
  | some b =>
    match b.owner with
    | some owner => if b.state = .filling ∧ excepted ≠ some owner then s.updateOrder owner Order.flagAttention else s
    | none => s
  | none => s

/-- Something that was not a delivery fell at a place: it is counted apart, SORT_MISMATCH is raised, and a bin goes HELD,
its other owner flagged (R129, R130). -/
def State.markStray (place : Target) (excepted : Option Nat) (s : State) : State :=
  match place with
  | .bin n =>
    (((s.updateBin n fun b => { b with stray := saturate 255 b.stray }).raise .sortMismatch).attendOwner n excepted).updateBin n
      fun b => { b with state := .held }
  | .tray =>
    State.raise .sortMismatch
      { s with sorter := { s.sorter with tray :=
          { s.sorter.tray with stray := saturate 255 s.sorter.tray.stray, state := .occupied } } }

/-- The MISDELIVERED note (R129). -/
def PrintRecord.noteMisdelivered (p : PrintRecord) : PrintRecord :=
  { p with notes := { p.notes with misdelivered := true } }

/-- A misdelivery: the oldest print is taken to be the one that fell, wherever it fell (R129). -/
def State.misdeliver (place : Target) (s : State) : State :=
  match s.sorter.queue with
  | [] => s
  | e :: _ => ((s.popSorter).deliverAt e.print.noteMisdelivered place).markStray place (some e.print.order)

/-- Judge a drop against the sorter queue: delivery, loss and delivery, misdelivery or stray (R127 to R130). -/
def State.judgeDrop (place : Target) (s : State) : State :=
  match s.sorter.queue with
  | [] => s.markStray place none
  | oldest :: rest =>
    if oldest.target = place then s.deliverOldest
    else
      match rest with
      | second :: _ => if second.target = place then s.loseOldest.deliverOldest else s.misdeliver place
      | [] => s.misdeliver place

/-- Lose the oldest entry while its deadline does not lie ahead; the fuel is the length of the queue (R131). -/
def State.expireOldest : Nat → State → State
  | 0, s => s
  | fuel + 1, s =>
    match s.sorter.queue with
    | e :: _ => if e.deadline ≤ s.now then State.expireOldest fuel s.loseOldest else s
    | [] => s

/-- Entries whose deadline has passed are lost as soon as they are the oldest (R131). -/
def State.expire (s : State) : State := State.expireOldest s.sorter.queue.length s

/-- DROP at bin 1 to 24, or at the tray as place 25 (R127 to R130; an entry that becomes the oldest after its deadline is
lost at once, R131). -/
def execDrop (place : Nat) (s : State) : Host.Outcome State Fault Refusal :=
  if 1 ≤ place ∧ place ≤ 25 then s.event fun s => (s.judgeDrop (Target.ofPlace place)).expire
  else .fault (.noSuchInput place)

/-- The deadline of the oldest entry is reached (R131). The part takes it of itself only when the time has come and the entry is
the oldest still (`State.dueEvents`); a command from outside is that event for the entry that is the oldest then, and the
clock stands at its deadline at least (log entry 6). -/
def State.reachDeadline (s : State) : State :=
  match s.sorter.queue with
  | e :: _ => State.expire { s with now := max s.now e.deadline }
  | [] => s

/-- DELIVERY_DEADLINE (R131). -/
def execDeliveryDeadline (s : State) : Host.Outcome State Fault Refusal := s.event State.reachDeadline

/-! ### Clears and BIN RELEASE (R118, R132 to R134) -/

/-- A bin becomes FREE (R118). -/
def Bin.freed (b : Bin) : Bin :=
  { b with state := .free, owner := none, ownerLive := false, count := 0, stray := 0 }

/-- A HELD bin that a clear or a release may free: no print on the belt for it, and no live owner (R132, R134). -/
def Bin.releasable (b : Bin) : Bool := b.pending == 0 && !b.ownerLive

/-- What a clear does to a bin's record (R132). -/
def Bin.cleared (b : Bin) : Bin :=
  match b.state with
  | .free => b
  | .ready => b.freed
  | .held => if b.releasable then b.freed else { b with count := 0, stray := 0 }
  | .filling => { b with count := 0, stray := 0 }

/-- The PICKED_EARLY flag of an order is set (R15). -/
def Order.flagPickedEarly (r : Order) : Order := { r with flags := { r.flags with pickedEarly := true } }

/-- A clear of a bin: its record, and PICKED_EARLY for the order of a FILLING bin (R132). -/
def State.clearBin (n : Nat) (s : State) : State :=
  match s.bin n with
  | none => s
  | some b =>
    let s := s.updateBin n Bin.cleared
    match b.state, b.owner with
    | .filling, some owner => s.updateOrder owner Order.flagPickedEarly
    | _, _ => s

/-- BIN_CLEAR (R132). -/
def execBinClear (n : Nat) (s : State) : Host.Outcome State Fault Refusal :=
  if 1 ≤ n ∧ n ≤ 24 then s.event (State.clearBin n) else .fault (.noSuchInput n)

/-- A clear of the tray (R133). -/
def State.clearTray (s : State) : State :=
  { s with sorter := { s.sorter with tray := { s.sorter.tray with state := .empty, count := 0, stray := 0 } } }

/-- TRAY_CLEAR (R133). -/
def execTrayClear (s : State) : Host.Outcome State Fault Refusal := s.event State.clearTray

/-- The answer to a BIN RELEASE of a bin (R134). -/
def Bin.releaseResult (b : Bin) : StatusResult :=
  match b.state with
  | .free | .ready => .accepted
  | .held => if b.releasable then .accepted else .busy
  | .filling => .busy

/-- What an accepted BIN RELEASE does to the bin's record (R134). -/
def Bin.released (b : Bin) : Bin :=
  match b.state with
  | .free => b
  | .ready => b.freed
  | .held => if b.releasable then b.freed else b
  | .filling => b

/-- The Sorter Unit answers a BIN RELEASE (R134, R171). -/
def State.takeBinRelease (f : InFrame) (s : State) : State :=
  let n := field f.payload 0 1
  State.removeImmediate
    (if f.payload.length = 1 ∧ 1 ≤ n ∧ n ≤ 24 then
      match s.bin n with
      | some b => (s.updateBin n Bin.released).answer f b.releaseResult
      | none => s.answer f .range
    else s.answer f .range)

/-- BIN_RELEASE (R134). -/
def execBinRelease (s : State) : Host.Outcome State Fault Refusal :=
  s.event (State.onImmediate .binRelease State.takeBinRelease)

/-! ### Lamps (R135, R136) -/

/-- A square wave that starts high at the release of the reset pin and is high for the first half of its period (R135). -/
def phaseHigh (period now : Nat) : Bool := decide (now % period < period / 2)

/-- The microseconds of each lamp period for which the carrier of a duty code is high (R135). -/
def carrierHigh : Nat → Nat
  | 0 => 0 | 1 => 250 | 2 => 333 | 3 => 500 | 4 => 1000 | _ => 0

/-- A pattern is lit at a time: the carrier is high and so is every phase of its envelope set (R135). -/
def LampPattern.lit (p : LampPattern) (now : Nat) : Bool :=
  decide (now % 1000 < carrierHigh p.carrier) && (!p.hz4 || phaseHigh 250000 now) && (!p.hz2 || phaseHigh 500000 now) &&
    (!p.hz1 || phaseHigh 1000000 now) && (!p.hzHalf || phaseHigh 2000000 now)

/-- The number of the pattern that a bin's lamp shows (R136). -/
def Bin.pattern (b : Bin) : Nat :=
  match b.state with
  | .free => 0
  | .filling => 1
  | .ready => if b.ownerClass = .express then 3 else 2
  | .held => if b.releasable then 4 else 5

/-- The lamp of bin n is lit; while the reset pin is held low every lamp is dark (R135, R136). -/
def State.lampLit (n : Nat) (s : State) : Bool :=
  match s.bin n with
  | none => false
  | some b =>
    match s.sorter.lamps[b.pattern]? with
    | some p => !s.inReset && p.lit s.now
    | none => false

/-! ### The sort map (R137) -/

/-- Read window i of a SORTMAP LOAD (R137). -/
def parseWindow (payload : List Byte) (i : Nat) : Option Window :=
  let base := field payload (5 * i + 1) 1
  let mask := field payload (5 * i + 2) 1
  let first := field payload (5 * i + 3) 1
  let last := field payload (5 * i + 4) 1
  match yesNoOf (field payload (5 * i) 1) with
  | some enabled =>
    if base ≤ 63 ∧ mask ≤ 63 ∧ 1 ≤ first ∧ first ≤ last ∧ last ≤ 24 then
      some { enabled := enabled, base := base, mask := mask, first := first, last := last }
    else none
  | none => none

/-- Read lamp pattern i of a SORTMAP LOAD (R137). -/
def parseLamp (payload : List Byte) (i : Nat) : Option LampPattern :=
  let at0 := 41 + 5 * i
  match yesNoOf (field payload (at0 + 1) 1), yesNoOf (field payload (at0 + 2) 1), yesNoOf (field payload (at0 + 3) 1),
      yesNoOf (field payload (at0 + 4) 1) with
  | some hz4, some hz2, some hz1, some hzHalf =>
    if field payload at0 1 ≤ 4 then
      some { carrier := field payload at0 1, hz4 := hz4, hz2 := hz2, hz1 := hz1, hzHalf := hzHalf }
    else none
  | _, _, _, _ => none

/-- A SORTMAP LOAD payload: eight windows, C_bin and six patterns, or nothing if a check of R137's item 1 fails. -/
def parseSortmapLoad (payload : List Byte) : Option (List Window × Nat × List LampPattern) :=
  let capacity := field payload 40 1
  if payload.length = 71 ∧ 20 ≤ capacity ∧ capacity ≤ 250 then
    match (List.range 8).mapM (parseWindow payload), (List.range 6).mapM (parseLamp payload) with
    | some windows, some lamps => some (windows, capacity, lamps)
    | _, _ => none
  else none

/-- The Sorter Unit answers a SORTMAP LOAD (R137). -/
def State.takeSortmapLoad (f : InFrame) (s : State) : State :=
  State.removeImmediate
    (match parseSortmapLoad f.payload with
    | none => s.answer f .range
    | some (windows, capacity, lamps) =>
      if s.sorter.bins.any fun b => decide (capacity < b.count + b.pending) then s.answer f .busy
      else
        State.answer f .accepted
          { s with sorter := { s.sorter with
              windows := windows, capacity := capacity, lamps := lamps,
              generation := nextGeneration s.sorter.generation } })

/-- SORTMAP_LOAD (R137). -/
def execSortmapLoad (s : State) : Host.Outcome State Fault Refusal :=
  s.event (State.onImmediate .sortmapLoad State.takeSortmapLoad)

end Sys2Proof.Machine
end

