-- ==== Sys2Proof/Machine/Exposure.lean ====
section
/-!
DEFINITION. The Exposure Unit (chapter 04): the window, the stages A to E, a line's on-times, the thermal bands, and how its
five loads are checked and applied.
-/

namespace Sys2Proof.Machine

/-! ### The line clock and the window (R67, R68) -/

/-- A colour phase: floor(P / 3) µs (R68). -/
def colourPhase (linePeriod : Nat) : Nat := linePeriod / 3

/-- The denominator of a duty code: 1/4, 1/3, 1/2, 1/1 (R68). -/
def dutyDen : Nat → Nat
  | 0 => 4 | 1 => 3 | 2 => 2 | _ => 1

/-- The exposure window W = floor(Φ × num / den) µs; every duty has num 1 (R68). -/
def exposureWindow (linePeriod duty : Nat) : Nat := colourPhase linePeriod * 1 / dutyDen duty

/-! ### The computation (R71 to R74) -/

/-- A half-up division limited to 4,095: the result, and whether it was clipped (R71, R72). -/
def scaleClipped (a b divisor : Nat) : Nat × Bool :=
  let q := (a * b + divisor / 2) / divisor
  (min q 4095, decide (4095 < q))

/-- Stage B, the paper gain (R71). -/
def stageGain (e gain : Nat) : Nat × Bool := scaleClipped e gain 4096

/-- Stage C, the thermal correction (R72). -/
def stageThermal (e1 k : Nat) : Nat × Bool := scaleClipped e1 k 1024

/-- Stage D, the window (R73). -/
def stageWindow (e2 window : Nat) : Nat := (e2 * window + 2048) / 4096

/-- Stage E, the floor pulse (R73). -/
def stageFloor (t floorPulse window : Nat) : Nat := if 0 < t ∧ t < floorPulse then min floorPulse window else t

/-- The on-time of one sample and whether the sample is clipped (R71 to R74). -/
def onTime (lut : List Nat) (gain k window floorPulse v : Nat) : Nat × Bool :=
  let b := stageGain (lut.getD v 0) gain
  let c := stageThermal b.1 k
  (stageFloor (stageWindow c.1 window) floorPulse window, b.2 || c.2)

/-- What a line is computed with: look-up tables, gains, thermal values, window and floor pulse (R81). -/
structure LineSettings where
  red : List Nat
  green : List Nat
  blue : List Nat
  gain : Rgb
  thermal : Rgb
  window : Nat
  floorPulse : Nat

/-- The on-times of one pixel and the number of its clipped samples (R69, R74). -/
def LineSettings.pixel (l : LineSettings) (v : Rgb) : Rgb × Nat :=
  let r := onTime l.red l.gain.r l.thermal.r l.window l.floorPulse v.r
  let g := onTime l.green l.gain.g l.thermal.g l.window l.floorPulse v.g
  let b := onTime l.blue l.gain.b l.thermal.b l.window l.floorPulse v.b
  (⟨r.1, g.1, b.1⟩, (if r.2 then 1 else 0) + (if g.2 then 1 else 0) + (if b.2 then 1 else 0))

/-- The profile of a slot. -/
def State.profile (slot : Nat) (s : State) : Profile :=
  s.exposure.profiles.getD slot
    { loaded := false, gain := ⟨4096, 4096, 4096⟩, floorPulse := 0, duty := 3, margin := 0 }

/-- The look-up table of a slot and colour, at index 3 × slot + colour (R174). -/
def State.lut (slot colour : Nat) (s : State) : Lut :=
  s.exposure.luts.getD (3 * slot + colour) { loaded := false, entries := [] }

/-- The settings in force for a line of a print (R68, R81). -/
def State.lineSettings (p : PrintRecord) (s : State) : LineSettings :=
  let profile := s.profile p.profile
  { red := (s.lut p.profile 0).entries
    green := (s.lut p.profile 1).entries
    blue := (s.lut p.profile 2).entries
    gain := profile.gain
    thermal := p.thermal.getD ⟨1024, 1024, 1024⟩
    window := exposureWindow s.path.params.linePeriod profile.duty
    floorPulse := profile.floorPulse }

/-! ### Lines (R58) -/

/-- The paper width of a print in pixels: 12 to the millimetre of the width copied into its record (R58, R81). -/
def PrintRecord.paperPixels (p : PrintRecord) : Nat := 12 * p.width

/-- A pixel of the margin code in all three colours (R57, R58). -/
def marginPixel (code : Nat) : Rgb := ⟨code, code, code⟩

/-- The margin line (R57). -/
def State.marginLine (p : PrintRecord) (s : State) : List Rgb :=
  List.replicate p.paperPixels (marginPixel (s.profile p.profile).margin)

/-- The pixels of a LINE payload; one that is too long or of wrong length has pixel count 0 (R58). -/
def linePixels (payload : List Byte) : List Rgb :=
  let n := field payload 0 2
  if 2 ≤ payload.length ∧ n ≤ 3840 ∧ payload.length = 2 + 3 * n then pixelsOf (payload.drop 2) else []

/-- A line fitted to the paper width with the margin code, and whether it had to be fitted (R58). -/
def fitLine (width margin : Nat) (pixels : List Rgb) : List Rgb × Bool :=
  (pixels.take width ++ List.replicate (width - pixels.length) (marginPixel margin), decide (pixels.length ≠ width))

/-! ### Usable slots, thermal bands (R56, R76, R77) -/

/-- A slot is usable when its profile and its three look-up tables are loaded (R76). -/
def State.usable (slot : Nat) (s : State) : Bool :=
  (s.profile slot).loaded && (s.lut slot 0).loaded && (s.lut slot 1).loaded && (s.lut slot 2).loaded

/-- The thermal band of a reading: floor((reading − base) / width), clamped to 0 to 15 (R56). -/
def ThermalTable.band (t : ThermalTable) (reading : Int) : Nat :=
  (max 0 (min 15 ((reading - t.base) / (t.width : Int)))).toNat

/-- The thermal values of a reading's band. -/
def ThermalTable.values (t : ThermalTable) (reading : Int) : Rgb := t.bands.getD (t.band reading) ⟨1024, 1024, 1024⟩

/-- The reading of a channel (R94). -/
def State.reading (channel : Nat) (s : State) : Int :=
  match s.monitor.channels[channel]? with
  | some c => c.reading
  | none => 0

/-- The three thermal values captured at a print start (R56). -/
def State.captureThermal (s : State) : Rgb :=
  let t := s.exposure.thermal
  ⟨(t.values (s.reading 0)).r, (t.values (s.reading 1)).g, (t.values (s.reading 2)).b⟩

/-! ### The lit emitters (R68, R69) -/

/-- The on-times with which a head pixel is driven: 0 beyond the driven pixels (R69). -/
def State.drivenPixel (i : Nat) (s : State) : Rgb := s.exposure.drive.getD i ⟨0, 0, 0⟩

/-- The microseconds since the step that began the line period (R67, R68). -/
def State.sinceStep (s : State) : Nat := s.now + (s.exposure.reload + 1) - s.exposure.stepDue

/-- The emitter of a pixel and a colour (R 0, G 1, B 2) is lit: from the start of its phase for its on-time (R68). -/
def State.emitterLit (i colour : Nat) (s : State) : Bool :=
  let t := s.drivenPixel i
  let onTime := match colour with | 0 => t.r | 1 => t.g | _ => t.b
  let phase := colourPhase s.path.params.linePeriod
  !s.inReset && decide (colour * phase ≤ s.sinceStep ∧ s.sinceStep < colour * phase + onTime)

/-! ### The loads (R75 to R80) -/

/-- The eight width codes (00_scope, "Quantities and units"). -/
def widthCodes : List Nat := [89, 102, 127, 152, 203, 210, 254, 305]

/-- The Exposure Unit answers a PAPER LOAD: NOT_IDLE before the range check (R79, R80, R171). -/
def State.takePaperLoad (f : InFrame) (s : State) : State :=
  State.removeSequenced
    (if s.path.run ≠ .idle then s.answer f .notIdle
    else
      match Surface.ofCode (field f.payload 2 1) with
      | some surface =>
        if f.payload.length = 7 ∧ field f.payload 0 2 ∈ widthCodes ∧ field f.payload 3 1 ≤ 3 ∧
            field f.payload 4 3 ≤ 4000000 then
          State.answer f .accepted
            { s with exposure := { s.exposure with
                paper :=
                  { loaded := true, width := field f.payload 0 2, surface := surface, profile := field f.payload 3 1,
                    remaining := field f.payload 4 3 }
                paperGeneration := nextGeneration s.exposure.paperGeneration } }
        else s.answer f .range
      | none => s.answer f .range)

/-- The profile that a PROFILE LOAD carries, with its slot, or nothing if it is out of range (R75, R80). -/
def parseProfileLoad (payload : List Byte) : Option (Nat × Profile) :=
  let gain : Rgb := ⟨field payload 1 2, field payload 3 2, field payload 5 2⟩
  if payload.length = 10 ∧ field payload 0 1 ≤ 3 ∧ 2048 ≤ gain.r ∧ gain.r ≤ 8191 ∧ 2048 ≤ gain.g ∧ gain.g ≤ 8191 ∧
      2048 ≤ gain.b ∧ gain.b ≤ 8191 ∧ field payload 7 1 ≤ 31 ∧ field payload 8 1 ≤ 3 then
    some (field payload 0 1,
      { loaded := true, gain := gain, floorPulse := field payload 7 1, duty := field payload 8 1,
        margin := field payload 9 1 })
  else none

/-- The Exposure Unit answers a PROFILE LOAD (R75, R80). -/
def State.takeProfileLoad (f : InFrame) (s : State) : State :=
  State.removeSequenced
    (match parseProfileLoad f.payload with
    | some (slot, profile) =>
      State.answer f .accepted
        { s with exposure := { s.exposure with
            profiles := s.exposure.profiles.set slot profile
            profileGeneration := nextGeneration s.exposure.profileGeneration } }
    | none => s.answer f .range)

/-- The index and the entries that a LUT LOAD carries, or nothing if it is out of range (R76, R80). -/
def parseLutLoad (payload : List Byte) : Option (Nat × List Nat) :=
  let entries := numbersOf payload 2 2 256
  if payload.length = 514 ∧ field payload 0 1 ≤ 3 ∧ field payload 1 1 ≤ 2 ∧ (entries.all fun e => decide (e ≤ 4095)) then
    some (3 * field payload 0 1 + field payload 1 1, entries)
  else none

/-- The Exposure Unit answers a LUT LOAD (R76, R80). -/
def State.takeLutLoad (f : InFrame) (s : State) : State :=
  State.removeSequenced
    (match parseLutLoad f.payload with
    | some (i, entries) =>
      State.answer f .accepted
        { s with exposure := { s.exposure with
            luts := s.exposure.luts.set i { loaded := true, entries := entries }
            lutGeneration := nextGeneration s.exposure.lutGeneration } }
    | none => s.answer f .range)

/-- The table that a THERMAL LOAD carries, or nothing if it is out of range (R77, R80). -/
def parseThermalLoad (payload : List Byte) : Option ThermalTable :=
  let base := fieldInt payload 0 2
  let width := field payload 2 1
  let values := numbersOf payload 3 2 48
  if payload.length = 99 ∧ -40 ≤ base ∧ base ≤ 240 ∧ 1 ≤ width ∧ width ≤ 16 ∧
      (values.all fun k => decide (768 ≤ k ∧ k ≤ 1279)) then
    some
      { base := base, width := width,
        bands := (List.range 16).map fun i =>
          ⟨values.getD (3 * i) 1024, values.getD (3 * i + 1) 1024, values.getD (3 * i + 2) 1024⟩ }
  else none

/-- The Exposure Unit answers a THERMAL LOAD (R77, R80). -/
def State.takeThermalLoad (f : InFrame) (s : State) : State :=
  State.removeSequenced
    (match parseThermalLoad f.payload with
    | some table =>
      State.answer f .accepted
        { s with exposure := { s.exposure with
            thermal := table, thermalGeneration := nextGeneration s.exposure.thermalGeneration } }
    | none => s.answer f .range)

/-- The size code and the entry that a SIZE LOAD carries, or nothing if it is out of range (R78, R80). -/
def parseSizeLoad (payload : List Byte) : Option (Nat × SizeEntry) :=
  let length := field payload 3 2
  if payload.length = 6 ∧ field payload 0 1 ≤ 15 ∧ field payload 1 2 ∈ widthCodes ∧ 900 ≤ length ∧ length ≤ 6000 ∧
      field payload 5 1 ≤ 3 then
    some (field payload 0 1, { loaded := true, width := field payload 1 2, length := length, group := field payload 5 1 })
  else none

/-- The Exposure Unit answers a SIZE LOAD (R78, R80). -/
def State.takeSizeLoad (f : InFrame) (s : State) : State :=
  State.removeSequenced
    (match parseSizeLoad f.payload with
    | some (i, entry) =>
      State.answer f .accepted
        { s with exposure := { s.exposure with
            sizes := s.exposure.sizes.set i entry, sizeGeneration := nextGeneration s.exposure.sizeGeneration } }
    | none => s.answer f .range)

end Sys2Proof.Machine
end

