-- ==== Sys2Proof/Machine/Path.lean ====
section
/-!
DEFINITION. The Path Unit (chapter 02): halts, the end of a drain, new segments, the choice of the next segment, chemistry and
dwell marking, RUN START and RUN END.
-/

namespace Sys2Proof.Machine

/-! ### When stepping stops (R27, R35, R64, R70) -/

/-- The head segment is cut short where it stands (R27). -/
def Segment.cutShort (g : Segment) : Segment := { g with planned := g.length }

/-- A segment is flagged ABORTED (R35). -/
def Segment.flagAborted (g : Segment) : Segment := { g with flags := { g.flags with aborted := true } }

/-- Stepping stops: the head segment is cut short and the head goes dark (R27, R70). -/
def State.stopStepping (s : State) : State :=
  State.modifyHead Segment.cutShort { s with exposure := { s.exposure with drive := [] } }

/-- The exposure of a print that is exposing ends where the paper stops; a reader that is still feeding it discards the
rest of its frames (R35, R43, R64). -/
def State.endExposure (s : State) : State :=
  if s.exposing then
    State.modifyHead Segment.flagAborted
      { s with reader := { s.reader with
          source := none, lastLine := none, mode := if s.reader.mode = .feeding then .discarding else s.reader.mode } }
  else s

/-- The run enters HALTED: the paper stops, the cause is recorded, the drain cause is cleared and the dwell timer starts
(R35, R42). -/
def State.halt (cause : HaltCause) (s : State) : State :=
  let s := s.endExposure.stopStepping
  { s with path := { s.path with
      run := .halted, haltCause := some cause, drainCause := none
      dwell := .running (s.now + s.path.params.tDwell * 1000000) } }

/-- A fault halts a run that is STARTING, RUNNING or DRAINING, and leaves any other run as it is (R33). -/
def State.haltIfMoving (cause : HaltCause) (s : State) : State := if s.stepping then s.halt cause else s

/-- A drain ends: stepping stops and the run enters IDLE; a drain for paper discards the staged print (R32). -/
def State.endDrain (s : State) : State :=
  let cause := s.path.drainCause
  let s := s.stopStepping
  let s := { s with path := { s.path with run := .idle, drainCause := none } }
  if cause = some .paper then s.discardStaged .aborted .discarding else s

/-! ### Segments (R24 to R27, R38, R39, R98) -/

/-- A new record at the head, at the web position, with nothing fed yet (R27). -/
def Segment.fresh (kind : SegmentKind) (position : Nat) (planned : Nat) (print : Option PrintRecord) : Segment where
  kind := kind
  start := position
  length := 0
  planned := planned
  print := print
  flags := {}
  lead := .pending

/-- A segment begins at the head: its record is appended, the punch fires, and its leading boundary becomes current where
the Cutter Unit was waiting for it (R27, R98, R101). -/
def State.beginSegment (kind : SegmentKind) (planned : Nat) (print : Option PrintRecord) (s : State) : State :=
  { s with
    path := { s.path with queue := s.path.queue ++ [Segment.fresh kind s.path.position planned print] }
    outputs := { s.outputs with punchPulse := 2 }
    cutter := { s.cutter with
      current := match s.cutter.current with
        | some b => some b
        | none => some (.record s.path.position) } }

/-- The paper reserve R = L_cut + 240 (R29, R37). -/
def State.paperReserve (s : State) : Nat := s.path.params.lCut + 240

/-- The paper test: the remaining count less the planned length is at least R (R37). -/
def State.paperTest (planned : Nat) (s : State) : Bool :=
  decide (planned + s.paperReserve ≤ s.exposure.paper.remaining)

/-- The number of LINE frames at the front of the Print Store. -/
def linesInFront (store : List InFrame) : Nat := (store.takeWhile fun f => f.kind == .line).length

/-- The staged print is ready: k LINE frames stand at the front, or fewer followed by another frame (R53). -/
def State.stagedReady (s : State) : Bool :=
  s.reader.staged.isSome &&
    (decide (s.path.params.prefill ≤ linesInFront s.store) || decide (linesInFront s.store < s.store.length))

/-- The candidate of R36: the staged print, if it is ready and no hold is on. -/
def State.candidate (s : State) : Option PrintRecord :=
  if !s.headHold && !s.chemistryHold && s.stagedReady then s.reader.staged else none

/-- The staged print starts: the reader hands its record over, with the thermal values of this moment, and feeds it
(R38, R56). -/
def State.startPrint (p : PrintRecord) (s : State) : State :=
  State.beginSegment .print p.length (some { p with thermal := some s.captureThermal })
    { s with reader := { s.reader with
        mode := .feeding, staged := none, source := some .store, lastLine := none, awaited := none } }

/-- A waste unit begins (R39). -/
def State.beginWaste (s : State) : State := s.beginSegment .waste s.path.params.wasteUnit none

/-- What comes of a step that falls due: it is issued, or it is not (R27, R32, R34). -/
abbrev Due := State × Bool

/-- The paper test has failed: the run drains for paper, PAPER_LOW is raised, and a waste unit begins, unless no PRINT
segment is left to drain (R32, R37). -/
def State.drainForPaper (s : State) : Due :=
  let s := State.raise .paperLow { s with path := { s.path with run := .draining, drainCause := some .paper } }
  if s.hasPrint then (s.beginWaste, true) else (s.endDrain, false)

/-- The choice at a boundary reached in RUNNING (R36, R37). -/
def State.chooseRunning (s : State) : Due :=
  match s.candidate with
  | some p => if s.paperTest p.length then (s.startPrint p, true) else s.drainForPaper
  | none => if s.paperTest s.path.params.wasteUnit then (s.beginWaste, true) else s.drainForPaper

/-- A step due with no paper halts the run (R34). -/
def State.haltForPaper (s : State) : State := (s.halt .paperOut).raise .paperLow

/-- The choice at a boundary: the ramp, a print, waste, or the end of the drain (R27, R31, R32, R36). -/
def State.chooseSegment (s : State) : Due :=
  match s.path.run with
  | .starting =>
    if s.path.rampDue then
      (State.beginSegment .ramp s.path.params.rampLength none { s with path := { s.path with rampDue := false } }, true)
    else State.chooseRunning { s with path := { s.path with run := .running } }
  | .running => s.chooseRunning
  | .draining => (s.beginWaste, true)
  | .idle | .halted => (s, false)

/-- The head segment has its planned length, so the step that falls due is a boundary (R27). -/
def State.atBoundary (s : State) : Bool :=
  match s.headSegment with
  | some g => g.length == g.planned
  | none => true

/-- A step falls due: the end of a drain, PAPER_OUT, PATH_FULL, a new segment, or the same segment (R26, R27, R32, R34; log
entry 11). -/
def State.fallsDue (s : State) : Due :=
  if s.atBoundary then
    if s.path.run = .draining ∧ ¬ s.hasPrint then (s.endDrain, false)
    else if s.exposure.paper.remaining = 0 then (s.haltForPaper, false)
    else if 128 ≤ s.path.queue.length then (s.halt .pathFull, false)
    else s.chooseSegment
  else if s.exposure.paper.remaining = 0 then (s.haltForPaper, false)
  else (s, true)

/-! ### Chemistry and dwell (R24, R40 to R42) -/

/-- A segment overlaps the chemistry zone at a web position (R24). -/
def Segment.overlaps (zIn zOut : Nat) (position : Nat) (g : Segment) : Bool :=
  decide (0 < g.length ∧ (zIn : Int) ≤ position - g.start ∧ (position : Int) - g.start - g.length + 1 ≤ zOut)

/-- Flag a PRINT record CHEM (R40, R41). -/
def Segment.flagChem (g : Segment) : Segment := { g with flags := { g.flags with chem := true } }

/-- Flag a PRINT record DWELL (R42). -/
def Segment.flagDwell (g : Segment) : Segment := { g with flags := { g.flags with dwell := true } }

/-- Change every PRINT record that overlaps the chemistry zone. -/
def State.markZone (f : Segment → Segment) (s : State) : State :=
  s.mapSegments fun g =>
    if g.kind = .print ∧ g.overlaps s.path.params.zIn s.path.params.zOut s.path.position then f g else g

/-- While DEV is TRIPPED, a PRINT record whose leading boundary comes to Z_in is flagged CHEM (R41). -/
def State.markZoneEntry (s : State) : State :=
  if s.tripped 3 then
    s.mapSegments fun g =>
      if g.kind = .print ∧ (s.path.position : Int) - g.start = s.path.params.zIn then g.flagChem else g
  else s

/-- The dwell timer expires (R42). -/
def State.expireDwell (s : State) : State :=
  match s.path.dwell with
  | .running due =>
    State.raise .dwellExpired
      (State.markZone Segment.flagDwell { s with now := max s.now due, path := { s.path with dwell := .expired } })
  | .stopped | .expired => s

/-- DWELL_EXPIRY (R42). -/
def execDwellExpiry (s : State) : Host.Outcome State Fault Refusal := s.event State.expireDwell

/-! ### RUN START and RUN END (R29, R30, R31, R171) -/

/-- The result of a RUN START (R29). -/
def State.judgeRunStart (s : State) : StatusResult :=
  match s.path.run with
  | .idle | .halted =>
    if ¬ s.exposure.paper.loaded ∨ s.exposure.paper.remaining < s.paperReserve + s.path.params.wasteUnit then .noPaper
    else if s.alerts.estop.level ∨ s.alerts.jam.level then .blocked
    else if s.path.queue.length = 128 then .busy
    else .accepted
  | .draining => if s.path.drainCause = some .runEnd then .accepted else .noPaper
  | .starting | .running => .busy

/-- The run enters STARTING: the ramp is due, the dwell timer stops without marking, and the line clock is loaded (R29, R31,
R42, R67). -/
def State.startRun (s : State) : State :=
  { s with
    path := { s.path with run := .starting, haltCause := none, dwell := .stopped, rampDue := true }
    exposure := { s.exposure with
      reload := s.path.params.linePeriod - 1, stepDue := s.now + s.path.params.linePeriod } }

/-- What an accepted RUN START does (R29). -/
def State.acceptRunStart (s : State) : State :=
  match s.path.run with
  | .idle | .halted => s.startRun
  | .draining => { s with path := { s.path with run := .running, drainCause := none } }
  | .starting | .running => s

/-- The Path Unit answers a RUN START (R29). -/
def State.takeRunStart (f : InFrame) (s : State) : State :=
  State.removeImmediate
    (if f.payload.length ≠ 0 then s.answer f .range
    else
      (if s.judgeRunStart = .accepted then s.acceptRunStart else s).answer f s.judgeRunStart)

/-- RUN_START (R29). -/
def execRunStart (s : State) : Host.Outcome State Fault Refusal :=
  s.event (State.onImmediate .runStart State.takeRunStart)

/-- What a RUN END does to the run (R30). -/
def State.acceptRunEnd (s : State) : State :=
  match s.path.run with
  | .starting | .running => { s with path := { s.path with run := .draining, drainCause := some .runEnd } }
  | .idle | .draining | .halted => s

/-- The Path Unit answers a RUN END (R30). -/
def State.takeRunEnd (f : InFrame) (s : State) : State :=
  State.removeImmediate
    (if f.payload.length ≠ 0 then s.answer f .range
    else s.acceptRunEnd.answer f (if s.path.run = .halted then .halted else .accepted))

/-- RUN_END (R30). -/
def execRunEnd (s : State) : Host.Outcome State Fault Refusal :=
  s.event (State.onImmediate .runEnd State.takeRunEnd)

end Sys2Proof.Machine
end

