-- ==== Sys2Proof/Machine/Cutter.lean ====
section
/-!
DEFINITION. The Cutter Unit (chapter 06): the boundary under watch, the punch qualifier, matching, the cut cycle and where
each piece goes.
-/

namespace Sys2Proof.Machine

/-! ### The boundary under watch (R101, R106) -/

/-- The PURGE record, if one lives in the path queue (R44). -/
def State.purgeRecord (s : State) : Option Segment := s.path.queue.find? fun g => g.kind == .purge

/-- The start of a boundary: a record's start, or s + j × U for a cut point of the PURGE record (R101, R106). -/
def State.boundaryStart (b : Boundary) (s : State) : Option Int :=
  match b with
  | .record start => some start
  | .cutPoint j => s.purgeRecord.map fun g => g.start + (j * s.path.params.wasteUnit : Nat)

/-- The expected sensing position exp = s + L_cut − d_s + δ (R101). -/
def State.expectedAt (b : Boundary) (s : State) : Option Int :=
  (s.boundaryStart b).map fun start => start + s.path.params.lCut - s.path.params.dSensor + s.cutter.delta

/-- The first record of a queue that begins after a web position. -/
def firstStartAfter (position : Int) (queue : List Segment) : Option Boundary :=
  (queue.find? fun g => decide (position < g.start)).map fun g => .record g.start

/-- Cut point j if the PURGE record has it, and otherwise the record boundary behind the PURGE record (R106). -/
def State.cutPointOr (j : Nat) (s : State) : Option Boundary :=
  match s.purgeRecord with
  | some g =>
    if j * s.path.params.wasteUnit < g.length then some (.cutPoint j) else firstStartAfter g.start s.path.queue
  | none => none

/-- The boundary after one in web order, if its record has begun (R101). -/
def State.nextBoundary (b : Boundary) (s : State) : Option Boundary :=
  match b with
  | .cutPoint j => s.cutPointOr (j + 1)
  | .record start => firstStartAfter start s.path.queue

/-- The first cut point of the PURGE record, or the boundary behind it (R106, R116). -/
def State.firstBoundary (s : State) : Option Boundary := s.cutPointOr 1

/-- Append a boundary's cut and make the next boundary current (R102, R104, R106). -/
def State.fixCut (b : Boundary) (cutAt : Int) (s : State) : State :=
  { s with cutter := { s.cutter with
      cutList := s.cutter.cutList ++ [{ boundary := b, cutAt := cutAt, retry := false }]
      current := s.nextBoundary b } }

/-- Change the records that end or begin at a web position: the two adjacent to a boundary (R104). -/
def State.mapAdjacent (position : Int) (f : Segment → Segment) (s : State) : State :=
  s.mapSegments fun g => if g.start = position ∨ g.start + g.length = position then f g else g

/-- A record is flagged MISCUT (R104, R110, R111). -/
def Segment.flagMiscut (g : Segment) : Segment := { g with flags := { g.flags with miscut := true } }

/-- Set the leading-boundary state of the record that starts at a web position. -/
def State.setLead (start : Int) (lead : LeadState) (s : State) : State :=
  s.mapSegments fun g => if g.start = start then { g with lead := lead } else g

/-! ### Matching (R102 to R105) -/

/-- A boundary that was not matched is missing: it is cut by the count and both records beside it are miscut (R104). -/
def State.declareMissing (start expected : Int) (s : State) : State :=
  let s := (s.setLead start .predicted).mapAdjacent start Segment.flagMiscut
  let s := { s with cutter := { s.cutter with
    missing := saturate 65535 s.cutter.missing, consecutive := saturate 255 s.cutter.consecutive } }
  let s := if 3 ≤ s.cutter.consecutive then s.raise .regMissing else s
  s.fixCut (.record start) (expected + s.path.params.dSensor)

/-- A cut point of the PURGE record is scheduled (R106). -/
def State.scheduleCutPoint (j : Nat) (expected : Int) (s : State) : State :=
  let cutAt := expected + s.path.params.dSensor
  State.fixCut (.cutPoint j) cutAt { s with cutter := { s.cutter with lastPurgeCut := some cutAt } }

/-- Test the current boundary, and the boundaries that become current after it, until one lies ahead; the fuel bounds their
number. The flag says whether a cut point was scheduled (R105, item 2). -/
def State.testBoundaries : Nat → State → State × Bool
  | 0, s => (s, false)
  | fuel + 1, s =>
    match s.cutter.current with
    | none => (s, false)
    | some b =>
      match b, s.expectedAt b with
      | _, none => (s, false)
      | .cutPoint j, some expected =>
        if expected ≤ s.path.position then ((State.testBoundaries fuel (s.scheduleCutPoint j expected)).1, true)
        else (s, false)
      | .record start, some expected =>
        if expected + s.path.params.window + 1 ≤ s.path.position then
          State.testBoundaries fuel (s.declareMissing start expected)
        else (s, false)

/-- As many boundaries as the path can hold: its records and the lines of the PURGE record (R105). -/
def State.boundaryFuel (s : State) : Nat :=
  s.path.queue.length + 1 +
    (match s.purgeRecord with
    | some g => g.length / max 1 s.path.params.wasteUnit + 1
    | none => 0)

/-- Schedule the cut points of the PURGE record that are reached, from the current one on, until one lies ahead or a record
boundary is current; the fuel bounds their number (R106). -/
def State.scheduleReached : Nat → State → State
  | 0, s => s
  | fuel + 1, s =>
    match s.cutter.current with
    | none | some (.record _) => s
    | some (.cutPoint j) =>
      match s.expectedAt (.cutPoint j) with
      | none => s
      | some expected =>
        if expected ≤ s.path.position then State.scheduleReached fuel (s.scheduleCutPoint j expected) else s

/-- The clamp of δ (R102). -/
def clampDelta (d : Int) : Int := max (-240) (min 240 d)

/-- A punch inside the window registers the boundary, and δ follows it (R102). -/
def State.matchPunch (start expected : Int) (s : State) : State :=
  let position : Int := s.path.position
  let s := s.setLead start .registered
  let s := { s with cutter := { s.cutter with
    delta := clampDelta (s.cutter.delta + (position - expected)), consecutive := 0 } }
  s.fixCut (.record start) (position + s.path.params.dSensor)

/-- A punch before its window, or with no boundary under watch, is spurious (R103). -/
def State.spuriousPunch (s : State) : State :=
  State.raise .punchSpurious { s with cutter := { s.cutter with spurious := saturate 65535 s.cutter.spurious } }

/-- Judge a punch detected at this step against the current boundary (R102, R103). -/
def State.judgePunch (s : State) : State :=
  match s.cutter.current with
  | none => s.spuriousPunch
  | some (.cutPoint _) => s
  | some (.record start) =>
    match s.expectedAt (.record start) with
    | none => s
    | some expected =>
      if expected - s.path.params.window ≤ s.path.position ∧ (s.path.position : Int) ≤ expected + s.path.params.window then
        s.matchPunch start expected
      else if (s.path.position : Int) < expected - s.path.params.window then s.spuriousPunch
      else s

/-- The qualified level after a sample: two samples that agree make it (R99). -/
def qualifyPunch (sample last qualified : PunchSample) : PunchSample := if sample = last then sample else qualified

/-- Sample the punch sensor; the flag says whether a punch is detected (R99). -/
def State.samplePunch (sample : PunchSample) (s : State) : State × Bool :=
  let level := qualifyPunch sample s.cutter.lastSample s.cutter.qualified
  ({ s with cutter := { s.cutter with lastSample := sample, qualified := level } },
    decide (s.cutter.qualified = .paper ∧ level = .hole))

/-! ### Firing (R107, R108, R110) -/

/-- Fire the oldest cut list entry: it becomes the cut in progress, and its timer starts (R108). -/
def State.fire (s : State) : State :=
  { s with
    cutter := { s.cutter with progress := some { firedAt := s.now, due := s.now + s.path.params.tCut * 1000 } }
    outputs := { s.outputs with firePulse := 2 } }

/-- The oldest cut list entry, if it is due and no cut is in progress (R107). -/
def State.dueEntry (s : State) : Option CutEntry :=
  match s.cutter.progress, s.cutter.cutList with
  | none, e :: _ => if e.cutAt ≤ s.path.position then some e else none
  | _, _ => none

/-- Fire at a step (R105, item 4). -/
def State.fireAtStep (s : State) : State := if s.dueEntry.isSome then s.fire else s

/-- What the Cutter Unit does at a step, once the web position has been increased (R105). -/
def State.cutterStep (sample : PunchSample) (s : State) : State :=
  let (s, detected) := s.samplePunch sample
  let (s, scheduled) := s.testBoundaries s.boundaryFuel
  let s := if detected ∧ ¬ scheduled then s.judgePunch else s
  s.fireAtStep

/-- A record boundary becomes LATE, and both records beside it are miscut; a cut point has no state (R110, R111). -/
def State.markLate (b : Boundary) (s : State) : State :=
  match b with
  | .record start => (s.setLead start .late).mapAdjacent start Segment.flagMiscut
  | .cutPoint _ => s

/-- Fire at a cut-done the entry that fell due while the cut was in progress; it is LATE, and an entry with the retry mark
waits for a step (R109, R110, R111). -/
def State.fireLate (s : State) : State :=
  match s.dueEntry with
  | some e => if e.retry then s else (s.markLate e.boundary).fire
  | none => s

/-! ### Pieces (R109, R113 to R115) -/

/-- The flap sends the piece one way or the other (R113, R115). -/
def State.setFlap (flap : Flap) (s : State) : State := { s with outputs := { s.outputs with flap := flap } }

/-- The reject reasons of a PRINT record's piece: its damage flags, and CANCELLED where its order is being wound down
(R114). -/
def State.pieceReasons (g : Segment) (p : PrintRecord) (s : State) : List RejectReason :=
  let dying :=
    match s.findOrder p.order with
    | some r => r.state.windingDown.isSome
    | none => false
  DamageFlags.reasons { g.flags with cancelled := g.flags.cancelled || dying }

/-- A good piece goes to the Sorter Unit, which answers with a target or a refusal (R115). -/
def State.sendGood (p : PrintRecord) (s : State) : State :=
  match s.sortPrint p with
  | (.ok _, s) => s.setFlap .conveyor
  | (.error reason, s) => (s.setFlap .chute).rejectPrint p [reason]

/-- Classify the piece of a record that has been removed (R113, R114, R115). -/
def State.classify (g : Segment) (s : State) : State :=
  match g.kind, g.print with
  | .print, some p =>
    match s.pieceReasons g p with
    | [] => s.sendGood p
    | reasons => (s.setFlap .chute).rejectPrint p reasons
  | _, _ => s.setFlap .chute

/-- Remove the oldest record and deal with its piece; a drain ends with its last PRINT record (R26, R32, R109). -/
def State.freePiece (s : State) : State :=
  match s.path.queue with
  | [] => s
  | g :: rest =>
    let s := { s with path := { s.path with queue := rest } }.classify g
    if s.path.run = .draining ∧ g.kind = .print ∧ ¬ s.hasPrint then s.endDrain else s

/-- The cut in progress completes (R109). -/
def State.completeCut (e : CutEntry) (rest : List CutEntry) (s : State) : State :=
  let s := { s with cutter := { s.cutter with progress := none, cutList := rest } }
  let s :=
    match e.boundary with
    | .record _ => s.freePiece
    | .cutPoint _ => s.setFlap .chute
  s.fireLate

/-- A cut-done is taken: it completes the cut in progress, or it is late (R109, R112). -/
def State.takeCutDone (s : State) : State :=
  match s.cutter.progress, s.cutter.cutList with
  | some _, e :: rest => s.completeCut e rest
  | _, _ => s.bump .lateCutDone

/-- CUT_DONE (R109, R112). -/
def execCutDone (s : State) : Host.Outcome State Fault Refusal := s.event State.takeCutDone

/-- T_cut passes for the cut in progress: it is given up with the retry mark (R111). -/
def State.giveUpCut (s : State) : State :=
  match s.cutter.progress, s.cutter.cutList with
  | some progress, e :: rest =>
    (({ s with
        now := max s.now progress.due
        cutter := { s.cutter with progress := none, cutList := { e with retry := true } :: rest } }.markLate
      e.boundary).raise .cutterFault).haltIfMoving .cutter
  | _, _ => s

/-- CUT_TIMEOUT (R111). -/
def execCutTimeout (s : State) : Host.Outcome State Fault Refusal := s.event State.giveUpCut

end Sys2Proof.Machine
end

