-- ==== Sys2Proof/Machine/Run.lean ====
section
/-!
DEFINITION. RUN ABORT and RUNPARAM LOAD (chapter 02), which act on the Path Unit and on the Cutter Unit together.
-/

namespace Sys2Proof.Machine

/-! ### RUN ABORT (R43, R44, R64, R116) -/

/-- Reject the i-th record of the path queue if it is a PRINT: ABORTED, with every reason its flags show (R43). DESIGN CHOICE:
R43 names the reasons alone of what the PRINT FATE REJECTED carries; the model sends all that R114 lists for a piece that is cut
(log entry 38). -/
def State.abortSegment (i : Nat) (s : State) : State :=
  match s.path.queue[i]? with
  | some g =>
    match g.print with
    | some p => s.rejectPrint p (DamageFlags.reasons { g.flags with aborted := true })
    | none => s
  | none => s

/-- Reject every PRINT record, oldest first (R43; log entry 26). -/
def State.abortSegments (s : State) : State :=
  (List.range s.path.queue.length).foldl (fun s i => s.abortSegment i) s

/-- A reader that awaits the PRINT END of a complete print discards its frames from now on (R64). -/
def State.abortAwaiting (s : State) : State :=
  if s.reader.mode = .awaitingEnd then { s with reader := { s.reader with mode := .discarding, awaited := none } } else s

/-- The path queue becomes one PURGE record over the same paper (R44). -/
def State.purgePath (s : State) : State :=
  let start :=
    match s.path.queue with
    | g :: _ => g.start
    | [] => s.path.position
  { s with path := { s.path with queue := [Segment.purge start ((s.path.position : Int) - start).toNat] } }

/-- The Cutter Unit gives up its cut, its list, its offset and its counts, and watches the PURGE record (R116). DEDUCED: the
first cut point is current afterwards, even where the web has reached it; the next step or RUNPARAM LOAD schedules it (log entry
37). -/
def State.resetCutter (s : State) : State :=
  { s with cutter := { s.cutter with
      current := s.firstBoundary, delta := 0, cutList := [], progress := none, consecutive := 0, missing := 0,
      spurious := 0, lastPurgeCut := none } }

/-- What an accepted RUN ABORT does outside IDLE (R43). DESIGN CHOICE: the PRINT records are rejected before the staged print, so
where one of their rejections fails the staged print's order, R20 discards it with reason CANCELLED and not ABORTED (log entry
26). -/
def State.abortRun (s : State) : State :=
  let s := s.endExposure.abortAwaiting.stopStepping
  let s := s.abortSegments
  let s := s.discardStaged .aborted .discarding
  let s := { s with path := { s.path with run := .idle, haltCause := none, drainCause := none, dwell := .stopped } }
  s.purgePath.resetCutter

/-- The Path Unit answers a RUN ABORT (R43, R171). -/
def State.takeRunAbort (f : InFrame) (s : State) : State :=
  State.removeImmediate
    (if f.payload.length ≠ 0 then s.answer f .range
    else if s.path.run = .idle then s.answer f .accepted
    else (s.answer f .accepted).abortRun)

/-- RUN_ABORT (R43). -/
def execRunAbort (s : State) : Host.Outcome State Fault Refusal :=
  s.event (State.onImmediate .runAbort State.takeRunAbort)

/-! ### RUNPARAM LOAD (R46, R106) -/

/-- The parameters that a RUNPARAM LOAD carries, in the order of R46's table, each in the bytes of its range (R172). -/
def parseRunParams (payload : List Byte) : RunParams where
  linePeriod := field payload 0 2
  lCut := field payload 2 2
  dSensor := field payload 4 2
  window := field payload 6 1
  zIn := field payload 7 2
  zOut := field payload 9 2
  wasteUnit := field payload 11 2
  rampLength := field payload 13 2
  prefill := field payload 15 1
  tDwell := field payload 16 2
  tCut := field payload 18 2
  tDel := field payload 20 2
  aMax := field payload 22 1

/-- Every parameter is in the range of R46's table, and Z_in and Z_out meet their joint condition. -/
def RunParams.valid (p : RunParams) : Bool :=
  decide (900 ≤ p.linePeriod ∧ p.linePeriod ≤ 20000 ∧ 12000 ≤ p.lCut ∧ p.lCut ≤ 60000 ∧ 60 ≤ p.dSensor ∧
    p.dSensor ≤ 1200 ∧ 6 ≤ p.window ∧ p.window ≤ 120 ∧ 1200 ≤ p.zIn ∧ p.zIn < p.zOut ∧ p.zOut + 1200 ≤ p.lCut ∧
    600 ≤ p.wasteUnit ∧ p.wasteUnit ≤ 2400 ∧ 600 ≤ p.rampLength ∧ p.rampLength ≤ 6000 ∧ 1 ≤ p.prefill ∧
    p.prefill ≤ 40 ∧ 1 ≤ p.tDwell ∧ p.tDwell ≤ 600 ∧ 10 ≤ p.tCut ∧ p.tCut ≤ 500 ∧ 500 ≤ p.tDel ∧
    p.tDel ≤ 10000 ∧ 1 ≤ p.aMax ∧ p.aMax ≤ 7)

/-- A PURGE record of the default length takes the new one, and its end stays where it was (R46). -/
def Segment.resizePurge (old new : Nat) (g : Segment) : Segment :=
  if g.kind = .purge ∧ g.length = old + 240 then
    { g with start := g.start + g.length - (new + 240 : Nat), length := new + 240, planned := new + 240 }
  else g

/-- The least j of 1 or more whose cut position lies beyond the last scheduled cut point's (R106). -/
def State.resumeIndex (s : State) : Nat :=
  match s.cutter.lastPurgeCut, s.purgeRecord with
  | some last, some g =>
    let before := last - g.start - s.path.params.lCut - s.cutter.delta
    (max 1 (before / (s.path.params.wasteUnit : Int) + 1)).toNat
  | _, _ => 1

/-- While a cut point is current, the later cut points are formed afresh after a load, and those that are reached then are
scheduled within it. A record boundary that becomes current so is tested at the next step (R104, R106). -/
def State.reformCutPoints (s : State) : State :=
  match s.cutter.current with
  | some (.cutPoint _) =>
    State.scheduleReached s.boundaryFuel { s with cutter := { s.cutter with current := s.cutPointOr s.resumeIndex } }
  | some (.record _) => s
  | none => s

/-- The parameters are replaced together (R46). -/
def State.applyRunParams (p : RunParams) (s : State) : State :=
  State.reformCutPoints
    { s with path := { s.path with
        queue := s.path.queue.map (Segment.resizePurge s.path.params.lCut p.lCut)
        params := p
        generation := nextGeneration s.path.generation } }

/-- The Path Unit answers a RUNPARAM LOAD: NOT_IDLE before the range check (R46, R171). -/
def State.takeRunparamLoad (f : InFrame) (s : State) : State :=
  State.removeSequenced
    (if s.path.run ≠ .idle then s.answer f .notIdle
    else if f.payload.length = 23 ∧ (parseRunParams f.payload).valid then
      (s.applyRunParams (parseRunParams f.payload)).answer f .accepted
    else s.answer f .range)

end Sys2Proof.Machine
end

