-- ==== Sys2Proof/Machine/Reader.lean ====
section
/-!
DEFINITION. The Store Reader (chapter 03): what it does with the frame at the front of the Print Store in each mode, the checks
of a print header, and the eleven commands that act there.
-/

namespace Sys2Proof.Machine

/-! ### The end of a print's stream (R60, R61, R62) -/

/-- Note the exposing print, whose record stands in the head segment. -/
def State.noteHead (f : Notes → Notes) (s : State) : State :=
  s.modifyHead fun g => { g with print := g.print.map fun p => { p with notes := f p.notes } }

/-- The print's stream has ended early: the print and its segment are flagged SHORT, the margin code supplies the rest, and
the reader reads on (R60). -/
def State.endStreamShort (s : State) : State :=
  let s := s.noteHead fun n => { n with short := true }
  let s := s.modifyHead fun g => { g with flags := { g.flags with short := true } }
  { s with reader := { s.reader with source := some .margin, mode := .reading } }

/-- The implicit end of a stream that is being fed: MISSING_END beside SHORT (R61). -/
def State.endStreamImplicit (s : State) : State :=
  (s.noteHead fun n => { n with missingEnd := true }).endStreamShort

/-- Note the complete print whose PRINT END is awaited, in the path or on the belt (R61, R62; log entry 13). -/
def State.noteAwaited (f : Notes → Notes) (s : State) : State :=
  match s.reader.awaited with
  | none => s
  | some key =>
    let note (p : PrintRecord) : PrintRecord := if p.key = key then { p with notes := f p.notes } else p
    let s := s.mapSegments fun g => { g with print := g.print.map note }
    { s with sorter := { s.sorter with queue := s.sorter.queue.map fun e => { e with print := note e.print } } }

/-- The reader enters READING and awaits no PRINT END. -/
def State.enterReading (s : State) : State :=
  { s with reader := { s.reader with mode := .reading, awaited := none } }

/-- A frame other than LINE and PRINT END has reached the front: in FEEDING and AWAITING_END it is an implicit end, in
DISCARDING it ends the discarding, and the reader enters READING (R55, R61). -/
def State.toReading (s : State) : State :=
  match s.reader.mode with
  | .feeding => s.endStreamImplicit
  | .awaitingEnd => (s.noteAwaited fun n => { n with missingEnd := true }).enterReading
  | .discarding => s.enterReading
  | .reading | .staged => s

/-- Act on the frame at the front of the Print Store if it is of the given kind and the reader's mode does not make it wait.
The command has no effect where another frame, or none, stands there (R49, R50, R53; log entry 1). -/
def State.onSequenced (kind : InKind) (act : InFrame → State → State) (s : State) : State :=
  match s.store with
  | f :: _ => if f.kind = kind ∧ s.reader.mode ≠ .staged then act f s.toReading else s
  | [] => s

/-- A load of the exposure tables waits at the front while a print is exposing (R50). -/
def State.unlessExposing (act : InFrame → State → State) (f : InFrame) (s : State) : State :=
  if s.exposing then s else act f s

/-! ### Print headers (R5 to R7, R51, R52) -/

/-- A print header's fields (R51, R52). -/
structure Header where
  order : Nat
  index : Nat
  remake : Bool
  size : Nat
  wanted : Surface
  charge : Bool
  deriving DecidableEq, Repr

/-- Read a header: order number, index, remake flag, size code, surface wanted, charge flag (R51). In a frame of wrong length the
order number and the index are read as they stand, or as 0 where the frame is too short to hold them (R171). DESIGN CHOICE: R171
does not say how the remake flag of such a frame, which its PRINT FATE REFUSED carries, is read; the model reads yes where the
frame holds that byte and it is 1, and no otherwise (log entry 39). -/
def parseHeader (payload : List Byte) : Header where
  order := fieldOrZero payload 0 3
  index := fieldOrZero payload 3 2
  remake := fieldOrZero payload 5 1 == 1
  size := fieldOrZero payload 6 1
  wanted := Surface.ofHeader (fieldOrZero payload 7 1)
  charge := chargeOfHeader (fieldOrZero payload 8 1)

/-- A header has its length, and its remake flag is yes or no (R171, R172; log entry 21). -/
def headerFormed (payload : List Byte) : Bool := payload.length == 9 && (yesNoOf (fieldOrZero payload 5 1)).isSome

/-- The remake list entry of an index. -/
def Order.remakeOf (index : Nat) (r : Order) : Option Remake := r.remakes.find? fun e => e.index = index

/-- Step 2 of the check for an original print (R5). -/
def Order.refuseOriginal (index : Nat) (r : Order) : Option RefusalReason :=
  if r.state ≠ .opened then some .orderClosed
  else if index ≠ r.sent + 1 ∨ 999 < index then some .sequence
  else if r.announced = some r.sent then some .overcount
  else none

/-- Step 2 of the check for a remake print (R6). -/
def Order.refuseRemake (index : Nat) (r : Order) : Option RefusalReason :=
  if (r.state = .opened ∨ r.state = .closed) ∧ (r.remakeOf index).isSome then none else some .notPending

/-- Steps 3 to 5: the size is loaded, the paper has its width, and the paper's profile is usable (R51, R76). -/
def State.refusePaper (size : Nat) (s : State) : Option RefusalReason :=
  match s.exposure.sizes[size]? with
  | none => some .noSize
  | some entry =>
    if ¬ entry.loaded then some .noSize
    else if ¬ s.exposure.paper.loaded ∨ s.exposure.paper.width ≠ entry.width then some .paperWidth
    else if ¬ s.usable s.exposure.paper.profile then some .noProfile
    else none

/-- The five steps of the header check; the first that fails gives the reason (R51). -/
def State.refuseHeader (h : Header) (s : State) : Option RefusalReason :=
  match s.findOrder h.order with
  | none => some .unknownOrder
  | some r =>
    match if h.remake then r.refuseRemake h.index else r.refuseOriginal h.index with
    | some reason => some reason
    | none => s.refusePaper h.size

/-- The attempt of an accepted print: 1, or that of its remake entry (R7, R52). -/
def Order.attemptOf (h : Header) (r : Order) : Nat :=
  if h.remake then ((r.remakeOf h.index).map Remake.attempt).getD 1 else 1

/-- Remove the first remake entry of an index; the entries after it keep their order (R7). -/
def removeRemake (index : Nat) : List Remake → List Remake
  | [] => []
  | e :: rest => if e.index = index then rest else e :: removeRemake index rest

/-- The order record after the acceptance of a header (R7). -/
def Order.acceptHeader (h : Header) (used : Surface) (r : Order) : Order :=
  { r with
    sent := if h.remake then r.sent else r.sent + 1
    inFlight := r.inFlight + 1
    remakes := if h.remake then removeRemake h.index r.remakes else r.remakes
    flags := { r.flags with substituted := r.flags.substituted || decide (used ≠ h.wanted) } }

/-- The staged print of an accepted header (R52): the length is the size entry's, and surface used, profile and width are the
paper record's (R81). -/
def PrintRecord.ofHeader (h : Header) (attempt length : Nat) (used : Surface) (profile width : Nat) : PrintRecord where
  order := h.order
  index := h.index
  remake := h.remake
  attempt := attempt
  size := h.size
  length := length
  wanted := h.wanted
  used := used
  profile := profile
  width := width
  charge := h.charge
  exposed := 0
  underruns := 0
  widthFits := 0
  clipped := 0
  thermal := none
  notes := { substituted := decide (used ≠ h.wanted) }

/-- A refused header: it is removed, its fate and its counter follow, and its frames are discarded (R51). -/
def State.refusePrint (h : Header) (reason : RefusalReason) (s : State) : State :=
  let s := (s.report .printFate (refusedPayload h.order h.index h.remake reason)).bump .refused
  State.removeSequenced { s with reader := { s.reader with mode := .discarding } }

/-- An accepted header: its order records it, and the reader holds the staged print (R7, R52). -/
def State.acceptPrint (h : Header) (r : Order) (length : Nat) (s : State) : State :=
  let paper := s.exposure.paper
  let p := PrintRecord.ofHeader h (r.attemptOf h) length paper.surface paper.profile paper.width
  let s := (s.updateOrder r.number (Order.acceptHeader h paper.surface)).bump .accepted
  State.removeSequenced { s with reader := { s.reader with mode := .staged, staged := some p } }

/-- The reader acts on a print header in READING (R51, R52, R171). -/
def State.takePrintHeader (f : InFrame) (s : State) : State :=
  let h := parseHeader f.payload
  if ¬ headerFormed f.payload then s.refusePrint h .range
  else
    match s.refuseHeader h with
    | some reason => s.refusePrint h reason
    | none =>
      match s.findOrder h.order, s.exposure.sizes[h.size]? with
      | some r, some entry => s.acceptPrint h r entry.length
      | _, _ => s

/-! ### LINE and PRINT END outside a step (R55, R60, R62, R63) -/

/-- A frame that belongs to no print the reader knows is removed and counted (R63). -/
def State.takeOutOfPlace (s : State) : State := s.removeSequenced.bump .outOfPlace

/-- A LINE frame at the front: out of place in READING, surplus in AWAITING_END, discarded in DISCARDING; in STAGED and in
FEEDING it waits for a step (R53, R55, R57, R62, R63). -/
def State.takeLine (s : State) : State :=
  match s.store with
  | f :: _ =>
    if f.kind = .line then
      match s.reader.mode with
      | .reading => s.takeOutOfPlace
      | .awaitingEnd => (s.noteAwaited fun n => { n with long := true }).removeSequenced
      | .discarding => s.removeSequenced
      | .staged | .feeding => s
    else s
  | [] => s

/-- A PRINT END at the front: the early end of the stream in FEEDING, the end awaited, the end of a discarding, or out of
place (R55, R60, R62, R63, R171). -/
def State.takePrintEnd (s : State) : State :=
  match s.store with
  | f :: _ =>
    if f.kind = .printEnd then
      match s.reader.mode with
      | .reading => s.takeOutOfPlace
      | .feeding => s.endStreamShort.removeSequenced
      | .awaitingEnd | .discarding => s.enterReading.removeSequenced
      | .staged => s
    else s
  | [] => s

/-! ### The commands at the front of the Print Store -/

/-- ORDER_OPEN (R4). -/
def execOrderOpen (s : State) : Host.Outcome State Fault Refusal :=
  s.event (State.onSequenced .orderOpen State.takeOrderOpen)

/-- ORDER_CLOSE (R8). -/
def execOrderClose (s : State) : Host.Outcome State Fault Refusal :=
  s.event (State.onSequenced .orderClose State.takeOrderClose)

/-- PRINT_HEADER (R51). -/
def execPrintHeader (s : State) : Host.Outcome State Fault Refusal :=
  s.event (State.onSequenced .printHeader State.takePrintHeader)

/-- LINE (R55, R62, R63). -/
def execLine (s : State) : Host.Outcome State Fault Refusal := s.event State.takeLine

/-- PRINT_END (R55, R60, R62, R63). -/
def execPrintEnd (s : State) : Host.Outcome State Fault Refusal := s.event State.takePrintEnd

/-- PAPER_LOAD, which does not wait for an exposing print (R50, R79). -/
def execPaperLoad (s : State) : Host.Outcome State Fault Refusal :=
  s.event (State.onSequenced .paperLoad State.takePaperLoad)

/-- PROFILE_LOAD (R50, R75). -/
def execProfileLoad (s : State) : Host.Outcome State Fault Refusal :=
  s.event (State.onSequenced .profileLoad (State.unlessExposing State.takeProfileLoad))

/-- LUT_LOAD (R50, R76). -/
def execLutLoad (s : State) : Host.Outcome State Fault Refusal :=
  s.event (State.onSequenced .lutLoad (State.unlessExposing State.takeLutLoad))

/-- THERMAL_LOAD (R50, R77). -/
def execThermalLoad (s : State) : Host.Outcome State Fault Refusal :=
  s.event (State.onSequenced .thermalLoad (State.unlessExposing State.takeThermalLoad))

/-- SIZE_LOAD (R50, R78). -/
def execSizeLoad (s : State) : Host.Outcome State Fault Refusal :=
  s.event (State.onSequenced .sizeLoad (State.unlessExposing State.takeSizeLoad))

/-- RUNPARAM_LOAD, which does not wait for an exposing print (R46, R50). -/
def execRunparamLoad (s : State) : Host.Outcome State Fault Refusal :=
  s.event (State.onSequenced .runparamLoad State.takeRunparamLoad)

end Sys2Proof.Machine
end

