-- ==== Sys2Proof/Machine/Stepping.lean ====
section
/-!
DEFINITION. STEP: a line period expires, a step is issued, and a line is exposed (R23, R57 to R62, R69, R105).
-/

namespace Sys2Proof.Machine

/-! ### The line of a step (R57 to R60) -/

/-- Change the print record of the head segment. -/
def State.modifyPrint (f : PrintRecord → PrintRecord) (s : State) : State :=
  s.modifyHead fun g => { g with print := g.print.map f }

/-- In FEEDING, a frame other than LINE at the front ends the stream before the step that follows (R56, R60, R61). DESIGN
CHOICE: only the end of the stream is made before the step; a frame other than PRINT END is acted on for itself in READING after
the whole step, so its STATUS or PRINT FATE stands behind any frame that the step queues (log entry 40). -/
def State.settleFront (s : State) : State :=
  match s.reader.mode, s.store with
  | .feeding, f :: _ =>
    match f.kind with
    | .line => s
    | .printEnd => s.endStreamShort.removeSequenced
    | _ => s.endStreamImplicit
  | _, _ => s

/-- An underrun: the last line again, or the margin line; it is counted, flagged and raised (R59). -/
def State.underrun (p : PrintRecord) (s : State) : List Rgb × State :=
  (s.reader.lastLine.getD (s.marginLine p),
    State.raise .underrun
      ((s.modifyPrint fun p => { p with underruns := p.underruns + 1 }).modifyHead fun g =>
        { g with flags := { g.flags with underrun := true } }))

/-- The line that a step of the exposing print hands to the Exposure Unit (R57). -/
def State.nextLine (p : PrintRecord) (source : LineSource) (s : State) : List Rgb × State :=
  match source with
  | .margin => (s.marginLine p, s)
  | .cutOff => s.underrun p
  | .store =>
    let (line, s) :=
      match s.store with
      | f :: _ =>
        let (line, fitted) := fitLine p.paperPixels (s.profile p.profile).margin (linePixels f.payload)
        (line, (s.modifyPrint fun p => if fitted then { p with widthFits := p.widthFits + 1 } else p).removeSequenced)
      | [] => s.underrun p
    (line, { s with reader := { s.reader with lastLine := some line } })

/-- A clipped-sample count after more clipped samples, and the CLIPPED note (R74). -/
def PrintRecord.addClipped (n : Nat) (p : PrintRecord) : PrintRecord :=
  let count := min 65535 (p.clipped + n)
  { p with clipped := count, notes := { p.notes with clipped := p.notes.clipped || decide (0 < count) } }

/-- The print is complete when every line has been exposed: it is exposing no more, and a reader that was feeding it awaits
its PRINT END (R57). -/
def State.completePrint (s : State) : State :=
  match s.headSegment with
  | some g =>
    match g.print with
    | some p =>
      if p.length ≤ p.exposed then
        { s with reader := { s.reader with
            source := none
            lastLine := none
            mode := if s.reader.mode = .feeding then .awaitingEnd else s.reader.mode
            awaited := if s.reader.mode = .feeding then some p.key else s.reader.awaited } }
      else s
    | none => s
  | none => s

/-- Expose one line: of the exposing print, or none, and drive the head (R57, R69, R74). -/
def State.exposeLine (s : State) : State :=
  match s.reader.source, s.headSegment.bind Segment.print with
  | some source, some p =>
    let (line, s) := s.nextLine p source
    let pixels := line.map (s.lineSettings p).pixel
    let s := { s with exposure := { s.exposure with drive := pixels.map Prod.fst } }
    (s.modifyPrint fun p => { p.addClipped (pixels.map Prod.snd).sum with exposed := p.exposed + 1 }).completePrint
  | _, _ => { s with exposure := { s.exposure with drive := [] } }

/-! ### The step (R23) -/

/-- The counters of a step: paper lines, and waste lines for WASTE and RAMP (R23). -/
def State.countStep (s : State) : State :=
  let s := s.bump .paperLines
  match s.headSegment with
  | some g =>
    match g.kind with
    | .waste | .ramp => s.bump .wasteLines
    | .print | .purge => s
  | none => s

/-- The web moves one line: the web position, the remaining paper and the head segment's length (R23). -/
def State.advanceWeb (s : State) : State :=
  State.modifyHead (fun g => { g with length := g.length + 1 })
    { s with
      path := { s.path with position := s.path.position + 1 }
      exposure := { s.exposure with
        paper := { s.exposure.paper with remaining := s.exposure.paper.remaining - 1 }
        stepDue := s.exposure.stepDue + s.exposure.reload + 1 }
      outputs := { s.outputs with stepPulse := 2 } }

/-- Issue a step: the web moves, a line is exposed, the zone is watched, and the Cutter Unit acts (R23, R41, R69, R105). DESIGN
CHOICE: no rule orders the blocks within a step, and the model takes them in this order, so the ALERT of an UNDERRUN stands before
those of the Cutter Unit (log entry 41). -/
def State.issueStep (sample : PunchSample) (s : State) : State :=
  (s.settleFront.advanceWeb.countStep.exposeLine.markZoneEntry).cutterStep sample

/-- A line period expires: the clock stands at the time the step is due at least (log entry 6), and the step is issued
unless the boundary ends the run's stepping (R23, R27, R34). -/
def State.takeStep (sample : PunchSample) (s : State) : State :=
  if s.stepping then
    let due := State.fallsDue { s with now := max s.now s.exposure.stepDue }
    if due.2 then due.1.issueStep sample else due.1
  else s

/-- STEP (R23). -/
def execStep (sample : PunchSample) (s : State) : Host.Outcome State Fault Refusal := s.event (State.takeStep sample)

end Sys2Proof.Machine
end

