-- ==== Sys2Proof/Machine/Monitor.lean ====
section
/-!
DEFINITION. The Monitor (chapter 05): conversions, trip and recovery, the alert modes, and MONITOR LOAD.
-/

namespace Sys2Proof.Machine

/-! ### Judging a reading (R84 to R90) -/

/-- A converted temperature, clamped to what a reading can hold (R84). -/
def clampReading (value : Int) : Int := max (-40) (min 240 value)

/-- A reading is outside the trip bounds (chapter 05, section 5.3). -/
def ChannelLimits.outside (l : ChannelLimits) (reading : Int) : Bool := decide (l.hiTrip < reading ∨ reading < l.loTrip)

/-- A reading is within the recover bounds (chapter 05, section 5.3). -/
def ChannelLimits.within (l : ChannelLimits) (reading : Int) : Bool :=
  decide (l.loRecover ≤ reading ∧ reading ≤ l.hiRecover)

/-- The exceed counter after a reading of an enabled channel (R85). -/
def Channel.exceedAfter (c : Channel) (reading : Int) : Nat :=
  if c.limits.outside reading then (if c.exceed = c.limits.faultCount then c.exceed else c.exceed + 1) else 0

/-- What a judged reading makes of a channel: its record, whether it trips, and whether its cause is raised (R85 to R90). -/
structure Judgement where
  channel : Channel
  trips : Bool
  raises : Bool
  deriving DecidableEq, Repr

/-- Judge a reading (R84 to R90). -/
def Channel.judge (c : Channel) (reading : Int) : Judgement :=
  if ¬ c.limits.enabled then
    { channel := { c with reading := reading, exceed := 0, state := .normal, armed := false }, trips := false, raises := false }
  else
    let c' := { c with reading := reading, exceed := c.exceedAfter reading }
    match c.state with
    | .normal =>
      if c'.exceed = c.limits.faultCount then
        { channel := { c' with state := .tripped, armed := false }, trips := true, raises := true }
      else { channel := c', trips := false, raises := false }
    | .tripped =>
      if c.limits.within reading then
        { channel := { c' with state := .normal, armed := false }, trips := false,
          raises := decide (c.limits.mode = .twoTimes ∧ c.armed) }
      else { channel := c', trips := false, raises := decide (c.limits.mode = .comparator ∧ c.armed) }

/-- The alert cause of a channel (R86). -/
def channelCause : Nat → Cause
  | 0 => .monHeadR | 1 => .monHeadG | 2 => .monHeadB | _ => .monDev

/-- Replace a channel's record. -/
def State.setChannel (i : Nat) (c : Channel) (s : State) : State :=
  { s with monitor := { s.monitor with channels := s.monitor.channels.set i c } }

/-- What a trip does beside the raise: a head trip notes the exposing print HOT, and a DEV trip marks the prints in the
chemistry zone (R40, R86, R93). -/
def State.actOnTrip (i : Nat) (s : State) : State :=
  if i = 3 then s.markZone Segment.flagChem
  else if s.exposing then s.noteHead fun n => { n with hot := true }
  else s

/-- The conversion in progress completes with a reading of its channel (R84). -/
def State.judgeChannel (value : Int) (s : State) : State :=
  let i := s.monitor.converting
  match s.monitor.channels[i]? with
  | none => s
  | some c =>
    let j := c.judge (clampReading value)
    let s := s.setChannel i j.channel
    let s := if j.raises then s.raise (channelCause i) else s
    if j.trips then s.actOnTrip i else s

/-- The next conversion begins at the completion of the one before (R83). -/
def State.nextConversion (s : State) : State :=
  { s with monitor := { s.monitor with
      converting := (s.monitor.converting + 1) % 4, conversionDue := s.monitor.conversionDue + 25000 } }

/-- A conversion completes (R83, R84); the clock stands at its end at least (log entry 6). -/
def State.takeConversion (value : Int) (s : State) : State :=
  (State.judgeChannel value { s with now := max s.now s.monitor.conversionDue }).nextConversion

/-- CONVERSION (R84). -/
def execConversion (value : Int) (s : State) : Host.Outcome State Fault Refusal := s.event (State.takeConversion value)

/-! ### MONITOR LOAD (R95, R96) -/

/-- A signed half-degree limit of a MONITOR LOAD. -/
def limitInRange (v : Int) : Bool := decide (-40 ≤ v ∧ v ≤ 240)

/-- The limits of a channel are in range and ordered (R95). -/
def ChannelLimits.valid (l : ChannelLimits) : Bool :=
  (l.faultCount == 1 || l.faultCount == 2 || l.faultCount == 4 || l.faultCount == 8) &&
  limitInRange l.hiTrip && limitInRange l.hiRecover && limitInRange l.loTrip && limitInRange l.loRecover &&
  decide (l.loTrip ≤ l.loRecover ∧ l.loRecover ≤ l.hiRecover ∧ l.hiRecover < l.hiTrip) &&
  decide (l.loTrip = l.loRecover → l.loTrip = -40)

/-- Read the limits of channel i: enabled, mode, fault count, hi_trip, hi_recover, lo_trip, lo_recover (R95). -/
def parseLimits (payload : List Byte) (i : Nat) : Option ChannelLimits :=
  let o := 11 * i
  match yesNoOf (field payload o 1), AlertMode.ofCode (field payload (o + 1) 1) with
  | some enabled, some mode =>
    let l : ChannelLimits :=
      { enabled := enabled, mode := mode, faultCount := field payload (o + 2) 1, hiTrip := fieldInt payload (o + 3) 2,
        hiRecover := fieldInt payload (o + 5) 2, loTrip := fieldInt payload (o + 7) 2,
        loRecover := fieldInt payload (o + 9) 2 }
    if l.valid then some l else none
  | _, _ => none

/-- A MONITOR LOAD payload: the limits of the four channels, or nothing if a check of R95 fails. -/
def parseMonitorLoad (payload : List Byte) : Option (List ChannelLimits) :=
  if payload.length = 44 then (List.range 4).mapM (parseLimits payload) else none

/-- The Monitor answers a MONITOR LOAD: the limits are replaced, and every exceed counter is 0 (R95, R96). -/
def State.takeMonitorLoad (f : InFrame) (s : State) : State :=
  State.removeImmediate
    (match parseMonitorLoad f.payload with
    | none => s.answer f .range
    | some limits =>
      State.answer f .accepted
        { s with monitor := { s.monitor with
            channels := List.zipWith (fun (c : Channel) l => { c with limits := l, exceed := 0 }) s.monitor.channels limits
            generation := nextGeneration s.monitor.generation } })

/-- MONITOR_LOAD (R95). -/
def execMonitorLoad (s : State) : Host.Outcome State Fault Refusal :=
  s.event (State.onImmediate .monitorLoad State.takeMonitorLoad)

end Sys2Proof.Machine
end

