-- ==== Sys2Proof/Machine/Alerts.lean ====
section
/-!
DEFINITION. The Alert Unit's frames and inputs (chapter 09): ALERT CLEAR, ALERT ENABLE, and the qualified stop inputs.
-/

namespace Sys2Proof.Machine

/-- The causes in ascending order of number. -/
def allCauses : List Cause :=
  [.monHeadR, .monHeadG, .monHeadB, .monDev, .paperLow, .jam, .estop, .cutterFault, .dwellExpired, .regMissing,
   .punchSpurious, .underrun, .sortMismatch, .sortLost, .trayUsed, .trayFull, .orderFailed, .linkCheck, .creditOverrun,
   .outqLost]

/-- Twenty yes or no values, one for each cause, or nothing if the payload is not that (R155, R156). -/
def parseCauseValues (payload : List Byte) : Option (List Bool) :=
  if payload.length = 20 then payload.mapM fun b => yesNoOf b.toNat else none

/-! ### ALERT CLEAR (R91, R156, R157) -/

/-- A level cause's condition holds; no other cause has one (R157). -/
def State.levelHolds (c : Cause) (s : State) : Bool :=
  match c with
  | .paperLow => decide (s.path.run = .draining ∧ s.path.drainCause = some .paper)
  | .jam => s.alerts.jam.level
  | .estop => s.alerts.estop.level
  | .trayFull => s.sorter.tray.count == 250
  | _ => false

/-- A cleared cause is not pending, not reported and has count 0 (R156). -/
def State.clearCause (c : Cause) (s : State) : State :=
  s.setCause c { s.cause c with pending := false, reported := false, count := 0 }

/-- The Monitor is told of a clear of cause 0 to 3, and arms the recovery of a TRIPPED channel (R91). -/
def State.armChannel (c : Cause) (s : State) : State :=
  if c.code < 4 ∧ s.tripped c.code then
    { s with monitor := { s.monitor with
        channels := s.monitor.channels.modify c.code fun ch => { ch with armed := true } } }
  else s

/-- The causes that a list of twenty values names. -/
def namedCauses (values : List Bool) : List Cause := allCauses.filter fun c => values.getD c.code false

/-- Clear the named causes (R91, R156). -/
def State.clearCauses (causes : List Cause) (s : State) : State :=
  causes.foldl (fun s c => (s.clearCause c).armChannel c) s

/-- Raise again the named level causes whose condition holds (R157). -/
def State.raiseLevels (causes : List Cause) (s : State) : State :=
  causes.foldl (fun s c => if s.levelHolds c then s.raise c else s) s

/-- The Alert Unit answers an ALERT CLEAR (R156). -/
def State.takeAlertClear (f : InFrame) (s : State) : State :=
  State.removeImmediate
    (match parseCauseValues f.payload with
    | none => s.answer f .range
    | some values => ((s.clearCauses (namedCauses values)).answer f .accepted).raiseLevels (namedCauses values))

/-- ALERT_CLEAR (R156). -/
def execAlertClear (s : State) : Host.Outcome State Fault Refusal :=
  s.event (State.onImmediate .alertClear State.takeAlertClear)

/-! ### ALERT ENABLE (R155) -/

/-- Replace all twenty enables (R155). -/
def State.setEnables (values : List Bool) (s : State) : State :=
  { s with alerts := { s.alerts with
      causes := List.zipWith (fun (r : CauseRecord) v => { r with enabled := v }) s.alerts.causes values } }

/-- Report every cause that is enabled, pending and not reported (R155). -/
def State.reportCauses (causes : List Cause) (s : State) : State := causes.foldl (fun s c => s.reportCause c) s

/-- The Alert Unit answers an ALERT ENABLE (R155). -/
def State.takeAlertEnable (f : InFrame) (s : State) : State :=
  State.removeImmediate
    (match parseCauseValues f.payload with
    | none => s.answer f .range
    | some values => ((s.setEnables values).answer f .accepted).reportCauses allCauses)

/-- ALERT_ENABLE (R155). -/
def execAlertEnable (s : State) : Host.Outcome State Fault Refusal :=
  s.event (State.onImmediate .alertEnable State.takeAlertEnable)

/-! ### The stop inputs (R158) -/

/-- A new qualified level: the samples that made it agree with it. -/
def Qualifier.setLevel (level : Bool) (_ : Qualifier) : Qualifier := { level := level, last := level, agreeing := 3 }

/-- The qualified level of a stop input. -/
def State.stopLevel (input : StopInput) (s : State) : Bool :=
  match input with
  | .estop => s.alerts.estop.level
  | .jam => s.alerts.jam.level

/-- Set the qualified level of a stop input. -/
def State.setStopLevel (input : StopInput) (level : Bool) (s : State) : State :=
  match input with
  | .estop => { s with alerts := { s.alerts with estop := s.alerts.estop.setLevel level } }
  | .jam => { s with alerts := { s.alerts with jam := s.alerts.jam.setLevel level } }

/-- The cause and the halt cause of a stop input (R33, R158). -/
def stopCause : StopInput → Cause × HaltCause
  | .estop => (.estop, .estop)
  | .jam => (.jam, .jam)

/-- The qualified level of a stop input changes: to ACTIVE it raises the cause and halts a moving run, to INACTIVE it does
nothing more (R33, R158). A level that is the input's level already is no change. -/
def State.takeStopInput (input : StopInput) (active : Bool) (s : State) : State :=
  if s.stopLevel input = active then s
  else
    let s := s.setStopLevel input active
    if active then (s.raise (stopCause input).1).haltIfMoving (stopCause input).2 else s

/-- ESTOP_JAM_INPUT (R158). -/
def execEstopJamInput (input : StopInput) (active : Bool) (s : State) : Host.Outcome State Fault Refusal :=
  s.event (State.takeStopInput input active)

end Sys2Proof.Machine
end

