-- ==== Sys2Proof/Machine/Link.lean ====
section
/-!
DEFINITION. The Link Port (chapter 10): the frame check, the receiver, credit, the transmitter and the break.
-/

namespace Sys2Proof.Machine

/-! ### The frame check and the frame on the line (R161) -/

/-- One bit of the check: generator x^16 + x^12 + x^5 + 1 (R161). -/
def crcBit (r : BitVec 16) : BitVec 16 := if r.msb then (r <<< 1) ^^^ 0x1021#16 else r <<< 1

/-- One byte of the check, most significant bit first (R161). -/
def crcByte (r : BitVec 16) (b : Byte) : BitVec 16 :=
  crcBit (crcBit (crcBit (crcBit (crcBit (crcBit (crcBit (crcBit (r ^^^ (b.setWidth 16 <<< 8)))))))))

/-- The frame check over the bytes from the kind to the last byte of the payload, starting at all ones (R161). -/
def frameCheck (bytes : List Byte) : BitVec 16 := bytes.foldl crcByte 0xFFFF#16

/-- The bytes of a frame: start character, kind, tag, length, payload, check (R161). -/
def frameBytes (kind tag : Byte) (payload : List Byte) : List Byte :=
  let covered := [kind, tag] ++ bytesOf 2 payload.length ++ payload
  0xA5 :: covered ++ bytesOf 2 (frameCheck covered).toNat

/-- The bytes of an outbound frame as they are sent (R161). -/
def OutFrame.bytes (f : OutFrame) : List Byte := frameBytes f.kind.code f.tag f.payload

/-- The largest payload length the part accepts (R161, R162). -/
def maxPayload : Nat := 11600

/-! ### Credit and the judgement of a frame (R163, R164) -/

/-- The available credit of the group of a kind. -/
def State.available (kind : InKind) (s : State) : Nat :=
  if kind.sequenced then s.link.availableStream else s.link.availableCommand

/-- Use one credit of the group of a kind. -/
def State.useCredit (kind : InKind) (s : State) : State :=
  if kind.sequenced then { s with link := { s.link with availableStream := s.link.availableStream - 1 } }
  else { s with link := { s.link with availableCommand := s.link.availableCommand - 1 } }

/-- Return one credit of the group of a kind. -/
def State.returnCredit (kind : InKind) (s : State) : State :=
  if kind.sequenced then { s with link := { s.link with returnedStream := s.link.returnedStream + 1 } }
  else { s with link := { s.link with returnedCommand := s.link.returnedCommand + 1 } }

/-- A frame fails: LINK_CHECK, its counter, and the credit that the front end spent on it (R163). -/
def State.failFrame (kind : Byte) (s : State) : State :=
  let s := (s.raise .linkCheck).bump .linkCheck
  match InKind.ofCode kind with
  | some k => if 1 ≤ s.available k then (s.useCredit k).returnCredit k else s
  | none => s

/-- A frame that has not failed is stored by its group, or meets the overrun (R164). -/
def State.admitFrame (f : InFrame) (s : State) : State :=
  if 1 ≤ s.available f.kind then
    let s := s.useCredit f.kind
    if f.kind.sequenced then { s with store := s.store ++ [f] } else { s with commands := s.commands ++ [f] }
  else s.raise .creditOverrun

/-- A frame arrives with its last check byte and is judged; `taken` holds its payload and its two check bytes (R163, R164). -/
def State.judgeFrame (kind tag : Byte) (length : Nat) (taken : List Byte) (s : State) : State :=
  let payload := taken.take length
  let covered := [kind, tag] ++ bytesOf 2 length ++ payload
  if numberOf (taken.drop length) = (frameCheck covered).toNat then
    match InKind.ofCode kind with
    | some k => s.admitFrame { kind := k, tag := tag, payload := payload }
    | none => s.failFrame kind
  else s.failFrame kind

/-! ### The receiver (R162) -/

/-- The receiver takes another state. -/
def State.setReceiver (r : Receiver) (s : State) : State := { s with link := { s.link with receiver := r } }

/-- The receiver has taken the four header bytes: the frame fails if its length is over the limit (R162, R163). -/
def State.takeHeader (header : List Byte) (s : State) : State :=
  let kind : Byte := header.getD 0 0
  let length := field header 2 2
  if maxPayload < length then (s.setReceiver .hunting).failFrame kind
  else s.setReceiver (.body kind (header.getD 1 0) length [])

/-- The receiver takes one byte from the line (R162). -/
def State.receiveByte (b : Byte) (s : State) : State :=
  match s.link.receiver with
  | .hunting => if b = 0xA5 then s.setReceiver (.header []) else s
  | .header taken =>
    let taken := taken ++ [b]
    if taken.length < 4 then s.setReceiver (.header taken) else s.takeHeader taken
  | .body kind tag length taken =>
    let taken := taken ++ [b]
    if taken.length < length + 2 then s.setReceiver (.body kind tag length taken)
    else (s.setReceiver .hunting).judgeFrame kind tag length taken

/-- The receiver takes bytes from the line, and nothing while a break goes on (R162, R168). -/
def State.receive (bytes : List Byte) (s : State) : State :=
  if s.link.breakHeld then s else bytes.foldl (fun s b => s.receiveByte b) s

/-- FRAME_ARRIVAL (R162 to R164). -/
def execFrameArrival (bytes : List Byte) (s : State) : Host.Outcome State Fault Refusal := s.event (State.receive bytes)

/-- LENGTH_OVER_LIMIT: a frame start with a payload length above 11,600 (R162, R163; log entry 25). -/
def execLengthOverLimit (kind tag : Byte) (length : BitVec 16) (s : State) : Host.Outcome State Fault Refusal :=
  s.event (State.receive ([0xA5, kind, tag] ++ bytesOf 2 length.toNat))

/-! ### The transmitter (R165, R166) -/

/-- The microseconds that a frame takes on the line at 40 ns a byte, rounded up (chapter 10, section 10.5; log entry 24). -/
def OutFrame.lineTime (f : OutFrame) : Nat := (f.payload.length + 7 + 24) / 25

/-- The transmitter begins a frame, at the time it is free at least (R165, R166; log entry 6). -/
def State.beginFrame (f : OutFrame) (s : State) : State :=
  let now := max s.now s.link.transmitterFreeAt
  { s with now := now, link := { s.link with transmitting := some f, transmitterFreeAt := now + f.lineTime } }

/-- A CREDIT frame is due (R165). -/
def State.creditDue (s : State) : Bool := decide (0 < s.link.returnedStream ∨ 0 < s.link.returnedCommand)

/-- The CREDIT frame of two increments: tag 0 (R165). -/
def creditFrame (stream command : Nat) : OutFrame :=
  { kind := .credit, tag := 0, payload := bytesOf 1 stream ++ bytesOf 1 command }

/-- The transmitter begins a CREDIT frame: the returned credits become available credit (R165). -/
def State.sendCredit (s : State) : State :=
  if s.creditDue then
    let s := s.beginFrame (creditFrame s.link.returnedStream s.link.returnedCommand)
    { s with link := { s.link with
        availableStream := s.link.availableStream + s.link.returnedStream
        availableCommand := s.link.availableCommand + s.link.returnedCommand
        returnedStream := 0
        returnedCommand := 0 } }
  else s

/-- CREDIT (R165). -/
def execCredit (s : State) : Host.Outcome State Fault Refusal := s.event State.sendCredit

/-- The transmitter begins the oldest outbound frame, unless a CREDIT frame is due; OUTQ_LOST follows where the overflow mark
was set (R166). -/
def State.transmit (s : State) : State :=
  match s.link.outbound with
  | [] => s
  | f :: rest =>
    if s.creditDue then s
    else
      let marked := s.link.overflow
      let s := State.beginFrame f { s with link := { s.link with outbound := rest, overflow := false } }
      if marked then s.raise .outqLost else s

/-- FRAME_TRANSMIT (R166). -/
def execFrameTransmit (s : State) : Host.Outcome State Fault Refusal := s.event State.transmit

/-! ### The break (R65, R168, R169) -/

/-- The Link Port, the Print Store and the Command Queue at a link reset (R169). -/
def State.resetLink (s : State) : State :=
  { s with
    store := []
    commands := []
    link := { s.link with
      receiver := .hunting
      breakHeld := true
      spacing := 10
      availableStream := 0
      availableCommand := 0
      returnedStream := 48
      returnedCommand := 16
      outbound := []
      overflow := false } }

/-- The Store Reader at a link reset (R65). -/
def State.resetReader (s : State) : State :=
  match s.reader.mode with
  | .reading => s
  | .staged => s.discardStaged .aborted .reading
  | .feeding => { s with reader := { s.reader with source := some .cutOff, mode := .reading } }
  | .awaitingEnd | .discarding => s.enterReading

/-- LINK_RESET: a break is detected (R22, R65, R168, R169). -/
def execLinkReset (s : State) : Host.Outcome State Fault Refusal := s.event fun s => s.resetLink.resetReader

/-- The inbound line returns to marking: the receiver takes bytes again and hunts afresh (R168). -/
def State.resumeLine (s : State) : State :=
  { s with link := { s.link with breakHeld := false, spacing := 0, receiver := .hunting } }

/-- LINE_RETURNS_TO_MARKING (R168): it ends a break that goes on, and has no effect where none does. -/
def execLineReturnsToMarking (s : State) : Host.Outcome State Fault Refusal :=
  s.event fun s => if s.link.breakHeld then s.resumeLine else s

end Sys2Proof.Machine
end

