-- ==== Sys2Proof/Machine/Queries.lean ====
section
/-!
DEFINITION. QUERY and REPLY (chapter 11): the contents of the eight replies, and how a query is judged and answered.
-/

namespace Sys2Proof.Machine

/-! ### A query and its answer (R167, R171, R173) -/

/-- The code of a query kind: 1 to 8 in the order of section 11.2. -/
def queryKindKnown (code : Nat) : Bool := decide (1 ≤ code ∧ code ≤ 8)

/-- A query is refused: the STATUS alone, and the query is removed (R173). -/
def State.refuseQuery (f : InFrame) (result : StatusResult) (s : State) : State := (s.answer f result).removeImmediate

/-- The REPLY frame of a query: its tag, then the query kind and the contents (R173). -/
def replyFrame (f : InFrame) (contents : List Byte) : OutFrame where
  kind := .reply
  tag := f.tag
  payload := f.payload.take 1 ++ contents

/-- A query is answered: one REPLY, then STATUS ACCEPTED, and the query is removed (R167, R173). -/
def State.replyQuery (f : InFrame) (contents : List Byte) (s : State) : State :=
  ((s.queueFrame (replyFrame f contents)).answer f .accepted).removeImmediate

/-- Act on a QUERY of the given kind at the front of the Command Queue. A query whose kind byte is missing or names no kind is
answered RANGE, whichever of the eight commands finds it (R171, R173; log entries 1 and 20). -/
def State.onQuery (code : Nat) (act : InFrame → State → State) : State → State :=
  State.onImmediate .query fun f s =>
    let kind := fieldOrZero f.payload 0 1
    if ¬ queryKindKnown kind then s.refuseQuery f .range
    else if kind = code then act f s
    else s

/-- A query of the right length is answered, and any other refused RANGE before anything else (R171). -/
def State.ofLength (length : Nat) (act : InFrame → State → State) (f : InFrame) (s : State) : State :=
  if f.payload.length = length then act f s else s.refuseQuery f .range

/-- A web position or a segment start: six bytes in two's complement (R172). -/
def bytesOfPosition (x : Int) : List Byte := bytesOfInt 6 x

/-! ### QUERY ORDER (R1, R2) -/

/-- A remake list entry: print index and attempt. -/
def Remake.bytes (e : Remake) : List Byte := bytesOf 2 e.index ++ bytesOf 1 e.attempt

/-- A tally list entry: size code, surface and quantity. -/
def Tally.bytes (t : Tally) : List Byte := bytesOf 1 t.size ++ bytesOf 1 t.surface.code ++ bytesOf 2 t.quantity

/-- The whole order record, in the order of R2 (an absent promotion code or announced count is sent as 0, R4). -/
def Order.bytes (r : Order) : List Byte :=
  bytesOf 3 r.number ++ bytesOf 1 r.source.code ++ bytesOf 1 r.cls.code ++ bytesOf 2 (r.promotion.getD 0) ++
    bytesOf 2 (r.announced.getD 0) ++ bytesOfOption 2 (r.expected.map (bytesOf 2)) ++ bytesOf 2 r.sent ++
    bytesOf 2 r.delivered ++ bytesOf 2 r.inFlight ++ bytesOfList Remake.bytes r.remakes ++
    bytesOfList Tally.bytes r.tallies ++ bytesOf 2 r.unpriced ++ bytesOfOption 1 (r.group.map (bytesOf 1)) ++
    bytesOfList (bytesOf 1) r.bins ++ bytesOfSet (r.flags.members false false) ++ bytesOf 1 r.state.code

/-- The Order Table answers a QUERY ORDER (R1, R173). The number 0 lies outside the range of an order number, which R173 answers
RANGE, and no live order holds it, which R1 answers UNKNOWN_ORDER: DESIGN CHOICE, the model answers RANGE (log entry 36). -/
def State.takeQueryOrder (f : InFrame) (s : State) : State :=
  let number := field f.payload 1 3
  if number = 0 then s.refuseQuery f .range
  else
    match s.findOrder number with
    | some r => s.replyQuery f r.bytes
    | none => s.refuseQuery f .unknownOrder

/-- QUERY_ORDER (R1, R173). -/
def execQueryOrder (s : State) : Host.Outcome State Fault Refusal :=
  s.event (State.onQuery 1 (State.ofLength 4 State.takeQueryOrder))

/-! ### QUERY BIN (R138) -/

/-- A bin's record and the number of its lamp pattern (R138). -/
def Bin.bytes (b : Bin) : List Byte :=
  bytesOf 1 b.state.code ++ bytesOfOption 3 (b.owner.map (bytesOf 3)) ++ yesNo b.ownerLive ++ bytesOf 1 b.ownerClass.code ++
    bytesOf 1 b.count ++ bytesOf 1 b.pending ++ bytesOf 1 b.stray ++ bytesOf 1 b.pattern

/-- The tray's record (R138). -/
def Tray.bytes (t : Tray) : List Byte :=
  bytesOf 1 t.state.code ++ bytesOf 1 t.count ++ bytesOf 1 t.pending ++ bytesOf 1 t.stray

/-- What either reply also carries: sorter queue entries, gate target, C_bin and the sort map generation (R138). -/
def State.sorterBytes (s : State) : List Byte :=
  bytesOf 1 s.sorter.queue.length ++ bytesOf 1 s.gateSelect.code ++ bytesOf 1 s.sorter.capacity ++
    bytesOf 2 s.sorter.generation

/-- The record of bin 1 to 24, or of the tray as 25; nothing for any other number (R138). -/
def State.placeBytes (place : Nat) (s : State) : Option (List Byte) :=
  if place = 25 then some s.sorter.tray.bytes
  else if place ≤ 24 then (s.bin place).map Bin.bytes
  else none

/-- The Sorter Unit answers a QUERY BIN (R138). -/
def State.takeQueryBin (f : InFrame) (s : State) : State :=
  match s.placeBytes (field f.payload 1 1) with
  | some record => s.replyQuery f (record ++ s.sorterBytes)
  | none => s.refuseQuery f .range

/-- QUERY_BIN (R138, R173). -/
def execQueryBin (s : State) : Host.Outcome State Fault Refusal :=
  s.event (State.onQuery 2 (State.ofLength 2 State.takeQueryBin))

/-! ### QUERY PATH (R47, R175) -/

/-- A print as three numbers: order number, index and attempt. -/
def PrintRecord.keyBytes (p : PrintRecord) : List Byte := bytesOf 3 p.order ++ bytesOf 2 p.index ++ bytesOf 1 p.attempt

/-- A segment record as R47 lists it. No rule bounds the length of a PURGE record, so the two lengths take four bytes, the widest
of R172 (log entry 17). -/
def Segment.bytes (g : Segment) : List Byte :=
  bytesOf 1 g.kind.code ++ bytesOfPosition g.start ++ bytesOf 4 g.length ++ bytesOf 4 g.planned ++
    bytesOfSet g.flags.members ++ bytesOf 1 g.lead.code ++ bytesOfOption 6 (g.print.map PrintRecord.keyBytes)

/-- The page of up to 16 records from a start index (R175). -/
def State.pathPage (start : Nat) (s : State) : List Segment := (s.path.queue.drop start).take 16

/-- The Path Unit answers a QUERY PATH (R175). -/
def State.takeQueryPath (f : InFrame) (s : State) : State :=
  let start := field f.payload 1 1
  if start ≤ 127 then
    s.replyQuery f
      (bytesOf 1 s.path.queue.length ++ bytesOfPosition s.path.position ++ bytesOfList Segment.bytes (s.pathPage start))
  else s.refuseQuery f .range

/-- QUERY_PATH (R47, R173, R175). -/
def execQueryPath (s : State) : Host.Outcome State Fault Refusal :=
  s.event (State.onQuery 3 (State.ofLength 2 State.takeQueryPath))

/-! ### QUERY MONITOR (R97) -/

/-- A channel as R97 lists it. -/
def Channel.bytes (c : Channel) : List Byte :=
  bytesOfInt 2 c.reading ++ bytesOf 1 c.state.code ++ bytesOf 1 c.exceed ++ yesNo c.armed ++ yesNo c.limits.enabled ++
    bytesOf 1 c.limits.mode.code ++ bytesOf 1 c.limits.faultCount ++ bytesOfInt 2 c.limits.hiTrip ++
    bytesOfInt 2 c.limits.hiRecover ++ bytesOfInt 2 c.limits.loTrip ++ bytesOfInt 2 c.limits.loRecover

/-- The contents of a QUERY MONITOR's reply (R97). -/
def State.monitorBytes (s : State) : List Byte :=
  s.monitor.channels.flatMap Channel.bytes ++ yesNo s.headHold ++ yesNo s.chemistryHold ++ bytesOf 1 s.monitor.converting ++
    bytesOf 2 s.monitor.generation

/-- The Monitor answers a QUERY MONITOR (R97). -/
def State.takeQueryMonitor (f : InFrame) (s : State) : State := s.replyQuery f s.monitorBytes

/-- QUERY_MONITOR (R97, R173). -/
def execQueryMonitor (s : State) : Host.Outcome State Fault Refusal :=
  s.event (State.onQuery 4 (State.ofLength 1 State.takeQueryMonitor))

/-! ### QUERY RUN (R47, R66, R117, R176; log entry 18) -/

/-- The dwell timer's state, and the whole seconds left while it runs (R47). -/
def DwellTimer.bytes (now : Nat) : DwellTimer → List Byte
  | .stopped => bytesOf 1 0 ++ bytesOfOption 2 none
  | .running due => bytesOf 1 1 ++ bytesOfOption 2 (some (bytesOf 2 ((due - now) / 1000000)))
  | .expired => bytesOf 1 2 ++ bytesOfOption 2 none

/-- The Path Unit's part of the reply (R47). -/
def State.runBytes (s : State) : List Byte :=
  bytesOf 1 s.path.run.code ++ bytesOfOption 1 (s.path.haltCause.map fun c => bytesOf 1 c.code) ++
    bytesOfOption 1 (s.path.drainCause.map fun c => bytesOf 1 c.code) ++ yesNo s.headHold ++ yesNo s.chemistryHold ++
    bytesOfPosition s.path.position ++ bytesOf 3 s.exposure.paper.remaining ++ bytesOfInt 2 s.cutter.delta ++
    s.path.dwell.bytes s.now

/-- The summary of the staged print (R66). -/
def State.stagedBytes (s : State) : List Byte :=
  bytesOfOption 13 (s.reader.staged.map fun p =>
    p.keyBytes ++ bytesOf 1 p.size ++ bytesOf 2 p.length ++ bytesOf 1 p.used.code ++ bytesOf 1 p.profile ++
      bytesOf 1 (linesInFront s.store) ++ yesNo s.stagedReady)

/-- The summary of the exposing print: the print of the head segment, while a line source is present (R49, R66). -/
def State.exposingBytes (s : State) : List Byte :=
  bytesOfOption 13
    (match s.reader.source, s.headSegment.bind Segment.print with
    | some source, some p =>
      some (p.keyBytes ++ bytesOf 2 p.exposed ++ bytesOf 2 p.length ++ bytesOf 1 source.code ++ bytesOf 2 p.underruns)
    | _, _ => none)

/-- The Store Reader's part of the reply (R66). -/
def State.readerBytes (s : State) : List Byte :=
  bytesOf 1 s.reader.mode.code ++ bytesOf 1 s.store.length ++ s.stagedBytes ++ s.exposingBytes

/-- The index j of a PURGE cut point; a record boundary has none (R106). -/
def Boundary.index : Boundary → Option Nat
  | .cutPoint j => some j
  | .record _ => none

/-- The current boundary, which may be absent: the index j, which a record boundary does not have, its position, and its expected
sensing position (R117; both presence bytes by R172). No rule bounds the index, which grows with the PURGE record, so it takes
four bytes, and its presence tells a cut point from a record boundary: DEDUCED (log entry 18). -/
def State.boundaryBytes (s : State) : List Byte :=
  bytesOfOption 17 (s.cutter.current.map fun b =>
    bytesOfOption 4 (b.index.map (bytesOf 4)) ++ bytesOfPosition ((s.boundaryStart b).getD 0) ++
      bytesOfPosition ((s.expectedAt b).getD 0))

/-- The Cutter Unit's part of the reply (R117). No rule bounds the number of cut list entries, so it takes four bytes: DESIGN
CHOICE (log entry 18). -/
def State.cutterBytes (s : State) : List Byte :=
  s.boundaryBytes ++ bytesOf 4 s.cutter.cutList.length ++
    bytesOfOption 6 (s.cutter.cutList.head?.map fun e => bytesOfPosition e.cutAt) ++ yesNo s.cutter.progress.isSome ++
    yesNo (s.cutter.cutList.head?.any fun e => e.retry) ++ bytesOf 1 (PunchSampleCode s.cutter.qualified) ++
    bytesOf 1 s.cutter.consecutive ++ bytesOf 2 s.cutter.missing ++ bytesOf 2 s.cutter.spurious

/-- The Link Port's part of the reply, the QUERY itself still counted among the commands (R176). DESIGN CHOICE: the four credit
numbers go group by group, available before returned, the stream group first (log entry 18). -/
def State.linkBytes (s : State) : List Byte :=
  bytesOf 1 s.link.availableStream ++ bytesOf 1 s.link.returnedStream ++ bytesOf 1 s.link.availableCommand ++
    bytesOf 1 s.link.returnedCommand ++ bytesOf 1 s.store.length ++ bytesOf 1 s.commands.length ++
    bytesOf 1 s.link.outbound.length ++ yesNo s.link.overflow ++ bytesOf 2 s.link.dropped

/-- A QUERY RUN is answered (R47, R66, R117, R176, in the order of the rules' numbers, R172). DESIGN CHOICE: the summary of the
staged print, which R47 names last and R66 gives, is sent once, in R66's place (log entry 18). -/
def State.takeQueryRun (f : InFrame) (s : State) : State :=
  s.replyQuery f (s.runBytes ++ s.readerBytes ++ s.cutterBytes ++ s.linkBytes)

/-- QUERY_RUN (R47, R173). -/
def execQueryRun (s : State) : Host.Outcome State Fault Refusal :=
  s.event (State.onQuery 5 (State.ofLength 1 State.takeQueryRun))

/-! ### QUERY TABLE (R174; log entry 19) -/

def Rgb.bytes (v : Rgb) : List Byte := bytesOf 2 v.r ++ bytesOf 2 v.g ++ bytesOf 2 v.b

def Profile.bytes (p : Profile) : List Byte :=
  yesNo p.loaded ++ p.gain.bytes ++ bytesOf 1 p.floorPulse ++ bytesOf 1 p.duty ++ bytesOf 1 p.margin

def Lut.bytes (l : Lut) : List Byte := yesNo l.loaded ++ l.entries.flatMap (bytesOf 2)

def SizeEntry.bytes (e : SizeEntry) : List Byte :=
  yesNo e.loaded ++ bytesOf 2 e.width ++ bytesOf 2 e.length ++ bytesOf 1 e.group

def Paper.bytes (p : Paper) : List Byte :=
  yesNo p.loaded ++ bytesOf 2 p.width ++ bytesOf 1 p.surface.code ++ bytesOf 1 p.profile ++ bytesOf 3 p.remaining

def RunParams.bytes (p : RunParams) : List Byte :=
  bytesOf 2 p.linePeriod ++ bytesOf 2 p.lCut ++ bytesOf 2 p.dSensor ++ bytesOf 1 p.window ++ bytesOf 2 p.zIn ++
    bytesOf 2 p.zOut ++ bytesOf 2 p.wasteUnit ++ bytesOf 2 p.rampLength ++ bytesOf 1 p.prefill ++ bytesOf 2 p.tDwell ++
    bytesOf 2 p.tCut ++ bytesOf 2 p.tDel ++ bytesOf 1 p.aMax

def Window.bytes (w : Window) : List Byte :=
  yesNo w.enabled ++ bytesOf 1 w.base ++ bytesOf 1 w.mask ++ bytesOf 1 w.first ++ bytesOf 1 w.last

def LampPattern.bytes (p : LampPattern) : List Byte :=
  bytesOf 1 p.carrier ++ yesNo p.hz4 ++ yesNo p.hz2 ++ yesNo p.hz1 ++ yesNo p.hzHalf

/-- A price row as PRICE LOAD carries it; the number of breaks is a field of its own (R150). -/
def PriceRow.bytes (r : PriceRow) : List Byte :=
  yesNo r.loaded ++ bytesOf 2 r.glossy ++ bytesOf 2 r.lustre ++
    bytesOfList (fun b => bytesOf 2 b.threshold ++ bytesOf 1 b.percent) r.breaks

def Promotion.bytes (p : Promotion) : List Byte :=
  bytesOf 2 p.code ++ yesNo p.enabled ++ bytesOf 1 p.kind.code ++ bytesOf 1 p.percent ++ bytesOf 3 p.amount ++
    bytesOf 1 p.size ++ bytesOf 1 p.prints ++ bytesOf 3 p.cap ++ bytesOf 1 p.base ++ bytesOf 1 p.mask

def ChannelLimits.bytes (l : ChannelLimits) : List Byte :=
  yesNo l.enabled ++ bytesOf 1 l.mode.code ++ bytesOf 1 l.faultCount ++ bytesOfInt 2 l.hiTrip ++ bytesOfInt 2 l.hiRecover ++
    bytesOfInt 2 l.loTrip ++ bytesOfInt 2 l.loRecover

/-- A table as QUERY TABLE reads it: its generation number, its header items and its entries. -/
structure TableView where
  generation : Nat
  header : List Byte
  entries : List (List Byte)
  deriving DecidableEq, Repr

/-- The tables by their kinds 1 to 11 (R174). -/
def State.table (kind : Nat) (s : State) : Option TableView :=
  let e := s.exposure
  match kind with
  | 1 => some { generation := e.profileGeneration, header := [], entries := e.profiles.map Profile.bytes }
  | 2 => some { generation := e.lutGeneration, header := [], entries := e.luts.map Lut.bytes }
  | 3 =>
    some { generation := e.thermalGeneration, header := bytesOfInt 2 e.thermal.base ++ bytesOf 1 e.thermal.width,
           entries := e.thermal.bands.map Rgb.bytes }
  | 4 => some { generation := e.sizeGeneration, header := [], entries := e.sizes.map SizeEntry.bytes }
  | 5 => some { generation := e.paperGeneration, header := [], entries := [e.paper.bytes] }
  | 6 => some { generation := s.path.generation, header := [], entries := [s.path.params.bytes] }
  | 7 =>
    some { generation := s.sorter.generation, header := bytesOf 1 s.sorter.capacity,
           entries := s.sorter.windows.map Window.bytes }
  | 8 => some { generation := s.sorter.generation, header := [], entries := s.sorter.lamps.map LampPattern.bytes }
  | 9 =>
    some { generation := s.price.priceGeneration, header := s.price.surcharges.flatMap (bytesOf 2),
           entries := s.price.rows.map PriceRow.bytes }
  | 10 => some { generation := s.price.promoGeneration, header := [], entries := s.price.promotions.map Promotion.bytes }
  | 11 =>
    some { generation := s.monitor.generation, header := [],
           entries := s.monitor.channels.map fun c => c.limits.bytes }
  | _ => none

/-- The contents of a QUERY TABLE's reply (R174). -/
def tableBytes (kind start count : Nat) (t : TableView) : List Byte :=
  let page := (t.entries.drop start).take count
  bytesOf 1 kind ++ bytesOf 2 t.generation ++ bytesOf 1 t.entries.length ++ bytesOf 1 start ++ bytesOf 1 page.length ++
    t.header ++ page.flatten

/-- A QUERY TABLE is answered (R174). -/
def State.takeQueryTable (f : InFrame) (s : State) : State :=
  let kind := field f.payload 1 1
  let start := field f.payload 2 1
  match s.table kind with
  | none => s.refuseQuery f .range
  | some t =>
    if start < t.entries.length then s.replyQuery f (tableBytes kind start (field f.payload 3 1) t)
    else s.refuseQuery f .range

/-- QUERY_TABLE (R173, R174). -/
def execQueryTable (s : State) : Host.Outcome State Fault Refusal :=
  s.event (State.onQuery 6 (State.ofLength 4 State.takeQueryTable))

/-! ### QUERY COUNTERS and QUERY ALERTS (R160) -/

/-- Zero every production counter (R160). -/
def State.clearCounters (s : State) : State :=
  { s with alerts := { s.alerts with counters := s.alerts.counters.map fun _ => 0 } }

/-- The REPLY of a QUERY finds room in the outbound queue (R160, R166). -/
def State.hasRoom (s : State) : Bool := decide (s.link.outbound.length < 64)

/-- The Alert Unit answers a QUERY COUNTERS; the counters are cleared only with a REPLY that finds room (R160). -/
def State.takeQueryCounters (f : InFrame) (s : State) : State :=
  match yesNoOf (field f.payload 1 1) with
  | none => s.refuseQuery f .range
  | some clear =>
    let reply := s.alerts.counters.flatMap (bytesOf 4)
    (if clear ∧ s.hasRoom then s.clearCounters else s).replyQuery f reply

/-- QUERY_COUNTERS (R160, R173). -/
def execQueryCounters (s : State) : Host.Outcome State Fault Refusal :=
  s.event (State.onQuery 7 (State.ofLength 2 State.takeQueryCounters))

/-- A cause record as R160 lists it. -/
def CauseRecord.bytes (r : CauseRecord) : List Byte :=
  yesNo r.enabled ++ yesNo r.pending ++ yesNo r.reported ++ bytesOf 1 r.count

/-- The Alert Unit answers a QUERY ALERTS (R160). -/
def State.takeQueryAlerts (f : InFrame) (s : State) : State :=
  s.replyQuery f (s.alerts.causes.flatMap CauseRecord.bytes)

/-- QUERY_ALERTS (R160, R173). -/
def execQueryAlerts (s : State) : Host.Outcome State Fault Refusal :=
  s.event (State.onQuery 8 (State.ofLength 1 State.takeQueryAlerts))

end Sys2Proof.Machine
end

