-- ==== Sys2Proof/Machine/Resets.lean ====
section
/-!
DEFINITION. The full reset and the release of the reset pin (00_scope, "Resets"; R45, R83).
-/

namespace Sys2Proof.Machine

/-- FULL_RESET: every block takes its full-reset state, and the part stays in reset until the pin is released (R45 and each
chapter's own rule; log entry 8). The model's own count of free tags goes on (log entry 3). -/
def execFullReset (s : State) : Host.Outcome State Fault Refusal :=
  .next { State.reset with inReset := true, freeTags := s.freeTags, pending := s.pending }

/-- The converter begins HEAD_R's conversion, and the clock of the lamps and the samplers starts (R83, R126, R135, R158). -/
def State.leaveReset (s : State) : State :=
  { s with
    inReset := false
    now := 0
    monitor := { s.monitor with converting := 0, conversionDue := 25000 } }

/-- RESET_PIN_RELEASE (R83); it has no effect on a part that is not in reset. -/
def execResetPinRelease (s : State) : Host.Outcome State Fault Refusal :=
  .next (if s.inReset then s.leaveReset else s)

end Sys2Proof.Machine
end

