-- ==== Sys2Proof/Machine/Clock.lean ====
section
/-!
DEFINITION. What the part does of itself while no command waits: it takes the timed event whose time has come, else acts at once
on the frames at its two fronts and on the frames it has to send, and otherwise one microsecond passes, in which its inputs are
sampled. The effects are those of the commands, which are put into the queue (log entries 5 and 23).
-/

namespace Sys2Proof.Machine

/-! ### What the part does at once -/

/-- The command of a sequenced frame kind; an immediate kind has none here. -/
def InKind.readerCommand : InKind → Option Instr
  | .orderOpen => some .orderOpen | .orderClose => some .orderClose | .printHeader => some .printHeader
  | .line => some .line | .printEnd => some .printEnd | .paperLoad => some .paperLoad
  | .profileLoad => some .profileLoad | .lutLoad => some .lutLoad | .thermalLoad => some .thermalLoad
  | .sizeLoad => some .sizeLoad | .runparamLoad => some .runparamLoad
  | .runStart | .runEnd | .runAbort | .orderCancel | .binRelease => none
  | .alertClear | .alertEnable | .monitorLoad | .sortmapLoad | .priceLoad | .promoLoad | .query => none

/-- The four loads that wait while a print is exposing (R50). -/
def InKind.waitsForExposure : InKind → Bool
  | .profileLoad | .lutLoad | .thermalLoad | .sizeLoad => true
  | .orderOpen | .orderClose | .printHeader | .line | .printEnd | .paperLoad | .runparamLoad => false
  | .runStart | .runEnd | .runAbort | .orderCancel | .binRelease => false
  | .alertClear | .alertEnable | .monitorLoad | .sortmapLoad | .priceLoad | .promoLoad | .query => false

/-- The frame at the front of the Print Store waits: in STAGED every frame, in FEEDING a LINE, and in READING a load of the
exposure tables while a print is exposing (R49, R50, R53). -/
def State.frontWaits (kind : InKind) (s : State) : Bool :=
  match s.reader.mode with
  | .staged => true
  | .feeding => kind == .line
  | .reading => kind.waitsForExposure && s.exposing
  | .awaitingEnd | .discarding => false

/-- The command by which the Store Reader acts on the frame at its front, if it does not wait (R48). -/
def State.readerAction (s : State) : Option Instr :=
  match s.store with
  | f :: _ => if s.frontWaits f.kind then none else f.kind.readerCommand
  | [] => none

/-- The command of a query, by its kind byte; one that names no kind is refused by any of them (log entry 20). -/
def queryCommand (code : Nat) : Instr :=
  match code with
  | 1 => .queryOrder | 2 => .queryBin | 3 => .queryPath | 4 => .queryMonitor | 5 => .queryRun | 6 => .queryTable
  | 7 => .queryCounters | 8 => .queryAlerts | _ => .queryOrder

/-- The command of an immediate frame; a sequenced kind has none here. -/
def InFrame.ownerCommand (f : InFrame) : Option Instr :=
  match f.kind with
  | .runStart => some .runStart | .runEnd => some .runEnd | .runAbort => some .runAbort
  | .orderCancel => some .orderCancel | .binRelease => some .binRelease | .alertClear => some .alertClear
  | .alertEnable => some .alertEnable | .monitorLoad => some .monitorLoad | .sortmapLoad => some .sortmapLoad
  | .priceLoad => some .priceLoad | .promoLoad => some .promoLoad
  | .query => some (queryCommand (fieldOrZero f.payload 0 1))
  | .orderOpen | .orderClose | .printHeader | .line | .printEnd => none
  | .paperLoad | .profileLoad | .lutLoad | .thermalLoad | .sizeLoad | .runparamLoad => none

/-- The frame at the front of the Command Queue waits: a price or promotion load while an order is being priced (R149). -/
def State.commandWaits (kind : InKind) (s : State) : Bool :=
  (kind == .priceLoad || kind == .promoLoad) && s.price.engine.isSome

/-- The command by which an owner acts on the frame at the front of the Command Queue, if it does not wait (R164). -/
def State.commandAction (s : State) : Option Instr :=
  match s.commands with
  | f :: _ => if s.commandWaits f.kind then none else f.ownerCommand
  | [] => none

/-- The command by which the transmitter, if it is free, begins its next frame: a CREDIT frame first (R165, R166). -/
def State.transmitterAction (s : State) : Option Instr :=
  if s.link.transmitterFreeAt ≤ s.now then
    if s.creditDue then some .credit else if s.link.outbound.isEmpty then none else some .frameTransmit
  else none

/-- What the part does before any more time passes: at the front of the Print Store, at the front of the Command Queue, or on
the outbound line, in this order (log entry 23). -/
def State.atOnce (s : State) : Option Instr :=
  match s.readerAction with
  | some c => some c
  | none =>
    match s.commandAction with
    | some c => some c
    | none => s.transmitterAction

/-! ### One microsecond -/

/-- Three consecutive samples that agree on a level other than the qualified one (R126, R132, R158). -/
def Qualifier.qualifies (q : Qualifier) : Bool := decide (3 ≤ q.agreeing) && q.last != q.level

/-- A sample is taken: it is kept, with the number of samples in a row that agree with it (R126). -/
def Qualifier.take (sample : Bool) (q : Qualifier) : Qualifier :=
  { q with last := sample, agreeing := if sample = q.last then saturate 3 q.agreeing else 1 }

/-- A sample is taken, and the qualified level takes its value where it qualifies (R126, R132). -/
def Qualifier.sample (sample : Bool) (q : Qualifier) : Qualifier :=
  let q := q.take sample
  if q.qualifies then { q with level := q.last } else q

/-- Sample a group of inputs; an input that the list of samples does not reach reads inactive. -/
def sampleAll (samples : List Bool) (inputs : List Qualifier) : List Qualifier :=
  inputs.mapIdx fun i q => q.sample (samples.getD i false)

/-- The places, numbered from 1, whose qualified level has changed from inactive to active (R126, R132). DESIGN CHOICE: of
several drops, or several clears, that qualify at one sample, which may be taken in either order (R128), the one at the lowest
place is taken first: the bins by their number, then the tray (log entry 23). -/
def risen (before after : List Qualifier) : List Nat :=
  (List.range after.length).filterMap fun i =>
    match before[i]?, after[i]? with
    | some b, some a => if !b.level && a.level then some (i + 1) else none
    | _, _ => none

/-- The clear of an input: bins 1 to 24, and the tray as place 25 (R132, R133). -/
def clearCommand (place : Nat) : Instr := if place = 25 then .trayClear else .binClear place

/-- The drop sensors and the clear inputs are sampled every 2 ms (R126, R132). -/
def State.sampleSorter (pins : Pins) (s : State) : State × List Instr :=
  if s.now % 2000 = 0 then
    let drops := sampleAll pins.drops s.sorter.dropInputs
    let clears := sampleAll pins.clears s.sorter.clearInputs
    ({ s with sorter := { s.sorter with dropInputs := drops, clearInputs := clears } },
      (risen s.sorter.dropInputs drops).map Instr.drop ++ (risen s.sorter.clearInputs clears).map clearCommand)
  else (s, [])

/-- The event of a stop input whose qualified level is to change (R158). -/
def stopEvent (input : StopInput) (q : Qualifier) : List Instr :=
  if q.qualifies then [.estopJamInput input q.last] else []

/-- The emergency stop and jam inputs are sampled every 1 ms (R158). DESIGN CHOICE: where both qualify at one sample, the
emergency stop is taken before the jam, and its cause is the halt cause (log entry 23). -/
def State.sampleStops (pins : Pins) (s : State) : State × List Instr :=
  if s.now % 1000 = 0 then
    let estop := s.alerts.estop.take pins.estop
    let jam := s.alerts.jam.take pins.jam
    ({ s with alerts := { s.alerts with estop := estop, jam := jam } }, stopEvent .estop estop ++ stopEvent .jam jam)
  else (s, [])

/-- The inbound line is watched: a break after 10 µs of spacing, and its end at the return to marking (R168). -/
def State.watchLine (pins : Pins) (s : State) : State × List Instr :=
  if pins.spacing then
    if s.link.breakHeld then (s, [])
    else
      let spacing := saturate 10 s.link.spacing
      ({ s with link := { s.link with spacing := spacing } }, if spacing = 10 then [.linkReset] else [])
  else
    ({ s with link := { s.link with spacing := 0 } }, if s.link.breakHeld then [.lineReturnsToMarking] else [])

/-- A timed event whose time has come. -/
def whenDue (due now : Nat) (c : Instr) : List Instr := if due ≤ now then [c] else []

/-- The timed events whose time has come, with these levels at the machine lines: step, conversion, cut timeout, dwell expiry,
deadline, pricing (R42, R67, R83, R111, R131, R142). The part takes the first of them and then looks again, so that an expiry
which an earlier event has made void does not happen: a deadline whose entry a drop has taken, the timer of a cut that is
done (R109, R131; log entry 23). -/
def State.dueEvents (pins : Pins) (s : State) : List Instr :=
  (if s.stepping then whenDue s.exposure.stepDue s.now (.step (if pins.hole then .hole else .paper)) else []) ++
  whenDue s.monitor.conversionDue s.now (.conversion (pins.temperatures.getD s.monitor.converting 0)) ++
  (match s.cutter.progress with
    | some progress => whenDue progress.due s.now .cutTimeout
    | none => []) ++
  (match s.path.dwell with
    | .running due => whenDue due s.now .dwellExpiry
    | .stopped | .expired => []) ++
  (match s.sorter.queue with
    | e :: _ => whenDue e.deadline s.now .deliveryDeadline
    | [] => []) ++
  (match s.price.engine with
    | some pricing => whenDue pricing.due s.now .pricingComplete
    | none => [])

/-- The clock moves one microsecond, and the pulse outputs run out (chapter 10, section 10.5). -/
def State.advanceClock (s : State) : State :=
  { s with
    now := s.now + 1
    outputs := { s.outputs with
      stepPulse := s.outputs.stepPulse - 1
      punchPulse := s.outputs.punchPulse - 1
      firePulse := s.outputs.firePulse - 1 } }

/-- One microsecond passes with these levels at the machine lines; the events that the inputs qualify are put into the queue (log
entry 23). -/
def State.tickWith (pins : Pins) (s : State) : State :=
  let (s, line) := s.advanceClock.watchLine pins
  let (s, stops) := s.sampleStops pins
  let (s, places) := s.sampleSorter pins
  { s with pending := line ++ stops ++ places }

/-- The command that the part takes before any more time passes: the first timed event whose time has come, or what it does at
once (log entry 23). -/
def State.nextCommand (pins : Pins) (s : State) : Option Instr :=
  match s.dueEvents pins with
  | c :: _ => some c
  | [] => s.atOnce

/-- What a step does when no command waits (log entry 5): nothing while the reset pin is held low, else the command that the part
takes of itself, else one microsecond. -/
def State.idle (s : State) : State :=
  if s.inReset then s
  else
    match s.nextCommand (Config.pinsAt s.now) with
    | some c => { s with pending := [c] }
    | none => s.tickWith (Config.pinsAt (s.now + 1))

end Sys2Proof.Machine
end

