-- ==== Sys2Proof/Machine/Dispatch.lean ====
section
/-!
DEFINITION. The effect of each command: one arm for each constructor of `Instr`.
-/

namespace Sys2Proof.Machine

def exec (i : Instr) (s : State) : Host.Outcome State Fault Refusal :=
  match i with
  | .fullReset => Sys2Proof.Machine.execFullReset s
  | .resetPinRelease => Sys2Proof.Machine.execResetPinRelease s
  | .linkReset => Sys2Proof.Machine.execLinkReset s
  | .frameArrival bytes => Sys2Proof.Machine.execFrameArrival bytes s
  | .credit => Sys2Proof.Machine.execCredit s
  | .frameTransmit => Sys2Proof.Machine.execFrameTransmit s
  | .orderOpen => Sys2Proof.Machine.execOrderOpen s
  | .orderClose => Sys2Proof.Machine.execOrderClose s
  | .printHeader => Sys2Proof.Machine.execPrintHeader s
  | .line => Sys2Proof.Machine.execLine s
  | .printEnd => Sys2Proof.Machine.execPrintEnd s
  | .paperLoad => Sys2Proof.Machine.execPaperLoad s
  | .profileLoad => Sys2Proof.Machine.execProfileLoad s
  | .lutLoad => Sys2Proof.Machine.execLutLoad s
  | .thermalLoad => Sys2Proof.Machine.execThermalLoad s
  | .sizeLoad => Sys2Proof.Machine.execSizeLoad s
  | .runparamLoad => Sys2Proof.Machine.execRunparamLoad s
  | .runStart => Sys2Proof.Machine.execRunStart s
  | .runEnd => Sys2Proof.Machine.execRunEnd s
  | .runAbort => Sys2Proof.Machine.execRunAbort s
  | .orderCancel => Sys2Proof.Machine.execOrderCancel s
  | .binRelease => Sys2Proof.Machine.execBinRelease s
  | .alertClear => Sys2Proof.Machine.execAlertClear s
  | .alertEnable => Sys2Proof.Machine.execAlertEnable s
  | .monitorLoad => Sys2Proof.Machine.execMonitorLoad s
  | .sortmapLoad => Sys2Proof.Machine.execSortmapLoad s
  | .priceLoad => Sys2Proof.Machine.execPriceLoad s
  | .promoLoad => Sys2Proof.Machine.execPromoLoad s
  | .queryOrder => Sys2Proof.Machine.execQueryOrder s
  | .queryBin => Sys2Proof.Machine.execQueryBin s
  | .queryPath => Sys2Proof.Machine.execQueryPath s
  | .queryMonitor => Sys2Proof.Machine.execQueryMonitor s
  | .queryRun => Sys2Proof.Machine.execQueryRun s
  | .queryTable => Sys2Proof.Machine.execQueryTable s
  | .queryCounters => Sys2Proof.Machine.execQueryCounters s
  | .queryAlerts => Sys2Proof.Machine.execQueryAlerts s
  | .step sample => Sys2Proof.Machine.execStep sample s
  | .cutDone => Sys2Proof.Machine.execCutDone s
  | .cutTimeout => Sys2Proof.Machine.execCutTimeout s
  | .dwellExpiry => Sys2Proof.Machine.execDwellExpiry s
  | .conversion value => Sys2Proof.Machine.execConversion value s
  | .estopJamInput input active => Sys2Proof.Machine.execEstopJamInput input active s
  | .drop place => Sys2Proof.Machine.execDrop place s
  | .deliveryDeadline => Sys2Proof.Machine.execDeliveryDeadline s
  | .binClear bin => Sys2Proof.Machine.execBinClear bin s
  | .trayClear => Sys2Proof.Machine.execTrayClear s
  | .pricingComplete => Sys2Proof.Machine.execPricingComplete s
  | .lengthOverLimit kind tag length => Sys2Proof.Machine.execLengthOverLimit kind tag length s
  | .lineReturnsToMarking => Sys2Proof.Machine.execLineReturnsToMarking s

end Sys2Proof.Machine
end

