-- ==== Sys2Proof/WellFormed.lean ====
section
/-!
DEFINITION. When a command's operands name an event that the part has.
-/

namespace Sys2Proof

/-- A place where a print can fall: bins 1 to 24, and 25 for the tray (R126, R172). -/
def wellFormedPlace (place : Nat) : Bool := decide (1 ≤ place ∧ place ≤ 25)

/-- The operands of a command are those of an event the part has: a drop or a clear at a sensor that exists,
a frame of at least one byte, and a length that is over the limit of R162. -/
def Instr.wellFormed : Instr → Bool
  | .frameArrival bytes => !bytes.isEmpty
  | .drop place => wellFormedPlace place
  | .binClear bin => decide (1 ≤ bin ∧ bin ≤ 24)
  | .lengthOverLimit _ _ length => decide (11600 < length.toNat)
  | .fullReset | .resetPinRelease | .linkReset | .credit | .frameTransmit => true
  | .orderOpen | .orderClose | .printHeader | .line | .printEnd => true
  | .paperLoad | .profileLoad | .lutLoad | .thermalLoad | .sizeLoad | .runparamLoad => true
  | .runStart | .runEnd | .runAbort | .orderCancel | .binRelease => true
  | .alertClear | .alertEnable | .monitorLoad | .sortmapLoad | .priceLoad | .promoLoad => true
  | .queryOrder | .queryBin | .queryPath | .queryMonitor => true
  | .queryRun | .queryTable | .queryCounters | .queryAlerts => true
  | .step _ | .cutDone | .cutTimeout | .dwellExpiry | .conversion _ => true
  | .estopJamInput _ _ | .deliveryDeadline | .trayClear => true
  | .pricingComplete | .lineReturnsToMarking => true

end Sys2Proof
end

