-- ==== Sys2Proof/Safety.lean ====
section
/-!
DEFINITION. What holds of the part at all times by the manual's own words: the properties of a state that every step keeps,
and the terms in which the statements speak of a frame at one of the two fronts.
-/

namespace Sys2Proof.Machine

/-! ### The link's credit (R164) -/

/-- For each group the available credit, the frames held in its store and the returned credit add up to 48, or 16
(chapter 10, section 10.2). -/
def CreditConserved (s : State) : Prop :=
  s.link.availableStream + s.store.length + s.link.returnedStream = 48 ∧
    s.link.availableCommand + s.commands.length + s.link.returnedCommand = 16

/-! ### The path queue (R26) -/

/-- Each record starts where the one before it ends, and the newest ends at the web position (R26). -/
def contiguous : List Segment → Int → Bool
  | [], _ => true
  | [g], position => decide (g.start + g.length = position)
  | g :: h :: rest, position => decide (g.start + g.length = h.start) && contiguous (h :: rest) position

/-- The path queue is contiguous up to the head and holds at most 128 records (R26), and a PURGE record is the oldest one
(R44). -/
def WebContiguous (s : State) : Prop :=
  contiguous s.path.queue s.path.position = true ∧ s.path.queue.length ≤ 128 ∧
    ((s.path.queue.drop 1).all fun g => g.kind != .purge) = true

/-! ### The Store Reader (R49) -/

/-- The reader holds a staged print in mode STAGED and in no other mode, and the line source is STORE in mode FEEDING and in
no other mode (R49). -/
def ReaderCoherent (s : State) : Prop :=
  (s.reader.staged.isSome = true ↔ s.reader.mode = .staged) ∧ (s.reader.source = some .store ↔ s.reader.mode = .feeding)

/-! ### The run (R28, R42) -/

/-- The halt cause is present in HALTED alone and the drain cause in DRAINING alone (R28), the dwell timer is stopped in every
state but HALTED (R42), and an IDLE path holds no PRINT segment (R28). -/
def RunCoherent (s : State) : Prop :=
  (s.path.haltCause.isSome = true ↔ s.path.run = .halted) ∧ (s.path.drainCause.isSome = true ↔ s.path.run = .draining) ∧
    (s.path.dwell = .stopped ↔ s.path.run ≠ .halted) ∧ (s.path.run = .idle → s.hasPrint = false)

/-! ### Limits -/

/-- The limits that the manual sets: 64 outbound frames (R166), 24 sorter queue entries (R125), 32 order slots (R1), the range
of δ (R102), a cut in progress only of a cut list entry (R100), and an idle engine only with an empty pricing queue (R142). -/
def WithinLimits (s : State) : Prop :=
  s.link.outbound.length ≤ 64 ∧ s.sorter.queue.length ≤ 24 ∧ s.orders.length = 32 ∧
    (-240 ≤ s.cutter.delta ∧ s.cutter.delta ≤ 240) ∧ (s.cutter.progress.isSome = true → s.cutter.cutList ≠ []) ∧
    (s.price.engine = none → s.price.queue = [])

/-! ### The ledger of the orders (R17, R141) -/

/-- The prints of an order that the part holds: staged, in the path queue, or in the sorter queue. -/
def State.prints (number : Nat) (s : State) : Nat :=
  let ofOrder (p : PrintRecord) : Bool := p.order == number
  s.reader.staged.toList.countP ofOrder + (s.path.queue.filterMap Segment.print).countP ofOrder +
    (s.sorter.queue.map SortEntry.print).countP ofOrder

/-- The slots that the Price Engine holds: the one being priced, and those of the pricing queue (R141). -/
def PriceEngine.slots (e : PriceEngine) : List Nat := e.engine.toList.map Pricing.slot ++ e.queue

/-- No two live orders have one number (R1). In every live order's record F is the number of its prints that the part holds, and
S = D + F + (entries on the remake list) until it is wound down, with F = 0 in PRICING (R17). A print in the path is in a PRINT
segment, and every print that the part holds is of a live order. Each slot that the Price Engine holds is held once, and its order
is PRICING (R141). -/
def LedgerBalances (s : State) : Prop :=
  (s.orders.filterMap fun o => o.map Order.number).Nodup ∧
    (∀ r, some r ∈ s.orders → r.inFlight = s.prints r.number ∧
      (r.state = .opened ∨ r.state = .closed ∨ r.state = .pricing → r.sent = r.delivered + r.inFlight + r.remakes.length) ∧
      (r.state = .pricing → r.inFlight = 0)) ∧
    (∀ number, s.findOrder number = none → s.prints number = 0) ∧
    (∀ g ∈ s.path.queue, g.print.isSome = true → g.kind = .print) ∧
    s.price.slots.Nodup ∧ (∀ slot ∈ s.price.slots, ∃ r, s.orders[slot]? = some (some r) ∧ r.state = .pricing)

/-! ### A frame at a front -/

/-- Out of reset, the frame f stands at the front of the Command Queue with `rest` behind it, and is of the given kind. -/
def CommandFront (kind : InKind) (f : InFrame) (rest : List InFrame) (s : State) : Prop :=
  s.inReset = false ∧ s.commands = f :: rest ∧ f.kind = kind

/-- Out of reset, the frame f stands at the front of the Print Store with `rest` behind it, and is of the given kind. -/
def StoreFront (kind : InKind) (f : InFrame) (rest : List InFrame) (s : State) : Prop :=
  s.inReset = false ∧ s.store = f :: rest ∧ f.kind = kind

/-- What answering the frame at the front of the Command Queue leaves, beside what its owner has done: the frame is gone, one
command credit is returned (R165), and STATUS joins the outbound queue (R167). -/
def answeredCommand (f : InFrame) (result : StatusResult) (s : State) : State :=
  State.answer f result
    { s with commands := s.commands.tail, link := { s.link with returnedCommand := s.link.returnedCommand + 1 } }

/-- What answering the frame at the front of the Print Store leaves, beside what its owner has done: the frame is gone, one
stream credit is returned (R165), and STATUS joins the outbound queue (R167). -/
def answeredStore (f : InFrame) (result : StatusResult) (s : State) : State :=
  State.answer f result
    { s with store := s.store.tail, link := { s.link with returnedStream := s.link.returnedStream + 1 } }

/-- What a QUERY at the front of the Command Queue leaves when it is answered: the frame is gone, one command credit is returned
(R165), and its REPLY and then STATUS ACCEPTED join the outbound queue (R167, R173). -/
def repliedQuery (f : InFrame) (payload : List Byte) (s : State) : State :=
  State.answer f .accepted
    (State.queueFrame { kind := .reply, tag := f.tag, payload := payload }
      { s with commands := s.commands.tail, link := { s.link with returnedCommand := s.link.returnedCommand + 1 } })

/-- What of a segment record no flag, note or leading-boundary state touches: kind, start, length and planned length (R25). -/
def Segment.layout (g : Segment) : SegmentKind × Int × Nat × Nat := (g.kind, g.start, g.length, g.planned)

/-- The layout of the path queue. -/
def State.pathLayout (s : State) : List (SegmentKind × Int × Nat × Nat) := s.path.queue.map Segment.layout

/-- The value of a production counter (R159). -/
def State.counter (c : Counter) (s : State) : Nat := s.alerts.counters.getD c.place 0

end Sys2Proof.Machine
end

