-- ==== Sys2Proof/Certificates/Slice0/Obligations.lean ====
section
/-!
DEFINITION. The statements for the provers. Each docstring names the rule or the section of spec/ that the statement
formalises, or says that the statement is about the model's own choice. `s.inReset = false` means out of reset.
-/

open Sys2Proof Sys2Proof.Machine

/-! ### The machine -/

/-- A step takes the command at the front of the queue and runs it on the state with the queue's rest (the queue of waiting
commands is the model's own, log entry 5). -/
def Obligations.StepTakesFrontCommand : Prop :=
  ∀ (c : Instr) (rest : List Instr) (s : State), s.pending = c :: rest → step s = exec c { s with pending := rest }

/-- With an empty queue a step does nothing while the pin is held low, else posts the one command that the part takes of
itself: the first timed event whose time has come, in the order step, conversion, cut timeout, dwell expiry, delivery
deadline, pricing, or else what it does at once: the reader acts on the frame at the front of the store, unless that frame
waits; else an owner acts on the frame at the front of the Command Queue, unless that waits; else the transmitter, if it is
free, begins a CREDIT frame where one is due, and otherwise the oldest outbound frame. Where there is none, one microsecond
passes, in which the inbound line is watched: each microsecond of spacing outside a break is counted, marking sets the count
to 0, a break is detected after 10 µs of spacing, and its end at the return to marking (section 10.4), and a running pulse
output loses one of its microseconds (section 10.5, log entry 29). It changes no order, frame, reader, path, cutter, exposure,
monitor, price or bin. (That a step does this, one command at a time and in this order, is the model's choice, log entries 5
and 23, and so is the command of a QUERY that names no kind, log entry 20.) -/
def Obligations.StepIdlesByItself : Prop :=
  (∀ s : State, s.pending = [] →
     (s.inReset = true → step s = .next s) ∧
     (∀ c, s.inReset = false → s.nextCommand (Config.pinsAt s.now) = some c → step s = .next { s with pending := [c] }) ∧
     (s.inReset = false → s.nextCommand (Config.pinsAt s.now) = none →
       let pins := Config.pinsAt (s.now + 1)
       ∃ t, step s = .next t ∧ t.now = s.now + 1 ∧ t.store = s.store ∧ t.commands = s.commands ∧ t.orders = s.orders ∧
         t.reader = s.reader ∧ t.path = s.path ∧ t.exposure = s.exposure ∧ t.cutter = s.cutter ∧ t.monitor = s.monitor ∧
         t.price = s.price ∧ t.link.outbound = s.link.outbound ∧ t.sorter.queue = s.sorter.queue ∧
         t.sorter.bins = s.sorter.bins ∧ t.alerts.causes = s.alerts.causes ∧ t.alerts.counters = s.alerts.counters ∧
         t.outputs = { s.outputs with
           stepPulse := s.outputs.stepPulse - 1, punchPulse := s.outputs.punchPulse - 1
           firePulse := s.outputs.firePulse - 1 } ∧
         t.link.breakHeld = s.link.breakHeld ∧
         t.link.spacing =
           (if pins.spacing = false then 0 else if s.link.breakHeld = true then s.link.spacing
            else if s.link.spacing < 10 then s.link.spacing + 1 else s.link.spacing) ∧
         (.linkReset ∈ t.pending ↔ pins.spacing = true ∧ s.link.breakHeld = false ∧ (s.link.spacing = 9 ∨ s.link.spacing = 10)) ∧
         (.lineReturnsToMarking ∈ t.pending ↔ pins.spacing = false ∧ s.link.breakHeld = true))) ∧
  (∀ (pins : Pins) (s : State),
     let stepTime := s.stepping = true ∧ s.exposure.stepDue ≤ s.now
     let conversionTime := s.monitor.conversionDue ≤ s.now
     let cutTime := ∃ p, s.cutter.progress = some p ∧ p.due ≤ s.now
     let dwellTime := ∃ due, s.path.dwell = .running due ∧ due ≤ s.now
     let lostTime := ∃ e rest, s.sorter.queue = e :: rest ∧ e.deadline ≤ s.now
     let pricedTime := ∃ p, s.price.engine = some p ∧ p.due ≤ s.now
     (stepTime → s.nextCommand pins = some (.step (if pins.hole then .hole else .paper))) ∧
     (¬ stepTime → conversionTime →
       s.nextCommand pins = some (.conversion (pins.temperatures.getD s.monitor.converting 0))) ∧
     (¬ stepTime → ¬ conversionTime → cutTime → s.nextCommand pins = some .cutTimeout) ∧
     (¬ stepTime → ¬ conversionTime → ¬ cutTime → dwellTime → s.nextCommand pins = some .dwellExpiry) ∧
     (¬ stepTime → ¬ conversionTime → ¬ cutTime → ¬ dwellTime → lostTime →
       s.nextCommand pins = some .deliveryDeadline) ∧
     (¬ stepTime → ¬ conversionTime → ¬ cutTime → ¬ dwellTime → ¬ lostTime → pricedTime →
       s.nextCommand pins = some .pricingComplete) ∧
     (¬ stepTime → ¬ conversionTime → ¬ cutTime → ¬ dwellTime → ¬ lostTime → ¬ pricedTime →
       s.nextCommand pins = s.atOnce)) ∧
  (∀ s : State,
     let readerCommand (f : InFrame) (c : Instr) : Prop :=
       (f.kind, c) ∈ [(InKind.orderOpen, Instr.orderOpen), (.orderClose, .orderClose), (.printHeader, .printHeader),
         (.line, .line), (.printEnd, .printEnd), (.paperLoad, .paperLoad), (.profileLoad, .profileLoad),
         (.lutLoad, .lutLoad), (.thermalLoad, .thermalLoad), (.sizeLoad, .sizeLoad), (.runparamLoad, .runparamLoad)]
     let readerWaits (f : InFrame) : Prop :=
       s.reader.mode = .staged ∨ s.reader.mode = .feeding ∧ f.kind = .line ∨
         s.reader.mode = .reading ∧ s.reader.source.isSome = true ∧
           f.kind ∈ [InKind.profileLoad, .lutLoad, .thermalLoad, .sizeLoad]
     let ownerCommand (f : InFrame) (c : Instr) : Prop :=
       (f.kind, c) ∈ [(InKind.runStart, Instr.runStart), (.runEnd, .runEnd), (.runAbort, .runAbort),
           (.orderCancel, .orderCancel), (.binRelease, .binRelease), (.alertClear, .alertClear),
           (.alertEnable, .alertEnable), (.monitorLoad, .monitorLoad), (.sortmapLoad, .sortmapLoad),
           (.priceLoad, .priceLoad), (.promoLoad, .promoLoad)] ∨
         f.kind = .query ∧
           c = [Instr.queryOrder, .queryBin, .queryPath, .queryMonitor, .queryRun, .queryTable, .queryCounters,
             .queryAlerts].getD (fieldOrZero f.payload 0 1 - 1) .queryOrder
     let ownerWaits (f : InFrame) : Prop :=
       (f.kind = .priceLoad ∨ f.kind = .promoLoad) ∧ s.price.engine.isSome = true
     let readerActs (c : Instr) : Prop := ∃ f, s.store.head? = some f ∧ ¬ readerWaits f ∧ readerCommand f c
     let ownerActs (c : Instr) : Prop := ∃ f, s.commands.head? = some f ∧ ¬ ownerWaits f ∧ ownerCommand f c
     let creditDue : Prop := 0 < s.link.returnedStream ∨ 0 < s.link.returnedCommand
     (∀ c, readerActs c → s.atOnce = some c) ∧ ((∀ c, ¬ readerActs c) → ∀ c, ownerActs c → s.atOnce = some c) ∧
     ((∀ c, ¬ readerActs c) → (∀ c, ¬ ownerActs c) →
       (s.link.transmitterFreeAt ≤ s.now → creditDue → s.atOnce = some .credit) ∧
       (s.link.transmitterFreeAt ≤ s.now → ¬ creditDue → s.link.outbound ≠ [] → s.atOnce = some .frameTransmit) ∧
       (s.link.transmitterFreeAt ≤ s.now → ¬ creditDue → s.link.outbound = [] → s.atOnce = none) ∧
       (s.now < s.link.transmitterFreeAt → s.atOnce = none)))

/-- Every command whose operands name an event the part has ends in a next state, and a drop or a clear at a sensor the part
does not have is the one fault (the model's choice, log entry 27). While the reset pin is held low no command but a full reset
and the release of the pin changes anything (the model's reading of the section "Resets", log entry 8). -/
def Obligations.CommandsCompleteOrAreNamed : Prop :=
  ((∀ (c : Instr) (s : State), c.wellFormed = true → ∃ t, exec c s = .next t) ∧
   (∀ (place : Nat) (s : State), (Instr.drop place).wellFormed = false → exec (.drop place) s = .fault (.noSuchInput place)) ∧
   (∀ (bin : Nat) (s : State), (Instr.binClear bin).wellFormed = false → exec (.binClear bin) s = .fault (.noSuchInput bin))) ∧
  (∀ (c : Instr) (s : State), s.inReset = true → c.wellFormed = true → c ≠ .fullReset → c ≠ .resetPinRelease →
     exec c s = .next s)

/-- A full reset leaves every block at the values its chapter states (section 2.7 and the paragraphs "After a full reset" of
the other chapters). The release of the reset pin begins the first conversion, of HEAD_R, which lasts 25 ms, and starts the
clock (section 5.2; the clock is the model's, log entry 8); on a part out of reset it has no effect (the model's choice, log
entry 8). -/
def Obligations.FullResetClearsTheMachine : Prop :=
  (∀ s : State, ∃ t, exec .fullReset s = .next t ∧ t.inReset = true ∧ t.pending = s.pending ∧
     (t.path.run = .idle ∧ t.path.haltCause = none ∧ t.path.drainCause = none ∧ t.path.position = 0 ∧
       t.path.dwell = .stopped ∧ t.path.generation = 0 ∧
       t.path.params =
         { linePeriod := 2000, lCut := 36000, dSensor := 240, window := 24, zIn := 6000, zOut := 24000, wasteUnit := 1200
           rampLength := 1200, prefill := 16, tDwell := 20, tCut := 200, tDel := 4000, aMax := 3 } ∧
       t.path.queue = [{ kind := .purge, start := -36240, length := 36240, planned := 36240, print := none, flags := {},
                         lead := .predicted }]) ∧
     (t.cutter.current = some (.cutPoint 1) ∧ t.cutter.delta = 0 ∧ t.cutter.cutList = [] ∧ t.cutter.progress = none ∧
       t.cutter.lastSample = .paper ∧ t.cutter.qualified = .paper ∧ t.cutter.consecutive = 0 ∧ t.cutter.missing = 0 ∧
       t.cutter.spurious = 0) ∧
     (t.store = [] ∧ t.commands = [] ∧ t.reader.mode = .reading ∧ t.reader.staged = none ∧ t.reader.source = none ∧
       t.orders = List.replicate 32 none) ∧
     (t.price.queue = [] ∧ t.price.engine = none ∧ t.price.priceGeneration = 0 ∧ t.price.promoGeneration = 0 ∧
       t.price.surcharges = [0, 0, 0, 0] ∧
       t.price.rows = List.replicate 16 { loaded := false, glossy := 0, lustre := 0, breaks := [] } ∧
       t.price.promotions = List.replicate 16
         { code := 0, enabled := false, kind := .amount, percent := 0, amount := 0, size := 0, prints := 0, cap := 0
           base := 0, mask := 0 }) ∧
     (t.exposure.paper = { loaded := false, width := 89, surface := .glossy, profile := 0, remaining := 0 } ∧
       t.exposure.reload = 1999 ∧ t.exposure.drive = [] ∧
       t.exposure.profiles = List.replicate 4
         { loaded := false, gain := ⟨4096, 4096, 4096⟩, floorPulse := 0, duty := 3, margin := 0 } ∧
       t.exposure.luts = List.replicate 12 { loaded := false, entries := List.replicate 256 0 } ∧
       t.exposure.thermal = { base := 0, width := 16, bands := List.replicate 16 ⟨1024, 1024, 1024⟩ } ∧
       t.exposure.sizes = List.replicate 16 { loaded := false, width := 89, length := 900, group := 0 } ∧
       t.exposure.profileGeneration = 0 ∧ t.exposure.lutGeneration = 0 ∧ t.exposure.thermalGeneration = 0 ∧
       t.exposure.sizeGeneration = 0 ∧ t.exposure.paperGeneration = 0) ∧
     (∃ head dev : Channel, t.monitor.channels = [head, head, head, dev] ∧ t.monitor.generation = 0 ∧
       head =
         { reading := 0, exceed := 0, state := .normal, armed := false
           limits := { enabled := true, mode := .twoTimes, faultCount := 2, hiTrip := 90, hiRecover := 80, loTrip := -40
                       loRecover := -40 } } ∧
       dev =
         { reading := 0, exceed := 0, state := .normal, armed := false
           limits := { enabled := true, mode := .comparator, faultCount := 4, hiTrip := 79, hiRecover := 78, loTrip := 75
                       loRecover := 76 } }) ∧
     (t.sorter.bins = List.replicate 24
         { state := .held, owner := none, ownerLive := false, ownerClass := .standard, count := 0, pending := 0, stray := 0 } ∧
       t.sorter.tray = { state := .empty, count := 0, pending := 0, stray := 0 } ∧ t.sorter.queue = [] ∧
       t.sorter.capacity = 120 ∧ t.sorter.generation = 0 ∧
       t.sorter.windows = List.replicate 8 { enabled := false, base := 0, mask := 0, first := 1, last := 24 } ∧
       t.sorter.lamps =
         [⟨0, false, false, false, false⟩, ⟨1, false, false, false, false⟩, ⟨4, false, false, false, false⟩,
          ⟨4, false, false, true, false⟩, ⟨4, false, true, false, false⟩, ⟨0, false, false, false, false⟩] ∧
       t.sorter.dropInputs.map Qualifier.level = List.replicate 25 false ∧
       t.sorter.clearInputs.map Qualifier.level = List.replicate 25 false) ∧
     (t.alerts.causes = List.replicate 20 { enabled := true, pending := false, reported := false, count := 0 } ∧
       t.alerts.counters = List.replicate 18 0 ∧ t.alerts.estop.level = false ∧ t.alerts.estop.last = false ∧
       t.alerts.jam.level = false ∧ t.alerts.jam.last = false) ∧
     (t.link.receiver = .hunting ∧ t.link.outbound = [] ∧ t.link.overflow = false ∧ t.link.dropped = 0 ∧
       t.link.availableStream = 0 ∧ t.link.availableCommand = 0 ∧ t.link.returnedStream = 48 ∧
       t.link.returnedCommand = 16)) ∧
  (∀ s : State,
     (s.inReset = true →
       exec .resetPinRelease s =
         .next { s with inReset := false, now := 0, monitor := { s.monitor with converting := 0, conversionDue := 25000 } }) ∧
     (s.inReset = false → exec .resetPinRelease s = .next s))

/-! ### The link -/

/-- A link reset empties both stores, the outbound queue and the receiver, grants the full credit again, and leaves the reader
by its mode: a staged print is discarded and rejected ABORTED, a fed print gets no more lines (sections 10.4 and 3.6). The
break goes on until the line returns to marking; the receiver takes nothing until then and hunts afresh after it. (That a
reader which awaited a PRINT END then holds no key of its print is the model's reading, log entry 13, and so is what the PRINT
FATE REJECTED of the staged print carries, log entry 15; that a command for a link reset during a break is taken again is its
choice, log entry 32; the tags of frames that answer none are free, log entry 3). -/
def Obligations.BreakResetsTheLink : Prop :=
  (∀ s : State, s.inReset = false →
     let cleared : State :=
       { s with
         store := []
         commands := []
         link := { s.link with
           receiver := .hunting, breakHeld := true, spacing := 10, availableStream := 0, availableCommand := 0,
           returnedStream := 48, returnedCommand := 16, outbound := [], overflow := false } }
     (s.reader.mode = .reading → exec .linkReset s = .next cleared) ∧
     (s.reader.mode = .feeding →
       exec .linkReset s = .next { cleared with reader := { s.reader with source := some .cutOff, mode := .reading } }) ∧
     (s.reader.mode = .awaitingEnd ∨ s.reader.mode = .discarding →
       exec .linkReset s = .next { cleared with reader := { s.reader with awaited := none, mode := .reading } }) ∧
     (∀ p, s.reader.mode = .staged → s.reader.staged = some p →
       exec .linkReset s =
         .next ((((State.report .printFate (discardedPayload p .aborted)
           { cleared with reader := { s.reader with staged := none, mode := .reading } }).bump (.rejected .aborted))).reject
             p.order p.index p.attempt))) ∧
  (∀ s : State, s.inReset = false →
     (s.link.breakHeld = true →
       exec .lineReturnsToMarking s =
         .next { s with link := { s.link with breakHeld := false, spacing := 0, receiver := .hunting } } ∧
       ∀ bytes, exec (.frameArrival bytes) s = .next s) ∧
     (s.link.breakHeld = false → exec .lineReturnsToMarking s = .next s))

/-- A frame with a good check, of any inbound kind, tag and payload up to 11,600 bytes, is taken from its bytes on the line
and stored by its group as it stands, which costs one credit; with no credit it is discarded and CREDIT_OVERRUN is raised
(sections 10.1 and 10.2). -/
def Obligations.GoodFrameIsStored : Prop :=
  ∀ (k : InKind) (tag : Byte) (payload : List Byte) (s : State),
    s.inReset = false → s.link.breakHeld = false → s.link.receiver = .hunting → payload.length ≤ 11600 →
    (k.sequenced = true → 1 ≤ s.link.availableStream →
      exec (.frameArrival (frameBytes k.code tag payload)) s =
        .next { s with
          store := s.store ++ [{ kind := k, tag := tag, payload := payload }]
          link := { s.link with availableStream := s.link.availableStream - 1 } }) ∧
    (k.sequenced = false → 1 ≤ s.link.availableCommand →
      exec (.frameArrival (frameBytes k.code tag payload)) s =
        .next { s with
          commands := s.commands ++ [{ kind := k, tag := tag, payload := payload }]
          link := { s.link with availableCommand := s.link.availableCommand - 1 } }) ∧
    ((if k.sequenced then s.link.availableStream else s.link.availableCommand) = 0 →
      exec (.frameArrival (frameBytes k.code tag payload)) s = .next (s.raise .creditOverrun))

/-- R163: a frame fails when its check is wrong, when its kind is no inbound kind, or when its length exceeds 11,600; it is
discarded, LINK_CHECK is raised and counted, and one credit of the kind's group is used and returned, where the kind names a
group with credit. (LENGTH_OVER_LIMIT stands for the frame start with such a length.) -/
def Obligations.FailedFrameKeepsItsCredit : Prop :=
  ∀ (kind tag : Byte) (s : State), s.inReset = false → s.link.breakHeld = false → s.link.receiver = .hunting →
    let counted := (s.raise .linkCheck).bump .linkCheck
    let failed : State :=
      match InKind.ofCode kind with
      | none => counted
      | some k =>
        if k.sequenced ∧ 1 ≤ s.link.availableStream then
          { counted with link := { counted.link with
              availableStream := s.link.availableStream - 1, returnedStream := s.link.returnedStream + 1 } }
        else if ¬ k.sequenced ∧ 1 ≤ s.link.availableCommand then
          { counted with link := { counted.link with
              availableCommand := s.link.availableCommand - 1, returnedCommand := s.link.returnedCommand + 1 } }
        else counted
    (∀ (payload : List Byte) (check : Nat), payload.length ≤ 11600 → check < 65536 →
      (check ≠ (frameCheck ([kind, tag] ++ bytesOf 2 payload.length ++ payload)).toNat ∨ InKind.ofCode kind = none) →
      exec (.frameArrival ([0xA5, kind, tag] ++ bytesOf 2 payload.length ++ payload ++ bytesOf 2 check)) s = .next failed) ∧
    (∀ length : BitVec 16, 11600 < length.toNat → exec (.lengthOverLimit kind tag length) s = .next failed)

/-- An outbound frame joins the queue's end while it holds fewer than 64, and is otherwise dropped and counted, with the
overflow mark set. A STATUS frame carries the tag and the kind code of the frame it answers, and the result; a frame that the
part sends of itself has a free tag. A CREDIT frame, tag 0, carries the two returned counts, which become available credit.
The oldest outbound frame is begun when no CREDIT frame is due; the overflow mark is cleared then and OUTQ_LOST raised
(sections 10.2 and 10.3; the two times are the model's, log entries 6 and 24, and the free tag is log entry 3's). -/
def Obligations.TransmitterBeginsFrames : Prop :=
  (∀ (f : OutFrame) (s : State),
     (s.link.outbound.length < 64 →
       s.queueFrame f = { s with link := { s.link with outbound := s.link.outbound ++ [f] } }) ∧
     (64 ≤ s.link.outbound.length →
       s.queueFrame f =
         { s with link := { s.link with
             dropped := if s.link.dropped < 65535 then s.link.dropped + 1 else s.link.dropped, overflow := true } })) ∧
  (∀ (f : InFrame) (result : StatusResult) (kind : OutKind) (payload : List Byte) (s : State),
     s.answer f result =
         s.queueFrame { kind := .status, tag := f.tag, payload := [f.kind.code, BitVec.ofNat 8 result.code] } ∧
       s.report kind payload =
         State.queueFrame { kind := kind, tag := Config.unsolicitedTag s.freeTags, payload := payload }
           { s with freeTags := s.freeTags + 1 }) ∧
  (∀ s : State, s.inReset = false →
     ((0 < s.link.returnedStream ∨ 0 < s.link.returnedCommand) →
       exec .credit s =
         .next { s with
           now := max s.now s.link.transmitterFreeAt
           link := { s.link with
             availableStream := s.link.availableStream + s.link.returnedStream
             availableCommand := s.link.availableCommand + s.link.returnedCommand
             returnedStream := 0
             returnedCommand := 0
             transmitting := some { kind := .credit, tag := 0,
                                    payload := [BitVec.ofNat 8 s.link.returnedStream, BitVec.ofNat 8 s.link.returnedCommand] }
             transmitterFreeAt := max s.now s.link.transmitterFreeAt + 1 } }) ∧
     (s.link.returnedStream = 0 → s.link.returnedCommand = 0 → exec .credit s = .next s)) ∧
  (∀ (f : OutFrame) (rest : List OutFrame) (s : State), s.inReset = false → s.link.outbound = f :: rest →
     let begun : State :=
       { s with
         now := max s.now s.link.transmitterFreeAt
         link := { s.link with
           outbound := rest
           overflow := false
           transmitting := some f
           transmitterFreeAt := max s.now s.link.transmitterFreeAt + (f.payload.length + 31) / 25 } }
     (s.link.returnedStream = 0 → s.link.returnedCommand = 0 → s.link.overflow = false →
       exec .frameTransmit s = .next begun) ∧
     (s.link.returnedStream = 0 → s.link.returnedCommand = 0 → s.link.overflow = true →
       exec .frameTransmit s = .next (begun.raise .outqLost)) ∧
     (0 < s.link.returnedStream ∨ 0 < s.link.returnedCommand → exec .frameTransmit s = .next s))

/-- A raise counts the occurrence up to 255, makes the cause pending, and queues one ALERT frame with the cause number and the
count if the cause is enabled and not reported, which then is reported. (Section 9.2; no rule gives the frame's tag, which the
model makes a free value, log entry 3.) -/
def Obligations.RaiseCountsAndReports : Prop :=
  ∀ (c : Cause) (s : State), s.alerts.causes.length = 20 →
    let r := s.cause c
    let n := if r.count < 255 then r.count + 1 else r.count
    s.raise c =
      if r.enabled = true ∧ r.reported = false then
        State.queueFrame
          { kind := .alert, tag := Config.unsolicitedTag s.freeTags, payload := [BitVec.ofNat 8 c.code, BitVec.ofNat 8 n] }
          { s with
            freeTags := s.freeTags + 1
            alerts := { s.alerts with causes := (s.alerts.causes.set c.code
              { enabled := true, pending := true, reported := true, count := n }) } }
      else
        { s with alerts := { s.alerts with causes := (s.alerts.causes.set c.code
            { enabled := r.enabled, pending := true, reported := r.reported, count := n }) } }

/-- Whole numbers are sent most significant byte first and are read back from those bytes, and numbers that may be below 0
from their two's complement, wherever the field stands; and every inbound kind from its code, which is the only code that
names it (sections 11.1 and 10.1). -/
def Obligations.FieldsReadBack : Prop :=
  (∀ n v i : Nat, i < n → (bytesOf n v)[i]? = some (BitVec.ofNat 8 (v / 256 ^ (n - 1 - i)))) ∧
  (∀ n v : Nat, v < 256 ^ n → (bytesOf n v).length = n ∧ numberOf (bytesOf n v) = v) ∧
  (∀ (n v : Nat) (before after : List Byte), v < 256 ^ n →
    field (before ++ bytesOf n v ++ after) before.length n = v ∧
      fieldOrZero (before ++ bytesOf n v ++ after) before.length n = v) ∧
  (∀ (payload : List Byte) (offset n : Nat), payload.length < offset + n → fieldOrZero payload offset n = 0) ∧
  (∀ (n : Nat) (v : Int) (before after : List Byte), 0 < n → -(256 ^ n / 2 : Nat) ≤ v → v < (256 ^ n / 2 : Nat) →
    fieldInt (before ++ bytesOfInt n v ++ after) before.length n = v) ∧
  (∀ k : InKind, InKind.ofCode k.code = some k) ∧
  (∀ (b : Byte) (k : InKind), InKind.ofCode b = some k → k.code = b)

/-! ### Orders -/

/-- R4: ORDER OPEN is answered RANGE, DUPLICATE or FULL by the first check that fails, or it takes the lowest-numbered free
slot with the opening record. -/
def Obligations.OrderOpenTakesAFreeSlot : Prop :=
  ∀ (f : InFrame) (rest : List InFrame) (s : State), StoreFront .orderOpen f rest s → s.reader.mode = .reading →
    let number := field f.payload 0 3
    let source := field f.payload 3 1
    let cls := field f.payload 4 1
    let promotion := field f.payload 5 2
    let announced := field f.payload 7 2
    ((f.payload.length ≠ 9 ∨ number = 0 ∨ 3 < source ∨ 3 < cls ∨ 999 < announced) →
      exec .orderOpen s = .next (answeredStore f .range s)) ∧
    (∀ src c, f.payload.length = 9 → number ≠ 0 → Source.ofCode source = some src → ServiceClass.ofCode cls = some c →
      announced ≤ 999 →
      ((s.findOrder number).isSome = true → exec .orderOpen s = .next (answeredStore f .duplicate s)) ∧
      (s.findOrder number = none → (∀ o ∈ s.orders, o ≠ none) → exec .orderOpen s = .next (answeredStore f .full s)) ∧
      (∀ slot : Nat, s.findOrder number = none → s.orders[slot]? = some none →
        (∀ earlier < slot, s.orders[earlier]? ≠ some none) →
        exec .orderOpen s =
          .next (answeredStore f .accepted
            { s with orders := s.orders.set slot (some
                { number := number, source := src, cls := c
                  promotion := if promotion = 0 then none else some promotion
                  announced := if announced = 0 then none else some announced
                  expected := none, sent := 0, delivered := 0, inFlight := 0, remakes := [], tallies := [], unpriced := 0
                  group := none, bins := [], flags := {}, state := .opened }) })))

/-- ORDER CLOSE closes an OPEN order with E = S and SHORT_CLOSE where E0 differs, and makes the completion test; it is
answered RANGE, UNKNOWN_ORDER or BUSY otherwise. The test passes for a CLOSED order with D = E, F = 0 and an empty remake
list: it enters PRICING and its slot joins the pricing queue, from which an idle engine takes it at once, to be priced within
1 ms (when within it is free, log entry 4); it changes nothing otherwise (sections 1.4, 1.7 and 8.3). -/
def Obligations.OrderCloseMakesTheCompletionTest : Prop :=
  (∀ (f : InFrame) (rest : List InFrame) (s : State), StoreFront .orderClose f rest s → s.reader.mode = .reading →
     (f.payload.length ≠ 3 → exec .orderClose s = .next (answeredStore f .range s)) ∧
     (f.payload.length = 3 → s.findOrder (field f.payload 0 3) = none →
       exec .orderClose s = .next (answeredStore f .unknownOrder s)) ∧
     (∀ r, f.payload.length = 3 → s.findOrder (field f.payload 0 3) = some r → r.state ≠ .opened →
       exec .orderClose s = .next (answeredStore f .busy s)) ∧
     (∀ r, f.payload.length = 3 → s.findOrder (field f.payload 0 3) = some r → r.state = .opened →
       exec .orderClose s =
         .next (State.completionTest r.number
           (answeredStore f .accepted
             (s.updateOrder r.number fun r =>
               { r with
                 state := .closed
                 expected := some r.sent
                 flags := { r.flags with
                   shortClose := r.flags.shortClose || (r.announced.isSome && decide (r.announced ≠ some r.sent)) } }))))) ∧
  (∀ (number slot : Nat) (r : Order) (s : State), s.findOrder number = some r → s.slotOf number = some slot →
     ((r.state ≠ .closed ∨ r.expected ≠ some r.delivered ∨ r.inFlight ≠ 0 ∨ r.remakes ≠ []) → s.completionTest number = s) ∧
     (r.state = .closed → r.expected = some r.delivered → r.inFlight = 0 → r.remakes = [] →
       let entered := s.updateOrder number fun r => { r with state := .pricing }
       (s.price.engine.isSome = true →
         s.completionTest number = { entered with price := { s.price with queue := s.price.queue ++ [slot] } }) ∧
       (s.price.engine = none → s.price.queue = [] →
         ∃ due, s.now ≤ due ∧ due ≤ s.now + 1000 ∧
           s.completionTest number =
             { entered with price := { s.price with queue := [], engine := some { slot := slot, due := due } } })))

/-- The order record at a print header's acceptance, at a rejection that is listed and at a delivery: S, D, F and the remake
list change as the chapter's table of section 1.7 says, and nothing else of the four, so that S = D + F + (entries on the
remake list) goes on holding (sections 1.3 to 1.7; StepKeepsTheLedger states it of every command). -/
def Obligations.OrderLedgerBalances : Prop :=
  ∀ (r : Order) (h : Header) (used : Surface) (p : PrintRecord),
    let balanced (r : Order) : Prop := r.sent = r.delivered + r.inFlight + r.remakes.length
    balanced r →
    (h.remake = false →
      let q := r.acceptHeader h used
      balanced q ∧ q.sent = r.sent + 1 ∧ q.delivered = r.delivered ∧ q.inFlight = r.inFlight + 1 ∧ q.remakes = r.remakes) ∧
    (h.remake = true → (∃ e ∈ r.remakes, e.index = h.index) →
      let q := r.acceptHeader h used
      balanced q ∧ q.sent = r.sent ∧ q.delivered = r.delivered ∧ q.inFlight = r.inFlight + 1 ∧
        q.remakes.length + 1 = r.remakes.length ∧ q.remakes.Sublist r.remakes) ∧
    (∀ entry, 0 < r.inFlight →
      let q := { r.leaveFlight with remakes := r.remakes ++ [entry] }
      balanced q ∧ q.sent = r.sent ∧ q.delivered = r.delivered ∧ q.inFlight + 1 = r.inFlight) ∧
    (0 < r.inFlight →
      let q := r.deliver p
      balanced q ∧ q.sent = r.sent ∧ q.delivered = r.delivered + 1 ∧ q.inFlight + 1 = r.inFlight ∧ q.remakes = r.remakes)

/-- The rejection of a print of an OPEN or CLOSED order takes it out of flight and puts it on the remake list with a REMAKE
frame, unless the next attempt exceeds A_max or the list holds 16 entries; then the order fails (section 1.5; the tag of the
REMAKE frame is free, log entry 3). -/
def Obligations.RejectionAsksForARemake : Prop :=
  ∀ (number index attempt : Nat) (r : Order) (s : State), s.findOrder number = some r →
    (r.state = .opened ∨ r.state = .closed) →
    let left := s.updateOrder number fun r => { r with inFlight := r.inFlight - 1 }
    (attempt + 1 ≤ s.path.params.aMax → r.remakes.length < 16 →
      s.reject number index attempt =
        State.report .remake (bytesOf 3 number ++ bytesOf 2 index ++ bytesOf 1 (attempt + 1))
          (left.updateOrder number fun r =>
            { r with remakes := r.remakes ++ [{ index := index, attempt := attempt + 1 }] })) ∧
    ((s.path.params.aMax < attempt + 1 ∨ 16 ≤ r.remakes.length) →
      s.reject number index attempt = (left.raise .orderFailed).windDown number .failing)

/-- The rejection of a print of an order in CANCELLING or FAILING only takes it out of flight; when F has become 0 the order
ends: it sends ORDER DONE with its fate and no price, its slot is freed, and it owns no bin as a live order any more (sections
1.5 and 1.8; the tag of the ORDER DONE frame is free, log entry 3). -/
def Obligations.WindingDownOrderEnds : Prop :=
  ∀ (number index attempt : Nat) (r : Order) (fate : OrderFate) (s : State), s.findOrder number = some r →
    (r.state = .cancelling ∧ fate = .cancelled ∨ r.state = .failing ∧ fate = .failed) →
    let left := s.updateOrder number fun r => { r with inFlight := r.inFlight - 1 }
    (1 < r.inFlight → s.reject number index attempt = left) ∧
    (r.inFlight ≤ 1 →
      let t := s.reject number index attempt
      let done := left.report .orderDone
        (bytesOf 1 fate.code ++ bytesOf 3 r.number ++ bytesOf 2 r.delivered ++ bytesOf 4 0 ++ bytesOf 4 0 ++ bytesOf 4 0 ++
          bytesOf 2 r.unpriced ++ bytesOfSet (r.flags.members false false) ++ bytesOfList (bytesOf 1) r.bins ++
          bytesOf 2 s.price.priceGeneration ++ bytesOf 2 s.price.promoGeneration)
      t.link = done.link ∧ t.freeTags = done.freeTags ∧ t.findOrder number = none ∧
        (∀ other, other ≠ number → t.findOrder other = s.findOrder other) ∧
        (∀ n b, s.bin n = some b →
          t.bin n = some (if b.owner = some number then { b with ownerLive := false } else b)) ∧
        t.path = s.path ∧ t.reader = s.reader ∧ t.store = s.store ∧ t.commands = s.commands ∧ t.cutter = s.cutter ∧
        t.exposure = s.exposure ∧ t.monitor = s.monitor ∧ t.price = s.price ∧ t.alerts = s.alerts ∧
        t.sorter.queue = s.sorter.queue ∧ t.sorter.tray = s.sorter.tray ∧ t.outputs = s.outputs ∧ t.now = s.now)

/-- ORDER CANCEL by the state of the order it names; an accepted one winds an OPEN or CLOSED order down. Winding down: the
remake list is emptied, a staged print of the order is discarded and rejected CANCELLED, which takes it out of flight and
makes the reader discard its frames, the order's segments are flagged CANCELLED, and its FILLING bins become HELD; if nothing
is in flight then, the order ends at once, with its ORDER DONE, and its slot is freed (section 1.8; what the discarded print's
PRINT FATE REJECTED carries is the model's reading, log entry 15, and that F is counted down before the one test for the end
is its choice, log entry 30; the tags of frames that answer none are free, log entry 3). -/
def Obligations.OrderCancelByState : Prop :=
  (∀ (f : InFrame) (rest : List InFrame) (s : State), CommandFront .orderCancel f rest s →
     (f.payload.length ≠ 3 → exec .orderCancel s = .next (answeredCommand f .range s)) ∧
     (f.payload.length = 3 → s.findOrder (field f.payload 0 3) = none →
       exec .orderCancel s = .next (answeredCommand f .unknownOrder s)) ∧
     (∀ r, f.payload.length = 3 → s.findOrder (field f.payload 0 3) = some r →
       (r.state = .pricing → exec .orderCancel s = .next (answeredCommand f .busy s)) ∧
       (r.state = .cancelling ∨ r.state = .failing → exec .orderCancel s = .next (answeredCommand f .accepted s)) ∧
       (r.state = .opened ∨ r.state = .closed →
         exec .orderCancel s = .next ((answeredCommand f .accepted s).windDown r.number .cancelling)))) ∧
  (∀ (number : Nat) (r : Order) (next : OrderState) (fate : OrderFate) (s : State), s.findOrder number = some r →
     (next = .cancelling ∧ fate = .cancelled ∨ next = .failing ∧ fate = .failed) →
     let wound (u : State) (flying : Nat → Nat) : State :=
       { u with
         orders := (s.orders.map fun o => o.map fun q =>
           if q.number = number then { q with state := next, remakes := [], inFlight := flying q.inFlight } else q)
         path := { s.path with queue := (s.path.queue.map fun g =>
           if (g.print.map PrintRecord.order) = some number then { g with flags := { g.flags with cancelled := true } } else g) }
         sorter := { s.sorter with bins := (s.sorter.bins.map fun b =>
           if b.owner = some number ∧ b.state = .filling then { b with state := .held } else b) } }
     let ended (u : State) : State :=
       { u.report .orderDone
           (bytesOf 1 fate.code ++ bytesOf 3 r.number ++ bytesOf 2 r.delivered ++ bytesOf 4 0 ++ bytesOf 4 0 ++ bytesOf 4 0 ++
             bytesOf 2 r.unpriced ++ bytesOfSet (r.flags.members false false) ++ bytesOfList (bytesOf 1) r.bins ++
             bytesOf 2 s.price.priceGeneration ++ bytesOf 2 s.price.promoGeneration) with
         orders := (u.orders.map fun o => if (o.map Order.number) = some number then none else o)
         sorter := { u.sorter with bins := (u.sorter.bins.map fun b =>
           if b.owner = some number then { b with ownerLive := false } else b) } }
     ((∀ p, s.reader.staged = some p → p.order ≠ number) →
       (0 < r.inFlight → s.windDown number next = wound s id) ∧
       (r.inFlight = 0 → s.windDown number next = ended (wound s id))) ∧
     (∀ p, s.reader.staged = some p → p.order = number →
       let told :=
         (State.report .printFate
           (bytesOf 1 1 ++ bytesOf 3 p.order ++ bytesOf 2 p.index ++ bytesOf 1 p.attempt ++ bytesOfSet (reasonMembers [.cancelled]))
           { s with reader := { s.reader with staged := none, mode := .discarding } }).bump (.rejected .cancelled)
       (1 < r.inFlight → s.windDown number next = wound told (· - 1)) ∧
       (r.inFlight ≤ 1 → s.windDown number next = ended (wound told (· - 1)))))

/-! ### The Store Reader -/

/-- In mode STAGED a frame at the front waits. In FEEDING and AWAITING_END a frame other than LINE and PRINT END first ends
the stream, and in DISCARDING it ends the discarding; it is then acted on as in READING (sections 3.1, 3.3 and 3.5; the key of
the print whose PRINT END is awaited is the model's own, log entry 13). -/
def Obligations.OtherFramesEndTheStream : Prop :=
  ∀ (kind : InKind) (c : Instr) (f : InFrame) (rest : List InFrame) (s : State),
    kind.readerCommand = some c → kind ≠ .line → kind ≠ .printEnd → StoreFront kind f rest s →
    (s.reader.mode = .staged → exec c s = .next s) ∧
    (s.reader.mode = .discarding →
      exec c s = exec c { s with reader := { s.reader with mode := .reading, awaited := none } }) ∧
    (∀ g queue, s.reader.mode = .feeding → s.path.queue = queue ++ [g] →
      exec c s = exec c
        { s with
          reader := { s.reader with mode := .reading, source := some .margin }
          path := { s.path with queue := (queue ++
            [{ g with
              flags := { g.flags with short := true }
              print := g.print.map fun p => { p with notes := { p.notes with missingEnd := true, short := true } } }]) } }) ∧
    (∀ key, s.reader.mode = .awaitingEnd → s.reader.awaited = some key →
      exec c s = exec c
        { s with
          reader := { s.reader with mode := .reading, awaited := none }
          path := { s.path with queue := (s.path.queue.map fun g => { g with print := g.print.map fun p =>
            if p.key = key then { p with notes := { p.notes with missingEnd := true } } else p }) }
          sorter := { s.sorter with queue := (s.sorter.queue.map fun e =>
            if e.print.key = key then
              { e with print := { e.print with notes := { e.print.notes with missingEnd := true } } } else e) } })

/-- The header check: its five steps in order, the first that fails giving the reason. A refused header is removed and
reported with its reason, its counter is incremented, and its frames are discarded; one of wrong length is refused RANGE
before any step of the check (sections 1.3, 3.2 and 11.1), and so is one whose remake flag is neither yes nor no (the model's
reading, log entry 21, and how the remake flag of a header of wrong length is read its choice, log entry 39; the tags of
frames that answer none are free, log entry 3). -/
def Obligations.RefusedHeaderIsReported : Prop :=
  (∀ (h : Header) (s : State),
     (s.findOrder h.order = none → s.refuseHeader h = some .unknownOrder) ∧
     (∀ r, s.findOrder h.order = some r →
       (h.remake = false → r.state ≠ .opened → s.refuseHeader h = some .orderClosed) ∧
       (h.remake = false → r.state = .opened → (h.index ≠ r.sent + 1 ∨ 999 < h.index) →
         s.refuseHeader h = some .sequence) ∧
       (h.remake = false → r.state = .opened → h.index = r.sent + 1 → h.index ≤ 999 → r.announced = some r.sent →
         s.refuseHeader h = some .overcount) ∧
       (h.remake = true → (¬ (r.state = .opened ∨ r.state = .closed) ∨ ∀ e ∈ r.remakes, e.index ≠ h.index) →
         s.refuseHeader h = some .notPending) ∧
       (((h.remake = false ∧ r.state = .opened ∧ h.index = r.sent + 1 ∧ h.index ≤ 999 ∧ r.announced ≠ some r.sent) ∨
         (h.remake = true ∧ (r.state = .opened ∨ r.state = .closed) ∧ ∃ e ∈ r.remakes, e.index = h.index)) →
         s.refuseHeader h =
           match s.exposure.sizes[h.size]? with
           | none => some .noSize
           | some entry =>
             if entry.loaded = false then some .noSize
             else if s.exposure.paper.loaded = false ∨ s.exposure.paper.width ≠ entry.width then some .paperWidth
             else if s.usable s.exposure.paper.profile = false then some .noProfile
             else none))) ∧
  (∀ (f : InFrame) (rest : List InFrame) (reason : RefusalReason) (s : State), StoreFront .printHeader f rest s →
     s.reader.mode = .reading →
     (f.payload.length ≠ 9 ∧ reason = .range ∨ f.payload.length = 9 ∧ 1 < field f.payload 5 1 ∧ reason = .range ∨
       f.payload.length = 9 ∧ field f.payload 5 1 ≤ 1 ∧ s.refuseHeader (parseHeader f.payload) = some reason) →
     exec .printHeader s =
       .next
         (State.report .printFate
           (bytesOf 1 0 ++ bytesOf 3 (parseHeader f.payload).order ++ bytesOf 2 (parseHeader f.payload).index ++
             yesNo (parseHeader f.payload).remake ++ bytesOf 1 reason.code)
           { s with
             store := rest
             link := { s.link with returnedStream := s.link.returnedStream + 1 }
             reader := { s.reader with mode := .discarding }
             alerts := { s.alerts with counters := s.alerts.counters.modify 12 fun n => if n < 4294967295 then n + 1 else n } }))

/-- An accepted header makes the staged print, and the Order Table records it; no frame is sent (sections 1.3 and 3.2). -/
def Obligations.AcceptedHeaderIsStaged : Prop :=
  ∀ (f : InFrame) (rest : List InFrame) (r : Order) (entry : SizeEntry) (s : State), StoreFront .printHeader f rest s →
    s.reader.mode = .reading → f.payload.length = 9 → field f.payload 5 1 ≤ 1 →
    s.refuseHeader (parseHeader f.payload) = none →
    s.findOrder (field f.payload 0 3) = some r → s.exposure.sizes[field f.payload 6 1]? = some entry →
    let index := field f.payload 3 2
    let wanted := if field f.payload 7 1 = 1 then Surface.lustre else Surface.glossy
    let paper := s.exposure.paper
    let attempt :=
      if field f.payload 5 1 = 1 then ((r.remakes.find? fun e => e.index = index).map Remake.attempt).getD 1 else 1
    exec .printHeader s =
      .next { s with
        store := rest
        link := { s.link with returnedStream := s.link.returnedStream + 1 }
        orders := s.orders.map fun o => o.map fun q =>
          if q.number = r.number then
            { q with
              sent := if field f.payload 5 1 = 1 then q.sent else q.sent + 1
              inFlight := q.inFlight + 1
              remakes := if field f.payload 5 1 = 1 then q.remakes.eraseP (fun e => e.index = index) else q.remakes
              flags := { q.flags with substituted := q.flags.substituted || decide (paper.surface ≠ wanted) } }
          else q
        alerts := { s.alerts with counters := s.alerts.counters.modify 0 fun n => if n < 4294967295 then n + 1 else n }
        reader := { s.reader with
          mode := .staged
          staged := some
            { order := field f.payload 0 3, index := index, remake := decide (field f.payload 5 1 = 1), attempt := attempt
              size := field f.payload 6 1, length := entry.length, wanted := wanted, used := paper.surface
              profile := paper.profile, width := paper.width, charge := decide (field f.payload 8 1 ≠ 1), exposed := 0, underruns := 0
              widthFits := 0, clipped := 0, thermal := none
              notes := { substituted := decide (paper.surface ≠ wanted) } } } }

/-- A LINE or PRINT END at the front in READING is removed and counted as out of place, and nothing else. A LINE is surplus in
AWAITING_END, where it notes the print LONG, in the path or on the belt, is removed in DISCARDING, and waits in STAGED and
FEEDING. A PRINT END ends the stream early in FEEDING, ends the wait or the discarding, and waits in STAGED (sections 3.3 and
3.5; which print is noted, and where it is then, is the model's reading, by the key it keeps, log entry 13). -/
def Obligations.LineAndPrintEndByMode : Prop :=
  (∀ (f : InFrame) (rest : List InFrame) (s : State), StoreFront .line f rest s →
     let removed : State :=
       { s with store := rest, link := { s.link with returnedStream := s.link.returnedStream + 1 } }
     (s.reader.mode = .reading →
       exec .line s = .next { removed with alerts := { s.alerts with
         counters := s.alerts.counters.modify 16 fun n => if n < 4294967295 then n + 1 else n } }) ∧
     (s.reader.mode = .discarding → exec .line s = .next removed) ∧
     (∀ key, s.reader.mode = .awaitingEnd → s.reader.awaited = some key →
       exec .line s = .next { removed with
         path := { s.path with queue := (s.path.queue.map fun g => { g with print := g.print.map fun p =>
           if p.key = key then { p with notes := { p.notes with long := true } } else p }) }
         sorter := { s.sorter with queue := (s.sorter.queue.map fun e =>
           if e.print.key = key then { e with print := { e.print with notes := { e.print.notes with long := true } } }
           else e) } }) ∧
     (s.reader.mode = .staged ∨ s.reader.mode = .feeding → exec .line s = .next s)) ∧
  (∀ (f : InFrame) (rest : List InFrame) (s : State), StoreFront .printEnd f rest s →
     let removed : State :=
       { s with store := rest, link := { s.link with returnedStream := s.link.returnedStream + 1 } }
     (s.reader.mode = .reading →
       exec .printEnd s = .next { removed with alerts := { s.alerts with
         counters := s.alerts.counters.modify 16 fun n => if n < 4294967295 then n + 1 else n } }) ∧
     (∀ g queue, s.reader.mode = .feeding → s.path.queue = queue ++ [g] →
       exec .printEnd s = .next { removed with
         reader := { s.reader with mode := .reading, source := some .margin }
         path := { s.path with queue := (queue ++
           [{ g with
             flags := { g.flags with short := true }
             print := g.print.map fun p => { p with notes := { p.notes with short := true } } }]) } }) ∧
     (s.reader.mode = .awaitingEnd ∨ s.reader.mode = .discarding →
       exec .printEnd s = .next { removed with reader := { s.reader with mode := .reading, awaited := none } }) ∧
     (s.reader.mode = .staged → exec .printEnd s = .next s))

/-! ### The loads of the print stream -/

/-- PAPER LOAD: NOT_IDLE first, then the check of the whole frame, then the record is replaced and its generation number
rises. PROFILE, LUT, THERMAL and SIZE LOAD wait while a print is exposing; otherwise each is refused RANGE whole or replaces
what it covers and increments its generation number (sections 3.1 and 4.3; the wrap, section 11.1). Which payloads their
checks refuse is what TableEntriesReadBack states. -/
def Obligations.ExposureLoadsReplaceTheirTables : Prop :=
  (∀ (f : InFrame) (rest : List InFrame) (s : State), StoreFront .paperLoad f rest s → s.reader.mode = .reading →
     let width := field f.payload 0 2
     (s.path.run ≠ .idle → exec .paperLoad s = .next (answeredStore f .notIdle s)) ∧
     (s.path.run = .idle →
       (f.payload.length ≠ 7 ∨ width ∉ [89, 102, 127, 152, 203, 210, 254, 305] ∨ 1 < field f.payload 2 1 ∨
         3 < field f.payload 3 1 ∨ 4000000 < field f.payload 4 3) →
       exec .paperLoad s = .next (answeredStore f .range s)) ∧
     (s.path.run = .idle → f.payload.length = 7 → width ∈ [89, 102, 127, 152, 203, 210, 254, 305] →
       field f.payload 2 1 ≤ 1 → field f.payload 3 1 ≤ 3 → field f.payload 4 3 ≤ 4000000 →
       exec .paperLoad s =
         .next (answeredStore f .accepted
           { s with exposure := { s.exposure with
               paper :=
                 { loaded := true, width := width, surface := if field f.payload 2 1 = 1 then .lustre else .glossy
                   profile := field f.payload 3 1, remaining := field f.payload 4 3 }
               paperGeneration := (s.exposure.paperGeneration + 1) % 65536 } }))) ∧
  (∀ (f : InFrame) (rest : List InFrame) (s : State), s.reader.mode = .reading →
     (StoreFront .profileLoad f rest s →
       (s.reader.source.isSome = true → exec .profileLoad s = .next s) ∧
       (s.reader.source = none → parseProfileLoad f.payload = none →
         exec .profileLoad s = .next (answeredStore f .range s)) ∧
       (∀ slot profile, s.reader.source = none → parseProfileLoad f.payload = some (slot, profile) →
         exec .profileLoad s =
           .next (answeredStore f .accepted
             { s with exposure := { s.exposure with
                 profiles := s.exposure.profiles.set slot profile
                 profileGeneration := (s.exposure.profileGeneration + 1) % 65536 } }))) ∧
     (StoreFront .lutLoad f rest s →
       (s.reader.source.isSome = true → exec .lutLoad s = .next s) ∧
       (s.reader.source = none → parseLutLoad f.payload = none → exec .lutLoad s = .next (answeredStore f .range s)) ∧
       (∀ i entries, s.reader.source = none → parseLutLoad f.payload = some (i, entries) →
         exec .lutLoad s =
           .next (answeredStore f .accepted
             { s with exposure := { s.exposure with
                 luts := s.exposure.luts.set i { loaded := true, entries := entries }
                 lutGeneration := (s.exposure.lutGeneration + 1) % 65536 } }))) ∧
     (StoreFront .thermalLoad f rest s →
       (s.reader.source.isSome = true → exec .thermalLoad s = .next s) ∧
       (s.reader.source = none → parseThermalLoad f.payload = none →
         exec .thermalLoad s = .next (answeredStore f .range s)) ∧
       (∀ table, s.reader.source = none → parseThermalLoad f.payload = some table →
         exec .thermalLoad s =
           .next (answeredStore f .accepted
             { s with exposure := { s.exposure with
                 thermal := table, thermalGeneration := (s.exposure.thermalGeneration + 1) % 65536 } }))) ∧
     (StoreFront .sizeLoad f rest s →
       (s.reader.source.isSome = true → exec .sizeLoad s = .next s) ∧
       (s.reader.source = none → parseSizeLoad f.payload = none → exec .sizeLoad s = .next (answeredStore f .range s)) ∧
       (∀ i entry, s.reader.source = none → parseSizeLoad f.payload = some (i, entry) →
         exec .sizeLoad s =
           .next (answeredStore f .accepted
             { s with exposure := { s.exposure with
                 sizes := s.exposure.sizes.set i entry, sizeGeneration := (s.exposure.sizeGeneration + 1) % 65536 } }))))

/-- RUNPARAM LOAD: NOT_IDLE, then RANGE by the table of ranges, then all parameters at once; a PURGE record of the old L_cut +
240 takes the new length with its end unmoved (section 2.8). A cut point under watch is formed afresh: it is the one with the
least j whose cut position lies beyond the last scheduled one, and j = 1 where none has been scheduled. Where the PURGE record
has no such cut point, the boundary of the record behind it comes under watch, and none while no record has begun there
(section 6.3). The cut points that are reached then are scheduled within the load, one after another, until the one under
watch lies ahead or a record boundary is under watch (section 6.3). -/
def Obligations.RunparamLoadReplacesTheParameters : Prop :=
  (∀ (f : InFrame) (rest : List InFrame) (s : State), StoreFront .runparamLoad f rest s → s.reader.mode = .reading →
     let p := parseRunParams f.payload
     let inRange : Prop :=
       900 ≤ p.linePeriod ∧ p.linePeriod ≤ 20000 ∧ 12000 ≤ p.lCut ∧ p.lCut ≤ 60000 ∧ 60 ≤ p.dSensor ∧ p.dSensor ≤ 1200 ∧
         6 ≤ p.window ∧ p.window ≤ 120 ∧ 1200 ≤ p.zIn ∧ p.zIn < p.zOut ∧ p.zOut ≤ p.lCut - 1200 ∧ 600 ≤ p.wasteUnit ∧
         p.wasteUnit ≤ 2400 ∧ 600 ≤ p.rampLength ∧ p.rampLength ≤ 6000 ∧ 1 ≤ p.prefill ∧ p.prefill ≤ 40 ∧ 1 ≤ p.tDwell ∧
         p.tDwell ≤ 600 ∧ 10 ≤ p.tCut ∧ p.tCut ≤ 500 ∧ 500 ≤ p.tDel ∧ p.tDel ≤ 10000 ∧ 1 ≤ p.aMax ∧ p.aMax ≤ 7
     (s.path.run ≠ .idle → exec .runparamLoad s = .next (answeredStore f .notIdle s)) ∧
     (s.path.run = .idle → (f.payload.length ≠ 23 ∨ ¬ inRange) →
       exec .runparamLoad s = .next (answeredStore f .range s)) ∧
     (s.path.run = .idle → f.payload.length = 23 → inRange →
       let loaded : State :=
         { s with path := { s.path with
             params := p
             generation := (s.path.generation + 1) % 65536
             queue := (s.path.queue.map fun g =>
               if g.kind = .purge ∧ g.length = s.path.params.lCut + 240 then
                 { g with start := g.start + g.length - (p.lCut + 240 : Nat), length := p.lCut + 240, planned := p.lCut + 240 }
               else g) } }
       ((∀ j, s.cutter.current ≠ some (.cutPoint j)) →
         exec .runparamLoad s = .next (answeredStore f .accepted loaded)) ∧
       (∀ j, s.cutter.current = some (.cutPoint j) →
         let formed : State :=
           { loaded with cutter := { s.cutter with current := loaded.cutPointOr loaded.resumeIndex } }
         exec .runparamLoad s =
           .next (answeredStore f .accepted (formed.scheduleReached formed.boundaryFuel))))) ∧
  (∀ (fuel : Nat) (s : State),
     ((∀ j, s.cutter.current ≠ some (.cutPoint j)) → s.scheduleReached fuel = s) ∧
     (∀ j g, s.cutter.current = some (.cutPoint j) → s.purgeRecord = some g →
       let cutAt := g.start + (j * s.path.params.wasteUnit : Nat) + s.path.params.lCut + s.cutter.delta
       let scheduled : State :=
         { s with cutter := { s.cutter with
             lastPurgeCut := some cutAt
             cutList := (s.cutter.cutList ++ [{ boundary := .cutPoint j, cutAt := cutAt, retry := false }])
             current := s.cutPointOr (j + 1) } }
       ((s.path.position : Int) < cutAt - s.path.params.dSensor → s.scheduleReached fuel = s) ∧
       (cutAt - s.path.params.dSensor ≤ s.path.position →
         s.scheduleReached (fuel + 1) = scheduled.scheduleReached fuel)) ∧
     (∀ j g, 0 < s.path.params.wasteUnit → s.purgeRecord = some g →
       (s.scheduleReached s.boundaryFuel).cutter.current = some (.cutPoint j) →
       (s.path.position : Int) <
         g.start + (j * s.path.params.wasteUnit : Nat) + s.path.params.lCut - s.path.params.dSensor + s.cutter.delta)) ∧
  (∀ (s : State) (g : Segment), s.purgeRecord = some g → 0 < s.path.params.wasteUnit →
     let cutAt (j : Nat) : Int := g.start + (j * s.path.params.wasteUnit : Nat) + s.path.params.lCut + s.cutter.delta
     (s.cutter.lastPurgeCut = none → s.resumeIndex = 1) ∧
     (∀ last, s.cutter.lastPurgeCut = some last →
       1 ≤ s.resumeIndex ∧ last < cutAt s.resumeIndex ∧ ∀ j, 1 ≤ j → j < s.resumeIndex → cutAt j ≤ last) ∧
     (∀ j, j * s.path.params.wasteUnit < g.length → s.cutPointOr j = some (.cutPoint j)) ∧
     (∀ j, g.length ≤ j * s.path.params.wasteUnit →
       s.cutPointOr j = (s.path.queue.find? fun h => decide (g.start < h.start)).map fun h => .record h.start))

/-- Each load of the print stream and the SORTMAP LOAD is accepted by its range check for the bytes in which QUERY TABLE gives
a table whose every field is in range, and then reads back that very table, and it is refused for any other bytes (sections
2.8, 4.3, 7.8, 11.1 and 11.2; that the loaded flag, which these loads do not carry, stands first in an entry is the model's
choice, log entry 19). -/
def Obligations.TableEntriesReadBack : Prop :=
  (∀ (payload : List Byte) (slot : Nat) (p : Profile),
    parseProfileLoad payload = some (slot, p) ↔
      slot ≤ 3 ∧ p.loaded = true ∧ (∀ gain ∈ [p.gain.r, p.gain.g, p.gain.b], 2048 ≤ gain ∧ gain ≤ 8191) ∧ p.floorPulse ≤ 31 ∧
        p.duty ≤ 3 ∧ p.margin ≤ 255 ∧ payload = bytesOf 1 slot ++ p.bytes.tail) ∧
  (∀ (payload : List Byte) (i : Nat) (entries : List Nat),
    parseLutLoad payload = some (i, entries) ↔
      entries.length = 256 ∧ (∀ e ∈ entries, e ≤ 4095) ∧
        ∃ slot colour, slot ≤ 3 ∧ colour ≤ 2 ∧ i = 3 * slot + colour ∧
          payload = bytesOf 1 slot ++ bytesOf 1 colour ++ (Lut.bytes { loaded := true, entries := entries }).tail) ∧
  (∀ (payload : List Byte) (t : ThermalTable),
    parseThermalLoad payload = some t ↔
      -40 ≤ t.base ∧ t.base ≤ 240 ∧ 1 ≤ t.width ∧ t.width ≤ 16 ∧ t.bands.length = 16 ∧
        (∀ k ∈ t.bands, (768 ≤ k.r ∧ k.r ≤ 1279) ∧ (768 ≤ k.g ∧ k.g ≤ 1279) ∧ (768 ≤ k.b ∧ k.b ≤ 1279)) ∧
        payload = bytesOfInt 2 t.base ++ bytesOf 1 t.width ++ t.bands.flatMap Rgb.bytes) ∧
  (∀ (payload : List Byte) (code : Nat) (e : SizeEntry),
    parseSizeLoad payload = some (code, e) ↔
      code ≤ 15 ∧ e.loaded = true ∧ e.width ∈ [89, 102, 127, 152, 203, 210, 254, 305] ∧ 900 ≤ e.length ∧ e.length ≤ 6000 ∧
        e.group ≤ 3 ∧ payload = bytesOf 1 code ++ e.bytes.tail) ∧
  (∀ (p : Paper) (f : InFrame) (rest : List InFrame) (s : State), StoreFront .paperLoad f rest s →
    s.reader.mode = .reading → s.path.run = .idle → f.payload = p.bytes.tail → p.loaded = true →
    p.width ∈ [89, 102, 127, 152, 203, 210, 254, 305] → p.profile ≤ 3 → p.remaining ≤ 4000000 →
    exec .paperLoad s =
      .next (answeredStore f .accepted
        { s with exposure := { s.exposure with
            paper := p, paperGeneration := (s.exposure.paperGeneration + 1) % 65536 } })) ∧
  ((∀ payload : List Byte, payload.length = 23 → (parseRunParams payload).bytes = payload) ∧
   (∀ p : RunParams, p.valid = true → p.bytes.length = 23 ∧ parseRunParams p.bytes = p)) ∧
  (∀ (payload : List Byte) (windows : List Window) (capacity : Nat) (lamps : List LampPattern),
    parseSortmapLoad payload = some (windows, capacity, lamps) ↔
      windows.length = 8 ∧ lamps.length = 6 ∧ 20 ≤ capacity ∧ capacity ≤ 250 ∧
        (∀ w ∈ windows, w.base ≤ 63 ∧ w.mask ≤ 63 ∧ 1 ≤ w.first ∧ w.first ≤ w.last ∧ w.last ≤ 24) ∧
        (∀ l ∈ lamps, l.carrier ≤ 4) ∧
        payload = windows.flatMap Window.bytes ++ bytesOf 1 capacity ++ lamps.flatMap LampPattern.bytes)

/-- PRICE LOAD, PROMO LOAD and MONITOR LOAD are accepted by their checks for the bytes in which QUERY TABLE gives a table
whose every field is in range, and then read back that very table, and they are refused for any other bytes (sections 8.5,
5.6, 11.1 and 11.2; a promotion's layout is the model's choice, log entry 14). -/
def Obligations.PricesAndLimitsReadBack : Prop :=
  (∀ (payload : List Byte) (rows : List PriceRow) (surcharges : List Nat),
    parsePriceLoad payload = some (rows, surcharges) ↔
      rows.length = 16 ∧ surcharges.length = 4 ∧ (∀ c ∈ surcharges, c ≤ 65535) ∧
        (∀ r ∈ rows, r.glossy ≤ 65535 ∧ r.lustre ≤ 65535 ∧ r.breaks.length ≤ 3 ∧
          (∀ b ∈ r.breaks, 2 ≤ b.threshold ∧ b.threshold ≤ 999 ∧ 1 ≤ b.percent ∧ b.percent ≤ 90) ∧
          r.breaks.Pairwise fun a b => a.threshold < b.threshold ∧ a.percent ≤ b.percent) ∧
        payload = rows.flatMap PriceRow.bytes ++ surcharges.flatMap (bytesOf 2)) ∧
  (∀ (payload : List Byte) (records : List Promotion),
    parsePromoLoad payload = some records ↔
      records.length = 16 ∧
        (∀ p ∈ records, p.code ≤ 65535 ∧ p.percent ≤ 255 ∧ p.amount ≤ 16777215 ∧ p.size ≤ 255 ∧ p.prints ≤ 255 ∧
          p.cap ≤ 1000000 ∧ p.base ≤ 63 ∧ p.mask ≤ 63 ∧ (p.enabled = true → p.code ≠ 0) ∧
          (p.kind = .percent → 1 ≤ p.percent ∧ p.percent ≤ 100) ∧ (p.kind = .amount → p.amount ≤ 1000000) ∧
          (p.kind = .freePrints → p.size ≤ 15 ∧ 1 ≤ p.prints ∧ p.prints ≤ 99)) ∧
        ((records.filter Promotion.enabled).map Promotion.code).Nodup ∧ payload = records.flatMap Promotion.bytes) ∧
  (∀ (payload : List Byte) (limits : List ChannelLimits),
    parseMonitorLoad payload = some limits ↔
      limits.length = 4 ∧
        (∀ l ∈ limits, l.faultCount ∈ [1, 2, 4, 8] ∧ -40 ≤ l.loTrip ∧ l.loTrip ≤ l.loRecover ∧ l.loRecover ≤ l.hiRecover ∧
          l.hiRecover < l.hiTrip ∧ l.hiTrip ≤ 240 ∧ (l.loTrip = l.loRecover → l.loTrip = -40)) ∧
        payload = limits.flatMap ChannelLimits.bytes)

/-! ### The run -/

/-- RUN END begins a drain in STARTING and RUNNING, is accepted without effect in IDLE and DRAINING, and is refused HALTED in
HALTED. RUN START by the run state: the first refusal in the order NO_PAPER, BLOCKED, BUSY is given, and a refused one changes
nothing; an accepted one enters STARTING with the halt cause cleared, the dwell timer stopped and the line clock loaded, or
leaves a drain (section 2.3; the mark that the ramp is due is the model's own way to hold STARTING, log entry 12). -/
def Obligations.RunStartAndEndByState : Prop :=
  (∀ (f : InFrame) (rest : List InFrame) (s : State), CommandFront .runStart f rest s →
     let short := s.exposure.paper.loaded = false ∨
       s.exposure.paper.remaining < s.path.params.lCut + 240 + s.path.params.wasteUnit
     let blocked := s.alerts.estop.level = true ∨ s.alerts.jam.level = true
     let full := s.path.queue.length = 128
     let atRest := s.path.run = .idle ∨ s.path.run = .halted
     (f.payload ≠ [] → exec .runStart s = .next (answeredCommand f .range s)) ∧
     (f.payload = [] →
       (atRest → short → exec .runStart s = .next (answeredCommand f .noPaper s)) ∧
       (atRest → ¬ short → blocked → exec .runStart s = .next (answeredCommand f .blocked s)) ∧
       (atRest → ¬ short → ¬ blocked → full → exec .runStart s = .next (answeredCommand f .busy s)) ∧
       (atRest → ¬ short → ¬ blocked → ¬ full →
         exec .runStart s =
           .next (answeredCommand f .accepted
             { s with
               path := { s.path with run := .starting, haltCause := none, dwell := .stopped, rampDue := true }
               exposure := { s.exposure with
                 reload := s.path.params.linePeriod - 1, stepDue := s.now + s.path.params.linePeriod } })) ∧
       (s.path.run = .draining → s.path.drainCause = some .runEnd →
         exec .runStart s =
           .next (answeredCommand f .accepted { s with path := { s.path with run := .running, drainCause := none } })) ∧
       (s.path.run = .draining → s.path.drainCause = some .paper →
         exec .runStart s = .next (answeredCommand f .noPaper s)) ∧
       (s.path.run = .starting ∨ s.path.run = .running → exec .runStart s = .next (answeredCommand f .busy s)))) ∧
  (∀ (f : InFrame) (rest : List InFrame) (s : State), CommandFront .runEnd f rest s →
     (f.payload ≠ [] → exec .runEnd s = .next (answeredCommand f .range s)) ∧
     (f.payload = [] →
       (s.path.run = .starting ∨ s.path.run = .running →
         exec .runEnd s =
           .next (answeredCommand f .accepted
             { s with path := { s.path with run := .draining, drainCause := some .runEnd } })) ∧
       (s.path.run = .idle ∨ s.path.run = .draining → exec .runEnd s = .next (answeredCommand f .accepted s)) ∧
       (s.path.run = .halted → exec .runEnd s = .next (answeredCommand f .halted s))))

/-- RUN ABORT changes nothing in IDLE. In every other state stepping stops and the exposure ends; each PRINT record, oldest
first, is rejected, ABORTED with every other reason that its flags then show, with its PRINT FATE, its counters and what the
Order Table makes of it, and after them the staged print, ABORTED, where none of those rejections has failed its order and so
discarded it CANCELLED; then the run is IDLE, the whole path one PURGE record over the same paper, the Cutter Unit starts
afresh on it, nothing stays staged or exposing, and the head is dark (sections 2.6, 3.6, 4.1 and 6.6; the premise is the
invariant that StepKeepsTheReaderCoherent states, the order of the rejections, and with it the staged print's reason, is the
model's choice, log entry 26, that the first cut point stays under watch even where the web has reached it is its reading, log
entry 37, the key of a print whose PRINT END is awaited is its own, log entry 13, and what the PRINT FATE REJECTED frames
carry, for the staged print and for the others, its reading, log entries 15, 16 and 38; the tags of frames that answer none
are free, log entry 3). -/
def Obligations.RunAbortPurgesThePath : Prop :=
  ∀ (f : InFrame) (rest : List InFrame) (s : State), CommandFront .runAbort f rest s →
    (f.payload ≠ [] → exec .runAbort s = .next (answeredCommand f .range s)) ∧
    (f.payload = [] → s.path.run = .idle → exec .runAbort s = .next (answeredCommand f .accepted s)) ∧
    (∀ front head, f.payload = [] → s.path.run ≠ .idle → ReaderCoherent s → s.path.queue = front ++ [head] →
      let start := (front.headD head).start
      let length := ((s.path.position : Int) - start).toNat
      let stopped : State :=
        { State.answer f .accepted s with
          exposure := { s.exposure with drive := [] }
          reader := { s.reader with
            source := none
            lastLine := if s.reader.source.isSome then none else s.reader.lastLine
            awaited := if s.reader.mode = .awaitingEnd then none else s.reader.awaited
            mode := if s.reader.mode = .feeding ∨ s.reader.mode = .awaitingEnd then .discarding else s.reader.mode }
          path := { s.path with queue := (front ++
            [{ head with
              planned := head.length
              flags := { head.flags with aborted := head.flags.aborted || s.reader.source.isSome } }]) } }
      let rejected := (List.range (front.length + 1)).foldl
        (fun u i =>
          match u.path.queue[i]? with
          | some g =>
            match g.print with
            | some p =>
              let reasons :=
                (if g.flags.underrun then [.underrun] else []) ++ (if g.flags.short then [.short] else []) ++ [.aborted] ++
                  (if g.flags.chem then [.chem] else []) ++ (if g.flags.dwell then [.dwell] else []) ++
                  (if g.flags.miscut then [.miscut] else []) ++ (if g.flags.cancelled then [.cancelled] else [])
              (reasons.foldl (fun v reason => v.bump (.rejected reason))
                (u.report .printFate (bytesOf 1 1 ++ printDetails p reasons))).reject p.order p.index p.attempt
            | none => u
          | none => u) stopped
      let gone :=
        match rejected.reader.staged with
        | none => rejected
        | some p =>
          ((State.report .printFate (discardedPayload p .aborted)
            { rejected with reader := { rejected.reader with staged := none, mode := .discarding } }).bump
              (.rejected .aborted)).reject p.order p.index p.attempt
      ∃ t, exec .runAbort s = .next t ∧
        t.path = { s.path with
          run := .idle, haltCause := none, drainCause := none, dwell := .stopped
          queue := [{ kind := .purge, start := start, length := length, planned := length, print := none, flags := {},
                      lead := .predicted }] } ∧
        t.cutter = { s.cutter with
          current := if s.path.params.wasteUnit < length then some (.cutPoint 1) else none
          delta := 0, cutList := [], progress := none, consecutive := 0, missing := 0, spurious := 0
          lastPurgeCut := none } ∧
        t.orders = gone.orders ∧ t.alerts = gone.alerts ∧ t.sorter.bins = gone.sorter.bins ∧ t.freeTags = gone.freeTags ∧
        t.link = { gone.link with returnedCommand := s.link.returnedCommand + 1 } ∧
        t.reader.staged = none ∧ t.reader.source = none ∧ t.reader.mode ≠ .feeding ∧ t.reader.mode ≠ .awaitingEnd ∧
        t.commands = rest ∧ t.store = s.store ∧ t.exposure = { s.exposure with drive := [] } ∧ t.monitor = s.monitor ∧
        t.price = s.price ∧ t.sorter.queue = s.sorter.queue ∧ t.sorter.tray = s.sorter.tray ∧ t.outputs = s.outputs ∧
        t.now = s.now)

/-! ### Immediate frames of the other owners -/

/-- ALERT CLEAR: refused RANGE whole, or every named cause is cleared, every named channel that is TRIPPED is armed, and a
named level cause whose condition holds is raised again: PAPER_LOW in a drain for paper, JAM and ESTOP with their qualified
input active, TRAY_FULL with the tray's count at 250, and no other. ALERT ENABLE: refused RANGE whole, or all twenty enables
are replaced, and every cause that is then enabled, pending and not reported is reported. Each queues STATUS ACCEPTED first,
and then one ALERT frame for each cause that it makes reported, in ascending order of cause number, with the number and the
occurrence count, which is 1 after a clear; the frame is gone and its credit returned (sections 9.3 and 5.4; the tags of the
ALERT frames are free, log entry 3). -/
def Obligations.AlertClearAndEnable : Prop :=
  (∀ (f : InFrame) (rest : List InFrame) (s : State), CommandFront .alertClear f rest s → s.alerts.causes.length = 20 →
     ((f.payload.length ≠ 20 ∨ ∃ b ∈ f.payload, 1 < b.toNat) →
       exec .alertClear s = .next (answeredCommand f .range s)) ∧
     (f.payload.length = 20 → (∀ b ∈ f.payload, b.toNat ≤ 1) →
       let holds (c : Cause) : Bool :=
         match c with
         | .paperLow => decide (s.path.run = .draining ∧ s.path.drainCause = some .paper)
         | .jam => s.alerts.jam.level
         | .estop => s.alerts.estop.level
         | .trayFull => decide (s.sorter.tray.count = 250)
         | _ => false
       let told := ([.paperLow, .jam, .estop, .trayFull].filter fun c : Cause =>
           decide (f.payload.getD c.code 0 = 1) && holds c && (s.cause c).enabled).foldl
         (fun u c => u.report .alert (bytesOf 1 c.code ++ bytesOf 1 1)) (answeredCommand f .accepted s)
       ∃ t, exec .alertClear s = .next t ∧ t.link = told.link ∧ t.freeTags = told.freeTags ∧
         (∀ c : Cause, t.cause c =
           let r := s.cause c
           if f.payload.getD c.code 0 = 1 then
             if holds c = true then
               { enabled := r.enabled, pending := true, reported := r.enabled, count := 1 }
             else { enabled := r.enabled, pending := false, reported := false, count := 0 }
           else r) ∧
         (∀ i < 4, t.monitor.channels[i]? = s.monitor.channels[i]?.map fun ch =>
           if f.payload.getD i 0 = 1 ∧ ch.state = .tripped then { ch with armed := true } else ch) ∧
         t.alerts.counters = s.alerts.counters ∧ t.commands = rest ∧ t.path = s.path ∧ t.sorter = s.sorter ∧
         t.orders = s.orders ∧ t.store = s.store ∧ t.exposure = s.exposure ∧ t.cutter = s.cutter ∧ t.reader = s.reader)) ∧
  (∀ (f : InFrame) (rest : List InFrame) (s : State), CommandFront .alertEnable f rest s → s.alerts.causes.length = 20 →
     ((f.payload.length ≠ 20 ∨ ∃ b ∈ f.payload, 1 < b.toNat) →
       exec .alertEnable s = .next (answeredCommand f .range s)) ∧
     (f.payload.length = 20 → (∀ b ∈ f.payload, b.toNat ≤ 1) →
       let told := (allCauses.filter fun c =>
           decide (f.payload.getD c.code 0 = 1) && (s.cause c).pending && !(s.cause c).reported).foldl
         (fun u c => u.report .alert (bytesOf 1 c.code ++ bytesOf 1 (s.cause c).count)) (answeredCommand f .accepted s)
       ∃ t, exec .alertEnable s = .next t ∧ t.link = told.link ∧ t.freeTags = told.freeTags ∧
         (∀ c : Cause, t.cause c =
           let r := s.cause c
           let enabled := decide (f.payload.getD c.code 0 = 1)
           { r with enabled := enabled, reported := r.reported || (enabled && r.pending) }) ∧
         t.alerts.counters = s.alerts.counters ∧ t.commands = rest ∧ t.path = s.path ∧ t.sorter = s.sorter ∧
         t.orders = s.orders ∧ t.store = s.store ∧ t.exposure = s.exposure ∧ t.cutter = s.cutter ∧ t.reader = s.reader ∧
         t.monitor = s.monitor)) ∧
  allCauses.map Cause.code = List.range 20

/-- MONITOR LOAD replaces the limits of the four channels together and zeroes their exceed counters; reading, state and armed
flag stay (section 5.6). SORTMAP LOAD is refused RANGE, then BUSY, or replaces windows, C_bin and lamps (section 7.8). PRICE
LOAD and PROMO LOAD wait while an order is being priced, and otherwise are refused RANGE or replace their table (section 8.5).
Which payloads their checks refuse is what PricesAndLimitsReadBack and TableEntriesReadBack state. -/
def Obligations.OwnersLoadTheirTables : Prop :=
  (∀ (f : InFrame) (rest : List InFrame) (s : State),
     (CommandFront .monitorLoad f rest s →
       (parseMonitorLoad f.payload = none → exec .monitorLoad s = .next (answeredCommand f .range s)) ∧
       (∀ l0 l1 l2 l3 c0 c1 c2 c3, parseMonitorLoad f.payload = some [l0, l1, l2, l3] →
         s.monitor.channels = [c0, c1, c2, c3] →
         exec .monitorLoad s =
           .next (answeredCommand f .accepted
             { s with monitor := { s.monitor with
                 channels := [{ c0 with limits := l0, exceed := 0 }, { c1 with limits := l1, exceed := 0 },
                              { c2 with limits := l2, exceed := 0 }, { c3 with limits := l3, exceed := 0 }]
                 generation := (s.monitor.generation + 1) % 65536 } }))) ∧
     (CommandFront .sortmapLoad f rest s →
       (parseSortmapLoad f.payload = none → exec .sortmapLoad s = .next (answeredCommand f .range s)) ∧
       (∀ windows capacity lamps, parseSortmapLoad f.payload = some (windows, capacity, lamps) →
         ((∃ b ∈ s.sorter.bins, capacity < b.count + b.pending) →
           exec .sortmapLoad s = .next (answeredCommand f .busy s)) ∧
         ((∀ b ∈ s.sorter.bins, b.count + b.pending ≤ capacity) →
           exec .sortmapLoad s =
             .next (answeredCommand f .accepted
               { s with sorter := { s.sorter with
                   windows := windows, capacity := capacity, lamps := lamps
                   generation := (s.sorter.generation + 1) % 65536 } }))))) ∧
  (∀ (f : InFrame) (rest : List InFrame) (s : State),
     (CommandFront .priceLoad f rest s →
       (s.price.engine.isSome = true → exec .priceLoad s = .next s) ∧
       (s.price.engine = none → parsePriceLoad f.payload = none →
         exec .priceLoad s = .next (answeredCommand f .range s)) ∧
       (∀ rows surcharges, s.price.engine = none → parsePriceLoad f.payload = some (rows, surcharges) →
         exec .priceLoad s =
           .next (answeredCommand f .accepted
             { s with price := { s.price with
                 rows := rows, surcharges := surcharges
                 priceGeneration := (s.price.priceGeneration + 1) % 65536 } }))) ∧
     (CommandFront .promoLoad f rest s →
       (s.price.engine.isSome = true → exec .promoLoad s = .next s) ∧
       (s.price.engine = none → parsePromoLoad f.payload = none →
         exec .promoLoad s = .next (answeredCommand f .range s)) ∧
       (∀ records, s.price.engine = none → parsePromoLoad f.payload = some records →
         exec .promoLoad s =
           .next (answeredCommand f .accepted
             { s with price := { s.price with
                 promotions := records, promoGeneration := (s.price.promoGeneration + 1) % 65536 } }))))

/-! ### Queries -/

/-- A QUERY that names what it reads is answered with one REPLY, which begins with the query kind, and then STATUS ACCEPTED,
and changes nothing it reads (the encodings that log entries 17 and 18 name are the model's). A QUERY of wrong length, of no
known kind, or naming no order, bin or page is answered by its STATUS alone (sections 11.1 and 11.2; that any of the eight
commands answers an unknown kind, and that order number 0 is answered RANGE and not UNKNOWN_ORDER, are the model's choices,
log entries 20 and 36). -/
def Obligations.QueriesReplyAndChangeNothing : Prop :=
  (∀ (f : InFrame) (rest : List InFrame) (s : State), CommandFront .query f rest s →
     (∀ r number, 0 < number → number < 16777216 → f.payload = 1 :: bytesOf 3 number → s.findOrder number = some r →
       exec .queryOrder s = .next (repliedQuery f (1 :: r.bytes) s)) ∧
     (∀ n b, f.payload = [2, BitVec.ofNat 8 n] → n ≤ 24 → s.bin n = some b →
       exec .queryBin s =
         .next (repliedQuery f
           ([2] ++ b.bytes ++ bytesOf 1 s.sorter.queue.length ++ bytesOf 1 s.gateSelect.code ++ bytesOf 1 s.sorter.capacity ++
             bytesOf 2 s.sorter.generation) s)) ∧
     (f.payload = [2, 25] →
       exec .queryBin s =
         .next (repliedQuery f
           ([2] ++ s.sorter.tray.bytes ++ bytesOf 1 s.sorter.queue.length ++ bytesOf 1 s.gateSelect.code ++
             bytesOf 1 s.sorter.capacity ++ bytesOf 2 s.sorter.generation) s)) ∧
     (∀ start, start ≤ 127 → f.payload = [3, BitVec.ofNat 8 start] →
       let page := (s.path.queue.drop start).take 16
       exec .queryPath s =
         .next (repliedQuery f
           ([3] ++ bytesOf 1 s.path.queue.length ++ bytesOfInt 6 s.path.position ++ bytesOf 1 page.length ++
             page.flatMap Segment.bytes) s)) ∧
     (f.payload = [4] →
       exec .queryMonitor s =
         .next (repliedQuery f
           ([4] ++ s.monitor.channels.flatMap Channel.bytes ++ yesNo s.headHold ++ yesNo s.chemistryHold ++
             bytesOf 1 s.monitor.converting ++ bytesOf 2 s.monitor.generation) s)) ∧
     (f.payload = [5] →
       exec .queryRun s =
         .next (repliedQuery f ([5] ++ s.runBytes ++ s.readerBytes ++ s.cutterBytes ++ s.linkBytes) s)) ∧
     (f.payload = [8] →
       exec .queryAlerts s = .next (repliedQuery f (8 :: s.alerts.causes.flatMap CauseRecord.bytes) s))) ∧
  (∀ (f : InFrame) (rest : List InFrame) (s : State), CommandFront .query f rest s →
     (∀ c ∈ [Instr.queryOrder, .queryBin, .queryPath, .queryMonitor, .queryRun, .queryTable, .queryCounters, .queryAlerts],
       (f.payload = [] ∨ ∃ kind args, f.payload = kind :: args ∧ (kind = 0 ∨ 8 < kind.toNat)) →
       exec c s = .next (answeredCommand f .range s)) ∧
     (∀ args, f.payload = 1 :: args → args.length = 3 → numberOf args = 0 →
       exec .queryOrder s = .next (answeredCommand f .range s)) ∧
     (∀ args, f.payload = 1 :: args → args.length = 3 → numberOf args ≠ 0 → s.findOrder (numberOf args) = none →
       exec .queryOrder s = .next (answeredCommand f .unknownOrder s)) ∧
     (∀ n, f.payload = [2, n] → (n = 0 ∨ 25 < n.toNat) → exec .queryBin s = .next (answeredCommand f .range s)) ∧
     (∀ n, f.payload = [3, n] → 127 < n.toNat → exec .queryPath s = .next (answeredCommand f .range s)) ∧
     (∀ args, f.payload = 1 :: args → args.length ≠ 3 → exec .queryOrder s = .next (answeredCommand f .range s)) ∧
     (∀ args, f.payload = 2 :: args → args.length ≠ 1 → exec .queryBin s = .next (answeredCommand f .range s)) ∧
     (∀ args, f.payload = 3 :: args → args.length ≠ 1 → exec .queryPath s = .next (answeredCommand f .range s)) ∧
     (∀ args, f.payload = 4 :: args → args ≠ [] → exec .queryMonitor s = .next (answeredCommand f .range s)) ∧
     (∀ args, f.payload = 5 :: args → args ≠ [] → exec .queryRun s = .next (answeredCommand f .range s)) ∧
     (∀ args, f.payload = 6 :: args → args.length ≠ 3 → exec .queryTable s = .next (answeredCommand f .range s)) ∧
     (∀ args, f.payload = 7 :: args → args.length ≠ 1 → exec .queryCounters s = .next (answeredCommand f .range s)) ∧
     (∀ args, f.payload = 8 :: args → args ≠ [] → exec .queryAlerts s = .next (answeredCommand f .range s)))

/-- A QUERY TABLE is answered with the table's kind, generation number, number of entries, start index, number of entries
returned, header items, and the entries from the start index up to the count or the table's end (section 11.2; the loaded flag
stands first in an entry by the model's choice, log entry 19). A QUERY COUNTERS carries every counter, and with the clear
option yes zeroes them at the same moment, but only when the REPLY finds room in the outbound queue (section 9.6). -/
def Obligations.TablePagesAndCounters : Prop :=
  (∀ (f : InFrame) (rest : List InFrame) (kind start count : Nat) (s : State), CommandFront .query f rest s →
     f.payload = [6, BitVec.ofNat 8 kind, BitVec.ofNat 8 start, BitVec.ofNat 8 count] → kind < 256 → start < 256 →
     count < 256 →
     ((kind = 0 ∨ 11 < kind) → exec .queryTable s = .next (answeredCommand f .range s)) ∧
     (∀ t, s.table kind = some t →
       (t.entries.length ≤ start → exec .queryTable s = .next (answeredCommand f .range s)) ∧
       (start < t.entries.length →
         let page := (t.entries.drop start).take count
         exec .queryTable s =
           .next (repliedQuery f
             ([6] ++ bytesOf 1 kind ++ bytesOf 2 t.generation ++ bytesOf 1 t.entries.length ++ bytesOf 1 start ++
               bytesOf 1 page.length ++ t.header ++ page.flatten) s)))) ∧
  (∀ (f : InFrame) (rest : List InFrame) (option : Byte) (s : State), CommandFront .query f rest s →
     f.payload = [7, option] →
     let reply := 7 :: s.alerts.counters.flatMap (bytesOf 4)
     (1 < option.toNat → exec .queryCounters s = .next (answeredCommand f .range s)) ∧
     ((option = 0 ∨ option = 1 ∧ 64 ≤ s.link.outbound.length) →
       exec .queryCounters s = .next (repliedQuery f reply s)) ∧
     (option = 1 → s.link.outbound.length < 64 →
       exec .queryCounters s =
         .next (repliedQuery f reply
           { s with alerts := { s.alerts with counters := List.replicate s.alerts.counters.length 0 } })))

/-! ### Steps -/

/-- A step inside a segment moves the web one line: web position, remaining paper, the head segment's length and the two line
counters. Of the rest of the part it may change the reader, the print stream's store, the exposure, the cutter and the alerts,
but nothing of the orders, the sorter, the monitor, the prices and the commands (section 2.1). Of every step that moves the
web: with no print at the head the head is dark, and while DEV is TRIPPED each PRINT record whose leading boundary the step
brings to Z_in is flagged CHEM (sections 4.1, 4.2 and 2.5; the two times are the model's, log entry 6, and that the pulse
output then has 2 µs to run its reading of section 10.5, log entry 29). -/
def Obligations.StepMovesTheWebOneLine : Prop :=
  (∀ (sample : PunchSample) (g : Segment) (queue : List Segment) (s : State), s.inReset = false → s.stepping = true →
     s.path.queue = queue ++ [g] → g.length ≠ g.planned → 0 < s.exposure.paper.remaining →
     s.alerts.counters.length = 18 →
     ∃ t, exec (.step sample) s = .next t ∧
       t.path.position = s.path.position + 1 ∧
       t.exposure.paper = { s.exposure.paper with remaining := s.exposure.paper.remaining - 1 } ∧
       t.pathLayout = queue.map Segment.layout ++ [(g.kind, g.start, g.length + 1, g.planned)] ∧
       t.counter .paperLines = saturate 4294967295 (s.counter .paperLines) ∧
       t.counter .wasteLines =
         (if g.kind = .waste ∨ g.kind = .ramp then saturate 4294967295 (s.counter .wasteLines)
          else s.counter .wasteLines) ∧
       (∀ c, c ≠ .paperLines → c ≠ .wasteLines → t.counter c = s.counter c) ∧
       t.path.run = s.path.run ∧ t.path.haltCause = s.path.haltCause ∧ t.path.drainCause = s.path.drainCause ∧
       t.path.dwell = s.path.dwell ∧ t.path.params = s.path.params ∧ t.outputs.stepPulse = 2 ∧
       t.outputs.punchPulse = s.outputs.punchPulse ∧
       t.now = max s.now s.exposure.stepDue ∧ t.exposure.stepDue = s.exposure.stepDue + s.exposure.reload + 1 ∧
       t.orders = s.orders ∧ t.sorter = s.sorter ∧ t.monitor = s.monitor ∧ t.price = s.price ∧ t.commands = s.commands ∧
       (g.print = none → t.exposure.drive = [])) ∧
  (∀ (sample : PunchSample) (s t : State), s.inReset = false → exec (.step sample) s = .next t →
     t.path.position = s.path.position + 1 →
     (t.headSegment.bind Segment.print = none → t.exposure.drive = []) ∧
     ∀ (i : Nat) (k : Segment), s.path.queue[i]? = some k → ∃ l, t.path.queue[i]? = some l ∧
       l.flags.chem = (k.flags.chem || (s.tripped 3 &&
         decide (k.kind = .print ∧ (s.path.position : Int) + 1 - k.start = s.path.params.zIn))))

/-- A step due with the head segment complete begins the next one at the web position and fires the punch: the ramp in
STARTING, a waste unit in DRAINING, and in RUNNING a waste unit while no print may start and the paper test passes; no emitter
is driven in it (sections 2.2 to 2.4, 4.1, 4.2 and 6.1; the mark that the ramp is due is the model's own, log entry 12, and
that a pulse output then has 2 µs to run is its reading, log entry 29). Where the paper test fails in RUNNING, for the ready
print or else for a waste unit, the run drains for paper, PAPER_LOW is raised, and a waste unit begins while a PRINT segment
lives in the path; where none does, StepDueMayEndStepping states what happens. -/
def Obligations.BoundaryBeginsASegment : Prop :=
  (∀ (sample : PunchSample) (kind : SegmentKind) (planned : Nat) (s : State), s.inReset = false →
    s.atBoundary = true → 0 < s.exposure.paper.remaining → s.path.queue.length < 128 →
    (s.path.run = .starting ∧ s.path.rampDue = true ∧ kind = .ramp ∧ planned = s.path.params.rampLength ∨
      s.path.run = .draining ∧ s.hasPrint = true ∧ kind = .waste ∧ planned = s.path.params.wasteUnit ∨
      (s.path.run = .running ∨ s.path.run = .starting ∧ s.path.rampDue = false) ∧
        (s.headHold = true ∨ s.chemistryHold = true ∨ s.stagedReady = false) ∧
        s.path.params.wasteUnit + (s.path.params.lCut + 240) ≤ s.exposure.paper.remaining ∧
        kind = .waste ∧ planned = s.path.params.wasteUnit) →
    ∃ t, exec (.step sample) s = .next t ∧
      t.pathLayout = s.pathLayout ++ [(kind, (s.path.position : Int), 1, planned)] ∧
      t.path.position = s.path.position + 1 ∧ t.outputs.punchPulse = 2 ∧ t.outputs.stepPulse = 2 ∧ t.exposure.drive = [] ∧
      t.exposure.paper = { s.exposure.paper with remaining := s.exposure.paper.remaining - 1 } ∧
      t.path.run = (if kind = .ramp then .starting else if s.path.run = .draining then .draining else .running) ∧
      t.path.rampDue = (if kind = .ramp then false else s.path.rampDue) ∧
      t.path.drainCause = s.path.drainCause ∧ t.path.haltCause = s.path.haltCause ∧
      t.reader.staged = s.reader.staged ∧ t.orders = s.orders ∧ t.sorter = s.sorter ∧ t.monitor = s.monitor ∧
      t.price = s.price ∧ t.commands = s.commands) ∧
  (∀ (sample : PunchSample) (planned : Nat) (s : State), s.inReset = false → s.atBoundary = true → s.path.queue.length < 128 →
    (s.path.run = .running ∨ s.path.run = .starting ∧ s.path.rampDue = false) →
    ((s.headHold = true ∨ s.chemistryHold = true ∨ s.stagedReady = false) ∧ planned = s.path.params.wasteUnit ∨
      s.headHold = false ∧ s.chemistryHold = false ∧ s.stagedReady = true ∧
        ∃ p, s.reader.staged = some p ∧ planned = p.length) →
    0 < s.exposure.paper.remaining → s.exposure.paper.remaining < planned + (s.path.params.lCut + 240) →
    s.hasPrint = true → s.alerts.causes.length = 20 →
    ∃ t, exec (.step sample) s = .next t ∧ t.path.run = .draining ∧ t.path.drainCause = some .paper ∧
      t.cause .paperLow =
        { enabled := (s.cause .paperLow).enabled, pending := true
          reported := (s.cause .paperLow).reported || (s.cause .paperLow).enabled
          count := saturate 255 (s.cause .paperLow).count } ∧
      t.pathLayout = s.pathLayout ++ [(.waste, (s.path.position : Int), 1, s.path.params.wasteUnit)] ∧
      t.path.position = s.path.position + 1 ∧ t.outputs.punchPulse = 2 ∧ t.outputs.stepPulse = 2 ∧ t.exposure.drive = [] ∧
      t.path.haltCause = s.path.haltCause ∧ t.reader.staged = s.reader.staged ∧ t.orders = s.orders ∧
      t.sorter = s.sorter ∧ t.monitor = s.monitor ∧ t.price = s.price ∧ t.commands = s.commands)

/-- A ready staged print starts at a boundary in RUNNING, or at the one behind the ramp, where the run becomes RUNNING, with
no hold on and the paper test passed: its record becomes the new PRINT segment with the thermal values of the moment, the
reader feeds it, and the step takes its first line. Where another frame than LINE stands at the front, it ends the stream
before the step, which exposes the margin line: the print and its segment are SHORT and the reader reads on; a PRINT END is
removed, any other frame stays for the reader, which acts on it after the step (the model's choice, log entry 40), and the
print is noted MISSING_END too (sections 2.3, 2.4, 3.4 and 3.5; the mark that the ramp is due is the model's own, log entry
12, and that a pulse output then has 2 µs to run is its reading, log entry 29). -/
def Obligations.ReadyPrintStartsAtABoundary : Prop :=
  ∀ (sample : PunchSample) (p : PrintRecord) (f : InFrame) (rest : List InFrame) (s : State), s.inReset = false →
    s.atBoundary = true → s.path.queue.length < 128 →
    (s.path.run = .running ∨ s.path.run = .starting ∧ s.path.rampDue = false) → s.headHold = false →
    s.chemistryHold = false → s.stagedReady = true → s.reader.staged = some p → s.store = f :: rest →
    p.length + (s.path.params.lCut + 240) ≤ s.exposure.paper.remaining → p.exposed + 1 < p.length →
    let thermal : Rgb :=
      ⟨(s.exposure.thermal.values (s.reading 0)).r, (s.exposure.thermal.values (s.reading 1)).g,
       (s.exposure.thermal.values (s.reading 2)).b⟩
    let code := (s.profile p.profile).margin
    let line : List Rgb × Bool :=
      if f.kind = .line then fitLine (12 * p.width) code (linePixels f.payload)
      else (List.replicate (12 * p.width) ⟨code, code, code⟩, false)
    ∃ t h q, exec (.step sample) s = .next t ∧
      t.pathLayout = s.pathLayout ++ [(.print, (s.path.position : Int), 1, p.length)] ∧
      t.headSegment = some h ∧ h.print = some q ∧ h.flags.short = decide (f.kind ≠ .line) ∧
      (q.order = p.order ∧ q.index = p.index ∧ q.attempt = p.attempt ∧ q.length = p.length ∧ q.profile = p.profile ∧
        q.charge = p.charge ∧ q.exposed = p.exposed + 1 ∧ q.underruns = p.underruns ∧
        q.widthFits = p.widthFits + line.2.toNat ∧ q.thermal = some thermal ∧
        q.notes.short = (p.notes.short || decide (f.kind ≠ .line)) ∧
        q.notes.missingEnd = (p.notes.missingEnd || decide (f.kind ≠ .line ∧ f.kind ≠ .printEnd))) ∧
      t.exposure.drive = (line.1.map fun v => ((s.lineSettings { p with thermal := some thermal }).pixel v).1) ∧
      t.reader.staged = none ∧
      (f.kind = .line → t.reader.mode = .feeding ∧ t.reader.source = some .store ∧ t.reader.lastLine = some line.1) ∧
      (f.kind ≠ .line → t.reader.mode = .reading ∧ t.reader.source = some .margin) ∧
      (f.kind = .line ∨ f.kind = .printEnd →
        t.store = rest ∧ t.link.returnedStream = s.link.returnedStream + 1) ∧
      (f.kind ≠ .line → f.kind ≠ .printEnd → t.store = s.store ∧ t.link.returnedStream = s.link.returnedStream) ∧
      t.outputs.punchPulse = 2 ∧ t.path.run = .running ∧ t.path.position = s.path.position + 1 ∧ t.orders = s.orders ∧
      t.sorter = s.sorter ∧ t.monitor = s.monitor ∧ t.price = s.price ∧ t.commands = s.commands

/-- No print segment starts unless the run is RUNNING, no monitor channel is TRIPPED, the staged print is ready, and the
remaining paper less its length is at least L_cut + 240 (section 2.4; RUNNING as it stands when the segment is chosen, so that
the boundary behind the ramp is included, where the model's own mark that the ramp is due is off, log entry 12). -/
def Obligations.NoPrintStartsUnlessAllowed : Prop :=
  ∀ (c : Instr) (s t : State) (g : Segment), exec c s = .next t → (∀ h ∈ s.path.queue, h.start < s.path.position) →
    g ∈ t.path.queue → g.kind = .print → g.start = s.path.position →
    (∃ sample, c = .step sample) ∧ t.path.run = .running ∧
      (s.path.run = .running ∨ s.path.run = .starting ∧ s.path.rampDue = false) ∧
      (∀ channel < 4, s.tripped channel = false) ∧ s.stagedReady = true ∧
      ∃ p, s.reader.staged = some p ∧ g.planned = p.length ∧
        s.path.params.lCut + 240 + p.length ≤ s.exposure.paper.remaining

/-- A step due with no paper halts the run for PAPER_OUT and raises PAPER_LOW, and one at a boundary with 128 records halts it
for PATH_FULL; no step is issued, the head segment is cut short, an exposing print is flagged ABORTED, the head goes dark and
the dwell timer starts (section 2.3; the order of the tests is the model's choice, log entry 11, and so is the clock, log
entry 6). A drain with no PRINT segment left ends at the next boundary, and a drain for paper that the paper test begins with
none left ends at once, with PAPER_LOW raised: no step is issued, the run is IDLE, and a drain for paper discards the staged
print with reason ABORTED (sections 2.3, 2.4 and 3.6; what its PRINT FATE REJECTED carries is the model's reading, log entry
15, and the mark that the ramp is due its own, log entry 12; the tags of frames that answer none are free, log entry 3). -/
def Obligations.StepDueMayEndStepping : Prop :=
  (∀ (sample : PunchSample) (g : Segment) (queue : List Segment) (cause : HaltCause) (s : State), s.inReset = false →
     s.stepping = true → s.path.queue = queue ++ [g] → s.alerts.causes.length = 20 →
     ¬ (s.atBoundary = true ∧ s.path.run = .draining ∧ s.hasPrint = false) →
     (s.exposure.paper.remaining = 0 ∧ cause = .paperOut ∨
       0 < s.exposure.paper.remaining ∧ s.atBoundary = true ∧ 128 ≤ s.path.queue.length ∧ cause = .pathFull) →
     ∃ t, exec (.step sample) s = .next t ∧
       t.path = { s.path with
         run := .halted, haltCause := some cause, drainCause := none
         dwell := .running (max s.now s.exposure.stepDue + s.path.params.tDwell * 1000000)
         queue := (queue ++ [{ g with
           planned := g.length
           flags := { g.flags with aborted := g.flags.aborted || s.reader.source.isSome } }]) } ∧
       t.exposure = { s.exposure with drive := [] } ∧ t.reader.source = none ∧ t.reader.staged = s.reader.staged ∧
       t.reader.mode = (if s.reader.source.isSome ∧ s.reader.mode = .feeding then .discarding else s.reader.mode) ∧
       (cause = .paperOut → (t.cause .paperLow).pending = true) ∧ (cause = .pathFull → t.alerts = s.alerts) ∧
       t.store = s.store ∧ t.cutter = s.cutter ∧ t.orders = s.orders ∧ t.sorter = s.sorter ∧ t.monitor = s.monitor) ∧
  (∀ (sample : PunchSample) (planned : Nat) (g : Segment) (queue : List Segment) (s : State), s.inReset = false →
     (s.path.run = .running ∨ s.path.run = .starting ∧ s.path.rampDue = false) →
     ((s.headHold = true ∨ s.chemistryHold = true ∨ s.stagedReady = false) ∧ planned = s.path.params.wasteUnit ∨
       s.headHold = false ∧ s.chemistryHold = false ∧ s.stagedReady = true ∧
         ∃ p, s.reader.staged = some p ∧ planned = p.length) →
     s.path.queue = queue ++ [g] → s.atBoundary = true → s.path.queue.length < 128 → s.hasPrint = false →
     0 < s.exposure.paper.remaining → s.exposure.paper.remaining < planned + (s.path.params.lCut + 240) →
     ∃ ended, ended = State.raise .paperLow { s with
         now := max s.now s.exposure.stepDue
         exposure := { s.exposure with drive := [] }
         path := { s.path with run := .idle, drainCause := none, queue := queue ++ [{ g with planned := g.length }] } } ∧
       (s.reader.staged = none → exec (.step sample) s = .next ended) ∧
       (∀ p, s.reader.staged = some p →
         exec (.step sample) s =
           .next ((((State.report .printFate (discardedPayload p .aborted)
             { ended with reader := { s.reader with staged := none, mode := .discarding } }).bump (.rejected .aborted))).reject
               p.order p.index p.attempt))) ∧
  (∀ (sample : PunchSample) (g : Segment) (queue : List Segment) (s : State), s.inReset = false → s.path.run = .draining →
     s.path.queue = queue ++ [g] → s.atBoundary = true → s.hasPrint = false →
     ∃ ended, ended = { s with
         now := max s.now s.exposure.stepDue
         exposure := { s.exposure with drive := [] }
         path := { s.path with run := .idle, drainCause := none, queue := queue ++ [{ g with planned := g.length }] } } ∧
       (s.path.drainCause = some .runEnd ∨ s.reader.staged = none → exec (.step sample) s = .next ended) ∧
       (∀ p, s.path.drainCause = some .paper → s.reader.staged = some p →
         exec (.step sample) s =
           .next ((((State.report .printFate (discardedPayload p .aborted)
             { ended with reader := { s.reader with staged := none, mode := .discarding } }).bump (.rejected .aborted))).reject
               p.order p.index p.attempt)))

/-! ### The exposure computation -/

/-- R73, behind the stages A to C: each half-up division and each limit, and whether the sample is clipped; every on-time of a
pixel lies within the window, a time of 0 stays 0, and a head pixel that is not driven has on-time 0. The window is the phase,
a third of the line period, times the duty: 1/4, 1/3, 1/2 or 1/1 by its code. A line is computed with the tables, the gains,
the floor pulse and the duty of the print's slot, and the thermal values of its record. The thermal band of a reading is the
whole number of widths that it lies above the base, within 0 to 15 (sections 4.1 to 4.4 and 3.4). -/
def Obligations.OnTimeStaysInTheWindow : Prop :=
  (∀ (lut : List Nat) (gain k window floorPulse v : Nat),
    let e := lut.getD v 0
    let q1 := (e * gain + 2048) / 4096
    let e1 := min q1 4095
    let q2 := (e1 * k + 512) / 1024
    let e2 := min q2 4095
    let t := (e2 * window + 2048) / 4096
    onTime lut gain k window floorPulse v =
        (if 0 < t ∧ t < floorPulse then min floorPulse window else t, decide (4095 < q1 ∨ 4095 < q2)) ∧
      (onTime lut gain k window floorPulse v).1 ≤ window) ∧
  (∀ (l : LineSettings) (v : Rgb), (l.pixel v).1.r ≤ l.window ∧ (l.pixel v).1.g ≤ l.window ∧ (l.pixel v).1.b ≤ l.window) ∧
  (∀ (i : Nat) (s : State), s.exposure.drive.length ≤ i → s.drivenPixel i = ⟨0, 0, 0⟩) ∧
  (∀ period : Nat, exposureWindow period 0 = period / 3 / 4 ∧ exposureWindow period 1 = period / 3 / 3 ∧
     exposureWindow period 2 = period / 3 / 2 ∧ exposureWindow period 3 = period / 3) ∧
  (∀ (p : PrintRecord) (profile : Profile) (red green blue : Lut) (s : State),
     s.exposure.profiles[p.profile]? = some profile → s.exposure.luts[3 * p.profile]? = some red →
     s.exposure.luts[3 * p.profile + 1]? = some green → s.exposure.luts[3 * p.profile + 2]? = some blue →
     ∀ k, p.thermal = some k →
       s.lineSettings p =
         { red := red.entries, green := green.entries, blue := blue.entries, gain := profile.gain, thermal := k
           window := exposureWindow s.path.params.linePeriod profile.duty, floorPulse := profile.floorPulse }) ∧
  (∀ (l : LineSettings) (v : Rgb),
     let r := onTime l.red l.gain.r l.thermal.r l.window l.floorPulse v.r
     let g := onTime l.green l.gain.g l.thermal.g l.window l.floorPulse v.g
     let b := onTime l.blue l.gain.b l.thermal.b l.window l.floorPulse v.b
     l.pixel v = (⟨r.1, g.1, b.1⟩, r.2.toNat + g.2.toNat + b.2.toNat)) ∧
  (∀ (t : ThermalTable) (reading : Int), 0 < t.width →
     t.band reading ≤ 15 ∧ (reading < t.base + t.width → t.band reading = 0) ∧
       (t.base + 15 * t.width ≤ reading → t.band reading = 15) ∧
       (∀ i : Nat, i ≤ 15 → t.base + i * t.width ≤ reading → reading < t.base + (i + 1) * t.width → t.band reading = i) ∧
       (∀ v, t.bands[t.band reading]? = some v → t.values reading = v))

/-- A step of an exposing print exposes one line. With line source STORE it is the LINE at the front of the store, fitted to
the paper width, which is removed; with an empty store, and at every step with source NONE, the step is an underrun: the last
line again, or the margin line where there is none, and it is counted in the print, flagged UNDERRUN in its segment, and
raised. With source MARGIN, or where another frame at the front has ended the stream before the step, it is the margin line.
The head is driven with the line's on-times; the lines-exposed, width-fit, underrun and clipped-sample counts follow, and a
clipped sample is noted. A complete print is exposing no more, and its reader awaits its PRINT END (the key of that print is
the model's own, log entry 13). A frame that has ended the stream and is no PRINT END is acted on for itself after the step
(the model's choice, log entry 40). While DEV is TRIPPED the step flags CHEM each PRINT record whose leading boundary it
brings to Z_in. The line period begins at the step, and its colour phases are each a third of it, rounded down: red, then
green, then blue. An emitter is lit from the start of its colour's phase for the pixel's on-time, none in the rest of the
period, and none in reset (sections 3.5, 4.1, 4.2 and 2.5; where the step falls on the model's clock is log entry 6). -/
def Obligations.StepExposesALine : Prop :=
  (∀ (sample : PunchSample) (p : PrintRecord) (g : Segment) (queue : List Segment) (source : LineSource) (line : List Rgb)
     (fitted lost ended : Bool) (s : State), s.inReset = false → s.stepping = true → s.path.queue = queue ++ [g] →
     g.length ≠ g.planned → 0 < s.exposure.paper.remaining → g.print = some p → s.reader.source = some source →
     (source = .store ↔ s.reader.mode = .feeding) → s.alerts.causes.length = 20 →
     let code := (s.profile p.profile).margin
     let margin := List.replicate (12 * p.width) (⟨code, code, code⟩ : Rgb)
     (source = .store ∧ lost = false ∧ ended = false ∧
         (∃ f, s.store.head? = some f ∧ f.kind = .line ∧ (line, fitted) = fitLine (12 * p.width) code (linePixels f.payload)) ∨
       source = .store ∧ s.store = [] ∧ line = s.reader.lastLine.getD margin ∧ fitted = false ∧ lost = true ∧ ended = false ∨
       source = .cutOff ∧ line = s.reader.lastLine.getD margin ∧ fitted = false ∧ lost = true ∧ ended = false ∨
       source = .margin ∧ line = margin ∧ fitted = false ∧ lost = false ∧ ended = false ∨
       source = .store ∧ (∃ f, s.store.head? = some f ∧ f.kind ≠ .line) ∧ line = margin ∧ fitted = false ∧ lost = false ∧
         ended = true) →
     let pixels := line.map (s.lineSettings p).pixel
     ∃ t h q, exec (.step sample) s = .next t ∧ t.path.queue.getLast? = some h ∧ h.print = some q ∧
       t.now = max s.now s.exposure.stepDue ∧ t.exposure.stepDue = s.exposure.stepDue + (s.exposure.reload + 1) ∧
       t.exposure.reload = s.exposure.reload ∧
       t.exposure.drive = pixels.map Prod.fst ∧
       (q.order = p.order ∧ q.index = p.index ∧ q.attempt = p.attempt ∧ q.length = p.length ∧ q.thermal = p.thermal) ∧
       q.exposed = p.exposed + 1 ∧ q.underruns = p.underruns + lost.toNat ∧ q.widthFits = p.widthFits + fitted.toNat ∧
       q.clipped = min 65535 (p.clipped + (pixels.map Prod.snd).sum) ∧
       q.notes.clipped = (p.notes.clipped || decide (0 < q.clipped)) ∧ q.notes.short = (p.notes.short || ended) ∧
       h.flags.underrun = (g.flags.underrun || lost) ∧ h.flags.short = (g.flags.short || ended) ∧
       (∀ c, c ≠ .regMissing → c ≠ .punchSpurious → t.cause c =
         if c = .underrun ∧ lost = true then
           { enabled := (s.cause .underrun).enabled, pending := true
             reported := (s.cause .underrun).reported || (s.cause .underrun).enabled
             count := saturate 255 (s.cause .underrun).count }
         else s.cause c) ∧
       ((∃ f ∈ s.store.head?, f.kind = .line ∨ f.kind = .printEnd) → source = .store →
         t.store = s.store.tail ∧ t.link.returnedStream = s.link.returnedStream + 1) ∧
       ((source ≠ .store ∨ ∀ f ∈ s.store.head?, f.kind ≠ .line ∧ f.kind ≠ .printEnd) →
         t.store = s.store ∧ t.link.returnedStream = s.link.returnedStream) ∧
       (p.exposed + 1 < p.length →
         t.reader.mode = (if ended = true then .reading else s.reader.mode) ∧
         t.reader.source = (if ended = true then some .margin else some source) ∧
         t.reader.lastLine = (if source = .store ∧ ended = false then some line else s.reader.lastLine)) ∧
       (p.length ≤ p.exposed + 1 →
         t.reader.source = none ∧ t.reader.lastLine = none ∧
         t.reader.mode =
           (if ended = true then .reading else if source = .store then .awaitingEnd else s.reader.mode) ∧
         (source = .store → ended = false →
           t.reader.awaited = some { order := p.order, index := p.index, attempt := p.attempt })) ∧
       (∀ (i : Nat) (k : Segment), s.path.queue[i]? = some k → ∃ l, t.path.queue[i]? = some l ∧
         l.flags.chem = (k.flags.chem || (s.tripped 3 &&
           decide (k.kind = .print ∧ (s.path.position : Int) + 1 - k.start = s.path.params.zIn))))) ∧
  (∀ (i began : Nat) (s : State), s.exposure.stepDue = began + (s.exposure.reload + 1) → began ≤ s.now →
     let phase := s.path.params.linePeriod / 3
     let past := s.now - began
     let t := s.drivenPixel i
     (∀ v, s.exposure.drive[i]? = some v → t = v) ∧
     (s.inReset = true → ∀ colour, s.emitterLit i colour = false) ∧
     (s.inReset = false →
       (s.emitterLit i 0 = true ↔ past < t.r) ∧ (s.emitterLit i 1 = true ↔ phase ≤ past ∧ past < phase + t.g) ∧
       (s.emitterLit i 2 = true ↔ 2 * phase ≤ past ∧ past < 2 * phase + t.b)) ∧
     (t.r ≤ phase → t.g ≤ phase → t.b ≤ phase → 3 * phase ≤ past → ∀ colour < 3, s.emitterLit i colour = false))

/-- A LINE payload of the exact width is used as it stands; any other is cut or padded with the margin code to the paper
width, and counted as fitted; one over 3,840 pixels or of wrong length is a line of no pixels (section 3.5). -/
def Obligations.LinesAreFittedToThePaper : Prop :=
  (∀ (width margin : Nat) (pixels : List Rgb),
    (fitLine width margin pixels).1.length = width ∧
    (∀ i, i < width → i < pixels.length → (fitLine width margin pixels).1[i]? = pixels[i]?) ∧
    (∀ i, i < width → pixels.length ≤ i → (fitLine width margin pixels).1[i]? = some ⟨margin, margin, margin⟩) ∧
    ((fitLine width margin pixels).2 = true ↔ pixels.length ≠ width)) ∧
  (∀ pixels : List Rgb, pixels.length ≤ 3840 → (∀ v ∈ pixels, v.r ≤ 255 ∧ v.g ≤ 255 ∧ v.b ≤ 255) →
    linePixels (bytesOf 2 pixels.length ++ pixels.flatMap fun v => bytesOf 1 v.r ++ bytesOf 1 v.g ++ bytesOf 1 v.b) =
      pixels) ∧
  (∀ payload : List Byte, (3840 < field payload 0 2 ∨ payload.length ≠ 2 + 3 * field payload 0 2) → linePixels payload = [])

/-! ### The cutter -/

/-- A cut-done with no cut in progress only counts as a late cut-done. The piece of a removed WASTE, RAMP or PURGE record, or
one freed at a PURGE cut point, goes to the chute with no frame and no word to an order; a removed PRINT record is classified,
and a drain whose last PRINT record it was ends. After a cut-done the oldest entry, if it is due and carries no retry mark, is
fired at once: a record boundary becomes LATE with both records beside it MISCUT, a PURGE cut point flags nothing; the timer
starts with T_cut (sections 6.4 and 6.5; that the late fire follows the end of a drain is the model's reading, log entry 28,
and that the fire output then has 2 µs to run its choice, log entry 29). -/
def Obligations.CutDoneFreesAPiece : Prop :=
  (∀ s : State, s.inReset = false → s.cutter.progress = none →
     exec .cutDone s =
       .next { s with alerts := { s.alerts with
         counters := s.alerts.counters.modify 17 fun n => if n < 4294967295 then n + 1 else n } }) ∧
  (∀ (p : CutProgress) (e : CutEntry) (rest : List CutEntry) (s : State), s.inReset = false → s.cutter.progress = some p →
     s.cutter.cutList = e :: rest →
     let cut : State :=
       { s with
         cutter := { s.cutter with progress := none, cutList := rest }, outputs := { s.outputs with flap := .chute } }
     (∀ j, e.boundary = .cutPoint j → exec .cutDone s = .next cut.fireLate) ∧
     (∀ start g queue, e.boundary = .record start → s.path.queue = g :: queue → g.kind ≠ .print →
       exec .cutDone s = .next (State.fireLate { cut with path := { s.path with queue := queue } })) ∧
     (∀ start g queue, e.boundary = .record start → s.path.queue = g :: queue → g.kind = .print →
       let judged := State.classify g
         { s with
           cutter := { s.cutter with progress := none, cutList := rest }, path := { s.path with queue := queue } }
       exec .cutDone s =
         .next (State.fireLate
           (if judged.path.run = .draining ∧ judged.hasPrint = false then judged.endDrain else judged)))) ∧
  (∀ (e : CutEntry) (rest : List CutEntry) (s : State), s.cutter.progress = none → s.cutter.cutList = e :: rest →
     let fired : State :=
       { s with
         cutter := { s.cutter with progress := some { firedAt := s.now, due := s.now + s.path.params.tCut * 1000 } }
         outputs := { s.outputs with firePulse := 2 } }
     ((s.path.position : Int) < e.cutAt ∨ e.retry = true → s.fireLate = s) ∧
     (∀ j, e.cutAt ≤ s.path.position → e.retry = false → e.boundary = .cutPoint j → s.fireLate = fired) ∧
     (∀ start, e.cutAt ≤ s.path.position → e.retry = false → e.boundary = .record start →
       s.fireLate =
         { fired with path := { s.path with queue := (s.path.queue.map fun g =>
           { g with
             lead := if g.start = start then .late else g.lead
             flags := { g.flags with
               miscut := g.flags.miscut || decide (g.start = start ∨ g.start + g.length = start) } }) } }))

/-- A PRINT piece with no reject reason is handed to the Sorter Unit: with a target it goes onto the conveyor, with a refusal
it is rejected with that single reason; with reasons it is rejected with all of them, CANCELLED among them where its order is
being wound down (section 6.5; the bytes of the PRINT FATE frame are the model's reading, log entry 16; the tags of frames
that answer none are free, log entry 3). -/
def Obligations.PrintPiecesAreJudged : Prop :=
  ∀ (g : Segment) (p : PrintRecord) (s : State), g.kind = .print → g.print = some p →
    let dying := ∃ r, s.findOrder p.order = some r ∧ (r.state = .cancelling ∨ r.state = .failing)
    (∀ reason, reason ∈ s.pieceReasons g p ↔
      (reason = .underrun ∧ g.flags.underrun = true ∨ reason = .short ∧ g.flags.short = true ∨
        reason = .aborted ∧ g.flags.aborted = true ∨ reason = .chem ∧ g.flags.chem = true ∨
        reason = .dwell ∧ g.flags.dwell = true ∨ reason = .miscut ∧ g.flags.miscut = true ∨
        reason = .cancelled ∧ (g.flags.cancelled = true ∨ dying))) ∧
    (s.pieceReasons g p ≠ [] →
      s.classify g =
        (((s.setFlap .chute).report .printFate (bytesOf 1 1 ++ printDetails p (s.pieceReasons g p))).countReasons
          (s.pieceReasons g p)).reject p.order p.index p.attempt) ∧
    (∀ target t, s.pieceReasons g p = [] → s.sortPrint p = (.ok target, t) → s.classify g = t.setFlap .conveyor) ∧
    (∀ reason t, s.pieceReasons g p = [] → s.sortPrint p = (.error reason, t) →
      s.classify g =
        ((((t.setFlap .chute).report .printFate (bytesOf 1 1 ++ printDetails p [reason])).bump (.rejected reason))).reject
          p.order p.index p.attempt)

/-- T_cut passes for a cut in progress: it is given up with the retry mark, a record boundary becomes LATE with both records
beside it MISCUT, CUTTER_FAULT is raised, and a moving run halts for CUTTER (section 6.4; the time is the model's, log entry
6). -/
def Obligations.CutTimeoutGivesTheCutUp : Prop :=
  ∀ (p : CutProgress) (e : CutEntry) (rest : List CutEntry) (s : State), s.inReset = false → s.cutter.progress = some p →
    s.cutter.cutList = e :: rest → s.alerts.causes.length = 20 →
    ∃ t, exec .cutTimeout s = .next t ∧
      t.cutter = { s.cutter with progress := none, cutList := { e with retry := true } :: rest } ∧
      (t.cause .cutterFault).pending = true ∧
      (t.cause .cutterFault).count = saturate 255 (s.cause .cutterFault).count ∧
      (∀ c, c ≠ .cutterFault → t.cause c = s.cause c) ∧
      (s.stepping = true → t.path.run = .halted ∧ t.path.haltCause = some .cutter ∧ t.exposure.drive = [] ∧
        t.path.dwell = .running (max s.now p.due + s.path.params.tDwell * 1000000)) ∧
      (s.stepping = false → t.path.run = s.path.run ∧ t.path.haltCause = s.path.haltCause ∧ t.path.dwell = s.path.dwell) ∧
      (∀ start, e.boundary = .record start → ∀ (i : Nat) (g : Segment), s.path.queue[i]? = some g → ∃ h,
        t.path.queue[i]? = some h ∧ h.start = g.start ∧ h.length = g.length ∧
        h.lead = (if g.start = start then .late else g.lead) ∧
        h.flags.miscut = (g.flags.miscut || decide (g.start = start ∨ g.start + g.length = start))) ∧
      t.path.position = s.path.position ∧ t.orders = s.orders ∧ t.sorter = s.sorter ∧ t.monitor = s.monitor ∧
      t.store = s.store ∧ t.commands = s.commands

/-- The punch sensor is sampled once: two samples in a row that agree make its qualified level, and a punch is detected where
that turns from PAPER to HOLE. R102 and R103: a punch inside the window registers the boundary under watch, appends its cut
d_s behind the punch, moves δ by the deviation within −240 to 240, and ends the run of misses; one before the window, or with
no boundary under watch, is spurious; one while a PURGE cut point is under watch is ignored (sections 6.1 and 6.2). -/
def Obligations.PunchRegistersTheBoundary : Prop :=
  (∀ (sample : PunchSample) (s : State),
    s.samplePunch sample =
      ({ s with cutter := { s.cutter with
          lastSample := sample
          qualified := if sample = s.cutter.lastSample then sample else s.cutter.qualified } },
       decide (s.cutter.qualified = .paper ∧ s.cutter.lastSample = .hole ∧ sample = .hole))) ∧
  (∀ s : State,
    let spurious := State.raise .punchSpurious { s with cutter := { s.cutter with
      spurious := if s.cutter.spurious < 65535 then s.cutter.spurious + 1 else s.cutter.spurious } }
    (∀ start, s.cutter.current = some (.record start) →
      let expected := start + s.path.params.lCut - s.path.params.dSensor + s.cutter.delta
      let d := (s.path.position : Int) - expected
      (-(s.path.params.window : Int) ≤ d → d ≤ s.path.params.window →
        s.judgePunch =
          { s with
            path := { s.path with queue := (s.path.queue.map fun g =>
              if g.start = start then { g with lead := .registered } else g) }
            cutter := { s.cutter with
              delta := max (-240) (min 240 (s.cutter.delta + d))
              consecutive := 0
              cutList := (s.cutter.cutList ++
                [{ boundary := .record start, cutAt := s.path.position + s.path.params.dSensor, retry := false }])
              current := ((s.path.queue.find? fun g => decide (start < g.start)).map fun g => .record g.start) } }) ∧
      (d < -(s.path.params.window : Int) → s.judgePunch = spurious)) ∧
    (s.cutter.current = none → s.judgePunch = spurious) ∧
    (∀ j, s.cutter.current = some (.cutPoint j) → s.judgePunch = s))

/-- A step that moves the web runs the Cutter Unit on the moved web, with the cutter as it stood, save that the leading
boundary of a segment that begins comes under watch where none was. The Cutter Unit samples the punch sensor, tests the
boundary under watch and those that come under watch after it, until one lies ahead or none is left, judges a punch unless a
PURGE cut point was scheduled at the step, and fires the oldest cut if it is due. A boundary whose window the web has passed
without a punch is missing: it is predicted, its cut stands at the expected position plus d_s, both records beside it are
MISCUT, the two counts rise, REG_MISSING is raised from the third in a row, and the next boundary comes under watch. A cut
point of the PURGE record whose expected position is reached is scheduled, and flags nothing; after it comes the next cut
point, or the record behind the PURGE record (sections 6.1 to 6.4; that the cutter is the last to act within a step is the
model's choice, log entry 41; that the fire output then has 2 µs to run is the model's choice, log entry 29). -/
def Obligations.MissedBoundaryIsPredicted : Prop :=
  (∀ (start : Int) (fuel : Nat) (s : State), s.cutter.current = some (.record start) →
    let expected := start + s.path.params.lCut - s.path.params.dSensor + s.cutter.delta
    let consecutive := if s.cutter.consecutive < 255 then s.cutter.consecutive + 1 else s.cutter.consecutive
    let predicted : State :=
      { s with
        path := { s.path with queue := (s.path.queue.map fun g =>
          { g with
            lead := if g.start = start then .predicted else g.lead
            flags := { g.flags with
              miscut := g.flags.miscut || decide (g.start = start ∨ g.start + g.length = start) } }) }
        cutter := { s.cutter with
          missing := if s.cutter.missing < 65535 then s.cutter.missing + 1 else s.cutter.missing
          consecutive := consecutive
          cutList := (s.cutter.cutList ++
            [{ boundary := .record start, cutAt := expected + s.path.params.dSensor, retry := false }])
          current := ((s.path.queue.find? fun g => decide (start < g.start)).map fun g => .record g.start) } }
    ((s.path.position : Int) < expected + s.path.params.window + 1 → State.testBoundaries (fuel + 1) s = (s, false)) ∧
    (expected + s.path.params.window + 1 ≤ s.path.position →
      State.testBoundaries (fuel + 1) s =
        State.testBoundaries fuel (if 3 ≤ consecutive then predicted.raise .regMissing else predicted))) ∧
  (∀ (j fuel : Nat) (g : Segment) (queue : List Segment) (s : State), s.cutter.current = some (.cutPoint j) →
    s.path.queue = g :: queue → g.kind = .purge →
    let cutAt := g.start + (j * s.path.params.wasteUnit : Nat) + s.path.params.lCut + s.cutter.delta
    let scheduled : State :=
      { s with cutter := { s.cutter with
          lastPurgeCut := some cutAt
          cutList := (s.cutter.cutList ++ [{ boundary := .cutPoint j, cutAt := cutAt, retry := false }])
          current :=
            if (j + 1) * s.path.params.wasteUnit < g.length then some (.cutPoint (j + 1))
            else ((g :: queue).find? fun h => decide (g.start < h.start)).map fun h => .record h.start } }
    ((s.path.position : Int) < cutAt - s.path.params.dSensor → State.testBoundaries (fuel + 1) s = (s, false)) ∧
    (cutAt - s.path.params.dSensor ≤ s.path.position →
      State.testBoundaries (fuel + 1) s = ((State.testBoundaries fuel scheduled).1, true))) ∧
  (∀ (sample : PunchSample) (s : State),
    let sampled := s.samplePunch sample
    let tested := State.testBoundaries sampled.1.boundaryFuel sampled.1
    let judged := if sampled.2 = true ∧ tested.2 = false then tested.1.judgePunch else tested.1
    let fired : State :=
      { judged with
        cutter := { judged.cutter with
          progress := some { firedAt := judged.now, due := judged.now + judged.path.params.tCut * 1000 } }
        outputs := { judged.outputs with firePulse := 2 } }
    let isDue := judged.cutter.progress = none ∧
      ∃ e, judged.cutter.cutList.head? = some e ∧ e.cutAt ≤ (judged.path.position : Int)
    (isDue → s.cutterStep sample = fired) ∧ (¬ isDue → s.cutterStep sample = judged) ∧
    (s.cutter.current = none → tested = (sampled.1, false)) ∧
    (0 < s.path.params.wasteUnit → ∀ b expected, tested.1.cutter.current = some b →
      tested.1.expectedAt b = some expected →
        ((∀ j, b = .cutPoint j → (s.path.position : Int) < expected) ∧
         (∀ start, b = .record start → (s.path.position : Int) < expected + s.path.params.window + 1)))) ∧
  (∀ (sample : PunchSample) (s t : State), s.inReset = false → exec (.step sample) s = .next t →
    t.path.position = s.path.position + 1 →
    ∃ u : State, t = u.cutterStep sample ∧ u.now = max s.now s.exposure.stepDue ∧ u.path.position = s.path.position + 1 ∧
      u.path.params = s.path.params ∧ u.outputs.firePulse = s.outputs.firePulse ∧
      u.cause .regMissing = s.cause .regMissing ∧ u.cause .punchSpurious = s.cause .punchSpurious ∧
      (s.atBoundary = false →
        u.cutter = s.cutter ∧
        (u.path.queue.map fun g => (g.start, g.lead, g.flags.miscut)) =
          s.path.queue.map fun g => (g.start, g.lead, g.flags.miscut)) ∧
      (s.atBoundary = true →
        u.cutter = { s.cutter with
          current := match s.cutter.current with
            | some b => some b
            | none => some (.record s.path.position) } ∧
        (u.path.queue.map fun g => (g.start, g.lead, g.flags.miscut)) =
          (s.path.queue.map fun g => (g.start, g.lead, g.flags.miscut)) ++
            [((s.path.position : Int), LeadState.pending, false)]))

/-! ### The monitor and the timed inputs -/

/-- The exceed counter is judged before the state. Then the trip at n, the recovery within the recover bounds, the two alert
modes, and a channel that is not enabled (sections 5.2 to 5.4). A conversion judges its channel, raises the channel's cause
where the judgement says so, marks on a trip the exposing print HOT or the prints in the chemistry zone CHEM, and begins the
next conversion, of the next channel in the cycle (sections 5.2, 5.5 and 2.5; the completion's time on the model's clock is
log entry 6's). -/
def Obligations.ConversionJudgesItsChannel : Prop :=
  (∀ (c : Channel) (v : Int),
     let reading := if v < -40 then -40 else if 240 < v then 240 else v
     let outside := c.limits.hiTrip < reading ∨ reading < c.limits.loTrip
     let within := c.limits.loRecover ≤ reading ∧ reading ≤ c.limits.hiRecover
     let n := c.limits.faultCount
     let exceed := if ¬ outside then 0 else if c.exceed = n then n else c.exceed + 1
     (c.limits.enabled = false →
       c.judge (clampReading v) =
         { channel := { c with reading := reading, exceed := 0, state := .normal, armed := false }
           trips := false, raises := false }) ∧
     (c.limits.enabled = true → c.state = .normal → exceed ≠ n →
       c.judge (clampReading v) =
         { channel := { c with reading := reading, exceed := exceed }, trips := false, raises := false }) ∧
     (c.limits.enabled = true → c.state = .normal → exceed = n →
       c.judge (clampReading v) =
         { channel := { c with reading := reading, exceed := exceed, state := .tripped, armed := false }
           trips := true, raises := true }) ∧
     (c.limits.enabled = true → c.state = .tripped → within →
       c.judge (clampReading v) =
         { channel := { c with reading := reading, exceed := exceed, state := .normal, armed := false }
           trips := false, raises := decide (c.limits.mode = .twoTimes) && c.armed }) ∧
     (c.limits.enabled = true → c.state = .tripped → ¬ within →
       c.judge (clampReading v) =
         { channel := { c with reading := reading, exceed := exceed }
           trips := false, raises := decide (c.limits.mode = .comparator) && c.armed })) ∧
  (∀ (v : Int) (c : Channel) (s : State), s.inReset = false → s.monitor.channels[s.monitor.converting]? = some c →
     s.monitor.channels.length = 4 →
     let i := s.monitor.converting
     let j := c.judge (clampReading v)
     let judged : State :=
       { s with
         now := max s.now s.monitor.conversionDue
         monitor := { s.monitor with
           channels := s.monitor.channels.set i j.channel
           converting := if i = 3 then 0 else i + 1
           conversionDue := s.monitor.conversionDue + 25000 } }
     let raised := if j.raises then judged.raise
       (if i = 0 then .monHeadR else if i = 1 then .monHeadG else if i = 2 then .monHeadB else .monDev) else judged
     (j.trips = false → exec (.conversion v) s = .next raised) ∧
     (j.trips = true → i = 3 →
       exec (.conversion v) s =
         .next { raised with path := { s.path with queue := (s.path.queue.map fun g =>
           if g.kind = .print ∧ 0 < g.length ∧ (s.path.params.zIn : Int) ≤ s.path.position - g.start ∧
               (s.path.position : Int) - g.start - g.length + 1 ≤ s.path.params.zOut then
             { g with flags := { g.flags with chem := true } } else g) } }) ∧
     (j.trips = true → i ≠ 3 → s.reader.source = none → exec (.conversion v) s = .next raised) ∧
     (∀ g queue, j.trips = true → i ≠ 3 → s.reader.source.isSome = true → s.path.queue = queue ++ [g] →
       exec (.conversion v) s =
         .next { raised with path := { s.path with queue := (queue ++
           [{ g with print := g.print.map fun p => { p with notes := { p.notes with hot := true } } }]) } }))

/-- The dwell timer's expiry flags every PRINT record in the chemistry zone DWELL and raises DWELL_EXPIRED, once; it does
nothing to a timer that is not running (section 2.5; the time is the model's, log entry 6). -/
def Obligations.DwellExpiryMarksTheZone : Prop :=
  ∀ s : State, s.inReset = false →
    (∀ due, s.path.dwell = .running due →
      exec .dwellExpiry s =
        .next (State.raise .dwellExpired
          { s with
            now := max s.now due
            path := { s.path with
              dwell := .expired
              queue := (s.path.queue.map fun g =>
                if g.kind = .print ∧ 0 < g.length ∧ (s.path.params.zIn : Int) ≤ s.path.position - g.start ∧
                    (s.path.position : Int) - g.start - g.length + 1 ≤ s.path.params.zOut then
                  { g with flags := { g.flags with dwell := true } } else g) } })) ∧
    ((∀ due, s.path.dwell ≠ .running due) → exec .dwellExpiry s = .next s)

/-- The qualified level of the emergency stop or the jam input: becoming ACTIVE raises the cause and halts a moving run with
that halt cause; becoming INACTIVE raises nothing and moves nothing (sections 9.4 and 2.3). The stop inputs are sampled every
1 ms, and the drop sensors and the clear inputs every 2 ms; three samples in a row that agree on another level make the new
qualified level, and one or two leave it as it was (sections 9.4, 7.4 and 7.6). The part posts the commands of those events to
itself in the microsecond of the sample, ESTOP before JAM, and a stop input takes its new level with its command (the model's
choices, log entries 5, 23 and 32). -/
def Obligations.StopInputHaltsTheRun : Prop :=
  (∀ (input : StopInput) (s : State), s.inReset = false → s.alerts.causes.length = 20 →
     let cause := if input = .estop then Cause.estop else .jam
     let haltCause := if input = .estop then HaltCause.estop else .jam
     (s.stopLevel input = false →
       ∃ t, exec (.estopJamInput input true) s = .next t ∧ t.stopLevel input = true ∧ (t.cause cause).pending = true ∧
         (∀ c, c ≠ cause → t.cause c = s.cause c) ∧
         (s.stepping = true →
           t.path.run = .halted ∧ t.path.haltCause = some haltCause ∧ t.path.drainCause = none ∧ t.reader.source = none ∧
             t.exposure.drive = [] ∧ t.path.dwell = .running (s.now + s.path.params.tDwell * 1000000)) ∧
         (s.stepping = false → t.path = s.path ∧ t.reader = s.reader ∧ t.exposure = s.exposure) ∧
         t.path.position = s.path.position ∧ t.cutter = s.cutter ∧ t.orders = s.orders ∧ t.sorter = s.sorter ∧
         t.monitor = s.monitor ∧ t.store = s.store ∧ t.commands = s.commands) ∧
     (s.stopLevel input = true →
       ∃ t, exec (.estopJamInput input false) s = .next t ∧ t.stopLevel input = false ∧ t.path = s.path ∧
         t.alerts.causes = s.alerts.causes ∧ t.alerts.counters = s.alerts.counters ∧ t.link = s.link ∧
         t.orders = s.orders ∧ t.sorter = s.sorter ∧ t.reader = s.reader)) ∧
  (∀ (b : Bool) (q : Qualifier),
     (((q.sample b).sample b).sample b).level = b ∧
     (q.last = q.level → (q.sample (!q.level)).level = q.level ∧
       ((q.sample (!q.level)).sample (!q.level)).level = q.level ∧
       (((q.sample (!q.level)).sample (!q.level)).sample q.level).level = q.level)) ∧
  (∀ s : State, s.pending = [] → s.inReset = false → s.nextCommand (Config.pinsAt s.now) = none →
     let pins := Config.pinsAt (s.now + 1)
     let sampled (b : Bool) (q : Qualifier) : Qualifier :=
       { level := q.level, last := b
         agreeing := if b = q.last then (if q.agreeing < 3 then q.agreeing + 1 else q.agreeing) else 1 }
     let stop (input : StopInput) : Qualifier :=
       match input with
       | .estop => sampled pins.estop s.alerts.estop
       | .jam => sampled pins.jam s.alerts.jam
     ∃ t, step s = .next t ∧
       ((s.now + 1) % 1000 = 0 →
         t.alerts = { s.alerts with estop := stop .estop, jam := stop .jam } ∧
         (∀ input active, .estopJamInput input active ∈ t.pending ↔
           3 ≤ (stop input).agreeing ∧ (stop input).last = active ∧ (stop input).level ≠ active) ∧
         (∀ a b, .estopJamInput .estop a ∈ t.pending → .estopJamInput .jam b ∈ t.pending →
           List.Sublist [.estopJamInput .estop a, .estopJamInput .jam b] t.pending)) ∧
       ((s.now + 1) % 1000 ≠ 0 → t.alerts = s.alerts ∧ ∀ input active, .estopJamInput input active ∉ t.pending) ∧
       ((s.now + 1) % 2000 = 0 →
         (∀ i q, s.sorter.dropInputs[i]? = some q →
           let r := q.sample (pins.drops.getD i false)
           t.sorter.dropInputs[i]? = some r ∧ (.drop (i + 1) ∈ t.pending ↔ q.level = false ∧ r.level = true)) ∧
         (∀ i q, s.sorter.clearInputs[i]? = some q →
           let r := q.sample (pins.clears.getD i false)
           t.sorter.clearInputs[i]? = some r ∧
             ((if i = 24 then Instr.trayClear else .binClear (i + 1)) ∈ t.pending ↔ q.level = false ∧ r.level = true))) ∧
       ((s.now + 1) % 2000 ≠ 0 → t.sorter = s.sorter ∧ .trayClear ∉ t.pending ∧
         ∀ n, .drop n ∉ t.pending ∧ .binClear n ∉ t.pending))

/-! ### The sorter -/

/-- A good piece first sets its order's size group from the size table, if that is unset. It is refused SORT_BUSY when the
sorter queue holds 24 entries. Otherwise it goes to the order's last bin while that is FILLING and has room, else to the
lowest-numbered FREE bin of the order's range while the order has fewer than 4 bins, else to the tray while it has room, else
it is refused NO_BIN. The order's key is 16 × source + 4 × class + group, an unset group taken as 0; its range is that of the
first enabled window whose base agrees with the key in every bit of the mask, or bins 1 to 24 (sections 1.1, 1.6, 7.2 and
7.3). -/
def Obligations.GoodPieceFindsATarget : Prop :=
  (∀ (p : PrintRecord) (s : State),
    s.setGroup p =
      match s.exposure.sizes[p.size]? with
      | none => s
      | some entry =>
        { s with orders := s.orders.map fun o => o.map fun r =>
            if r.number = p.order ∧ r.group = none then { r with group := some entry.group } else r }) ∧
  (∀ r : Order,
    r.key =
      16 * (match r.source with | .counter => 0 | .kiosk => 1 | .online => 2 | .trade => 3) +
        4 * (match r.cls with | .standard => 0 | .priority => 1 | .express => 2 | .bulk => 3) + r.group.getD 0) ∧
  (∀ (key : Nat) (windows : List Window),
    let hits (w : Window) := w.enabled = true ∧ ∀ i, w.mask.testBit i = true → key.testBit i = w.base.testBit i
    ((∀ w ∈ windows, ¬ hits w) → binRange windows key = (1, 24)) ∧
    (∀ before w behind, windows = before ++ w :: behind → (∀ v ∈ before, ¬ hits v) → hits w →
      binRange windows key = (w.first, w.last))) ∧
  (∀ (p : PrintRecord) (r : Order) (s0 : State),
    let s := s0.setGroup p
    let entry (target : Target) : SortEntry :=
      { print := p, target := target, leftAt := s.now, deadline := s.now + s.path.params.tDel * 1000 }
    s.findOrder p.order = some r → s.sorter.bins.length = 24 →
    let lastHasRoom := ∃ n b, r.bins.getLast? = some n ∧ s.bin n = some b ∧ b.state = .filling ∧
      b.count + b.pending < s.sorter.capacity
    let isFree (n : Nat) : Prop := ∃ b, s.bin n = some b ∧ b.state = .free
    let range := binRange s.sorter.windows r.key
    let noNewBin := 4 ≤ r.bins.length ∨ ∀ n, range.1 ≤ n → n ≤ range.2 → ¬ isFree n
    (24 ≤ s.sorter.queue.length → s0.sortPrint p = (.error .sortBusy, s)) ∧
    (∀ n b, s.sorter.queue.length < 24 → r.bins.getLast? = some n → s.bin n = some b → b.state = .filling →
      b.count + b.pending < s.sorter.capacity →
      s0.sortPrint p =
        (.ok (.bin n), { s with sorter := { s.sorter with
          queue := s.sorter.queue ++ [entry (.bin n)]
          bins := (s.sorter.bins.modify (n - 1) fun b => { b with pending := b.pending + 1 }) } })) ∧
    (∀ n, s.sorter.queue.length < 24 → ¬ lastHasRoom → r.bins.length < 4 → range.1 ≤ n → n ≤ range.2 → isFree n →
      (∀ m, range.1 ≤ m → m < n → ¬ isFree m) →
      s0.sortPrint p =
        (.ok (.bin n), { s with
          orders := (s.orders.map fun o => o.map fun q =>
            if q.number = r.number then { q with bins := q.bins ++ [n] } else q)
          sorter := { s.sorter with
            queue := s.sorter.queue ++ [entry (.bin n)]
            bins := (s.sorter.bins.modify (n - 1) fun b =>
              { b with state := .filling, owner := some r.number, ownerLive := true, ownerClass := r.cls
                       pending := b.pending + 1 }) } })) ∧
    (s.sorter.queue.length < 24 → ¬ lastHasRoom → noNewBin → s.sorter.tray.count + s.sorter.tray.pending < 250 →
      s0.sortPrint p =
        (.ok .tray, State.raise .trayUsed
          { s with
            orders := (s.orders.map fun o => o.map fun q =>
              if q.number = r.number then { q with flags := { q.flags with tray := true } } else q)
            sorter := { s.sorter with
              queue := s.sorter.queue ++ [entry .tray]
              tray := { s.sorter.tray with pending := s.sorter.tray.pending + 1 } } })) ∧
    (s.sorter.queue.length < 24 → ¬ lastHasRoom → noNewBin → 250 ≤ s.sorter.tray.count + s.sorter.tray.pending →
      s0.sortPrint p = (.error .noBin, s.raise .trayFull)))

/-- A drop at the oldest entry's target is a delivery: the entry leaves the queue, its place counts the print, PRINT FATE GOOD
is sent, and the order counts one more delivered and one fewer in flight; a CLOSED order then makes the completion test, and
one in CANCELLING or FAILING ends when it has none in flight. A charged print is entered in the order's tally: in the entry of
its size and surface, in a new entry while there are fewer than 8, else in the unpriced count (sections 7.5 and 1.6); entries
whose deadline has passed when they become the oldest are then lost, as OtherDropsAndDeadlines states (the model's reading,
log entry 35). A delivery to an order in PRICING, which does not occur, changes nothing in the Order Table (the model's
reading, log entry 34; what PRINT FATE GOOD carries is log entry 16's; the tags of frames that answer none are free, log entry
3). -/
def Obligations.DropDeliversTheOldest : Prop :=
  (∀ (place : Nat) (e : SortEntry) (rest : List SortEntry) (r : Order) (s : State), s.inReset = false → 1 ≤ place →
    place ≤ 25 → s.sorter.queue = e :: rest → e.target = (if place = 25 then .tray else .bin place) →
    (∀ n ∈ rest.head?, s.now < n.deadline) → s.findOrder e.print.order = some r → r.state = .opened →
    s.sorter.bins.length = 24 → s.alerts.counters.length = 18 →
    ∃ t, exec (.drop place) s = .next t ∧ t.sorter.queue = rest ∧
      (place ≤ 24 → t.sorter.tray = s.sorter.tray ∧
        t.sorter.bins = s.sorter.bins.modify (place - 1) fun b => { b with pending := b.pending - 1, count := b.count + 1 }) ∧
      (place = 25 → t.sorter.bins = s.sorter.bins ∧
        t.sorter.tray = { s.sorter.tray with
          pending := s.sorter.tray.pending - 1, count := s.sorter.tray.count + 1, state := .occupied }) ∧
      t.counter .good = saturate 4294967295 (s.counter .good) ∧
      t.findOrder e.print.order = some (r.deliver e.print) ∧ (r.deliver e.print).delivered = r.delivered + 1 ∧
      (r.deliver e.print).inFlight = r.inFlight - 1 ∧
      (s.link.outbound.length < 64 →
        ∃ tag, t.link.outbound = s.link.outbound ++
          [{ kind := .printFate, tag := tag, payload := bytesOf 1 2 ++ printDetails e.print [] ++ bytesOf 1 place }]) ∧
      t.alerts.causes = s.alerts.causes ∧ t.path = s.path ∧ t.cutter = s.cutter ∧ t.store = s.store ∧
      t.commands = s.commands ∧ t.reader = s.reader ∧ t.exposure = s.exposure ∧ t.monitor = s.monitor ∧ t.price = s.price) ∧
  (∀ (place : Nat) (e : SortEntry) (rest : List SortEntry) (s : State), s.inReset = false → 1 ≤ place → place ≤ 25 →
    s.sorter.queue = e :: rest → e.target = (if place = 25 then .tray else .bin place) →
    let placed : State :=
      { s with sorter := { s.sorter with
          queue := rest
          tray :=
            if place = 25 then
              { s.sorter.tray with
                pending := s.sorter.tray.pending - 1, count := s.sorter.tray.count + 1, state := .occupied }
            else s.sorter.tray
          bins :=
            if place = 25 then s.sorter.bins
            else s.sorter.bins.modify (place - 1) fun b => { b with pending := b.pending - 1, count := b.count + 1 } } }
    exec (.drop place) s =
      .next (State.expire (State.deliver e.print
        ((placed.report .printFate (bytesOf 1 2 ++ printDetails e.print [] ++ bytesOf 1 place)).bump .good)))) ∧
  (∀ (p : PrintRecord) (r : Order) (s : State), s.findOrder p.order = some r →
    let recorded : State :=
      { s with orders := s.orders.map fun o => o.map fun q => if q.number = p.order then q.deliver p else q }
    (r.state = .opened → s.deliver p = recorded) ∧ (r.state = .closed → s.deliver p = recorded.completionTest p.order) ∧
    (r.state = .pricing → s.deliver p = s) ∧
    (∀ fate, r.state = .cancelling ∧ fate = .cancelled ∨ r.state = .failing ∧ fate = .failed →
      (1 < r.inFlight → s.deliver p = recorded) ∧
      (r.inFlight ≤ 1 →
        let last := r.deliver p
        s.deliver p =
          { recorded.report .orderDone
              (bytesOf 1 (OrderFate.code fate) ++ bytesOf 3 r.number ++ bytesOf 2 (r.delivered + 1) ++ bytesOf 4 0 ++
                bytesOf 4 0 ++ bytesOf 4 0 ++ bytesOf 2 last.unpriced ++ bytesOfSet (r.flags.members false false) ++
                bytesOfList (bytesOf 1) r.bins ++ bytesOf 2 s.price.priceGeneration ++ bytesOf 2 s.price.promoGeneration) with
            orders := (s.orders.map fun o => if (o.map Order.number) = some p.order then none else o)
            sorter := { s.sorter with bins := (s.sorter.bins.map fun b =>
              if b.owner = some p.order then { b with ownerLive := false } else b) } }))) ∧
  (∀ (p : PrintRecord) (r : Order),
    let counted : Order := { r with inFlight := r.inFlight - 1, delivered := r.delivered + 1 }
    let mine (t : Tally) : Prop := t.size = p.size ∧ t.surface = p.used
    (p.charge = false → r.deliver p = counted) ∧
    (p.charge = true → (∃ t ∈ r.tallies, mine t) →
      r.deliver p =
        { counted with tallies := r.tallies.map fun t =>
            if t.size = p.size ∧ t.surface = p.used then { t with quantity := t.quantity + 1 } else t }) ∧
    (p.charge = true → (∀ t ∈ r.tallies, ¬ mine t) →
      (r.tallies.length < 8 →
        r.deliver p =
          { counted with tallies := r.tallies ++ [{ size := p.size, surface := p.used, quantity := 1 }] }) ∧
      (8 ≤ r.tallies.length → r.deliver p = { counted with unpriced := r.unpriced + 1 })))

/-- A drop that is no delivery: at the second entry's target the oldest is lost and the second delivered; anywhere else the
oldest is delivered MISDELIVERED where it fell, and that place is marked; with an empty queue it is a stray, and the place is
marked. The marking counts a stray, up to 255, and raises SORT_MISMATCH; it leaves a bin HELD and flags the owner of a FILLING
bin ATTENTION, unless that is the misdelivered print's order, and it leaves the tray OCCUPIED. When the oldest entry's
deadline is reached the entry is lost: rejected with reason LOST, and SORT_LOST is raised; so is every entry that becomes the
oldest after its deadline, until one lies ahead (section 7.5; the time is the model's, log entry 6; that a drop also loses
entries whose deadline has passed is its reading, log entry 35, and so are the bytes of the PRINT FATE frames, log entry 16;
the tags of frames that answer none are free, log entry 3). -/
def Obligations.OtherDropsAndDeadlines : Prop :=
  let taken (e : SortEntry) (rest : List SortEntry) (s : State) : State :=
    match e.target with
    | .bin n => State.updateBin n (fun b => { b with pending := b.pending - 1 })
        { s with sorter := { s.sorter with queue := rest } }
    | .tray => { s with sorter := { s.sorter with
        queue := rest, tray := { s.sorter.tray with pending := s.sorter.tray.pending - 1 } } }
  let lost (e : SortEntry) (rest : List SortEntry) (s : State) : State :=
    State.raise .sortLost
      ((((taken e rest s).report .printFate (bytesOf 1 1 ++ printDetails e.print [.lost])).bump (.rejected .lost)).reject
        e.print.order e.print.index e.print.attempt)
  let delivered (p : PrintRecord) (place : Nat) (s : State) : State :=
    ((s.report .printFate (bytesOf 1 2 ++ printDetails p [] ++ bytesOf 1 place)).bump .good).deliver p
  let counted (place : Nat) (s : State) : State :=
    if place = 25 then
      { s with sorter := { s.sorter with tray := { s.sorter.tray with
          count := s.sorter.tray.count + 1, state := .occupied } } }
    else s.updateBin place fun b => { b with count := b.count + 1 }
  (∀ (place : Nat) (s : State), s.inReset = false → 1 ≤ place → place ≤ 25 →
     let target : Target := if place = 25 then .tray else .bin place
     (∀ (e second : SortEntry) (rest : List SortEntry), s.sorter.queue = e :: second :: rest → e.target ≠ target →
       second.target = target →
       exec (.drop place) s =
         .next (delivered second.print place (counted place (taken second rest (lost e (second :: rest) s)))).expire) ∧
     (∀ (e : SortEntry) (rest : List SortEntry), s.sorter.queue = e :: rest → e.target ≠ target →
       (∀ second ∈ rest.head?, second.target ≠ target) →
       exec (.drop place) s =
         .next ((delivered { e.print with notes := { e.print.notes with misdelivered := true } } place
           (taken e rest s)).markStray target (some e.print.order)).expire) ∧
     (s.sorter.queue = [] → exec (.drop place) s = .next (s.markStray target none))) ∧
  (∀ (excepted : Option Nat) (s : State),
     (∀ (n : Nat) (b : Bin), s.bin n = some b →
       s.markStray (.bin n) excepted =
         State.raise .sortMismatch
           { s with
             orders :=
               match b.owner with
               | some owner =>
                 if b.state = .filling ∧ excepted ≠ some owner then
                   s.orders.map fun o => o.map fun q =>
                     if q.number = owner then { q with flags := { q.flags with attention := true } } else q
                 else s.orders
               | none => s.orders
             sorter := { s.sorter with bins := (s.sorter.bins.modify (n - 1) fun b =>
               { b with state := .held, stray := if b.stray < 255 then b.stray + 1 else b.stray }) } }) ∧
     s.markStray .tray excepted =
       State.raise .sortMismatch
         { s with sorter := { s.sorter with tray := { s.sorter.tray with
             state := .occupied, stray := if s.sorter.tray.stray < 255 then s.sorter.tray.stray + 1 else s.sorter.tray.stray } } }) ∧
  (∀ s : State,
     (s.sorter.queue = [] → s.expire = s) ∧
     (∀ e rest, s.sorter.queue = e :: rest → s.now < e.deadline → s.expire = s) ∧
     (∀ e rest, s.sorter.queue = e :: rest → e.deadline ≤ s.now → s.expire = (lost e rest s).expire)) ∧
  (∀ (e : SortEntry) (s : State), s.inReset = false →
     (∀ rest, s.sorter.queue = e :: rest → (∀ n ∈ rest.head?, max s.now e.deadline < n.deadline) →
       exec .deliveryDeadline s = .next (lost e rest { s with now := max s.now e.deadline })) ∧
     (∀ second rest, s.sorter.queue = e :: second :: rest → second.deadline ≤ max s.now e.deadline →
       (∀ n ∈ rest.head?, max s.now e.deadline < n.deadline) →
       exec .deliveryDeadline s =
         .next (lost second rest (lost e (second :: rest) { s with now := max s.now e.deadline }))) ∧
     (s.sorter.queue = [] → exec .deliveryDeadline s = .next s))

/-- R133: a clear of the tray empties it and changes nothing else, not even the TRAY_FULL cause, whose condition then no
longer holds. R134: BIN RELEASE by the bin it names: RANGE for a bin that does not exist, ACCEPTED for a FREE or READY bin and
for a HELD one that nothing holds, BUSY for the others. A clear of a bin acts by the bin's state (section 7.6). -/
def Obligations.BinsAreClearedAndReleased : Prop :=
  (∀ s : State, s.inReset = false →
     ∃ t, exec .trayClear s = .next t ∧
       t = { s with sorter := { s.sorter with tray := { s.sorter.tray with state := .empty, count := 0, stray := 0 } } } ∧
       t.levelHolds .trayFull = false) ∧
  (∀ (n : Nat) (b : Bin) (s : State), s.inReset = false → n ≤ 24 → s.bin n = some b →
     let emptied := s.updateBin n fun b => { b with count := 0, stray := 0 }
     let freed := s.updateBin n fun b =>
       { b with state := .free, owner := none, ownerLive := false, count := 0, stray := 0 }
     (b.state = .free → exec (.binClear n) s = .next s) ∧
     (b.state = .ready → exec (.binClear n) s = .next freed) ∧
     (b.state = .held → b.pending = 0 → b.ownerLive = false → exec (.binClear n) s = .next freed) ∧
     (b.state = .held → (0 < b.pending ∨ b.ownerLive = true) → exec (.binClear n) s = .next emptied) ∧
     (∀ owner, b.state = .filling → b.owner = some owner →
       exec (.binClear n) s =
         .next { emptied with orders := (s.orders.map fun o => o.map fun q =>
           if q.number = owner then { q with flags := { q.flags with pickedEarly := true } } else q) })) ∧
  (∀ (f : InFrame) (rest : List InFrame) (s : State), CommandFront .binRelease f rest s → s.sorter.bins.length = 24 →
     let n := field f.payload 0 1
     ((f.payload.length ≠ 1 ∨ n = 0 ∨ 24 < n) → exec .binRelease s = .next (answeredCommand f .range s)) ∧
     (∀ b, f.payload.length = 1 → s.bin n = some b →
       let freed := s.updateBin n fun b =>
         { b with state := .free, owner := none, ownerLive := false, count := 0, stray := 0 }
       (b.state = .free → exec .binRelease s = .next (answeredCommand f .accepted s)) ∧
       (b.state = .ready → exec .binRelease s = .next (answeredCommand f .accepted freed)) ∧
       (b.state = .held → b.pending = 0 → b.ownerLive = false →
         exec .binRelease s = .next (answeredCommand f .accepted freed)) ∧
       (b.state = .held → (0 < b.pending ∨ b.ownerLive = true) →
         exec .binRelease s = .next (answeredCommand f .busy s)) ∧
       (b.state = .filling → exec .binRelease s = .next (answeredCommand f .busy s))))

/-- A bin's lamp shows the pattern that its record calls for, and is lit while the carrier of 1,000 µs and every envelope
phase of the pattern are high, each phase for the first half of its period from the release of the reset pin; while the pin is
held low every lamp is dark. The gate-select output names the oldest sorter queue entry's target, or the tray (sections 7.7
and 7.4). -/
def Obligations.LampsAndGateFollowTheRecords : Prop :=
  (∀ (n : Nat) (b : Bin) (pattern : LampPattern) (s : State), s.inReset = false → s.bin n = some b →
    s.sorter.lamps[match b.state with
      | .free => 0
      | .filling => 1
      | .ready => if b.ownerClass = ServiceClass.express then 3 else 2
      | .held => if b.pending = 0 ∧ b.ownerLive = false then 4 else 5]? = some pattern → pattern.carrier ≤ 4 →
    (s.lampLit n = true ↔
      (pattern.carrier = 1 ∧ s.now % 1000 < 250 ∨ pattern.carrier = 2 ∧ s.now % 1000 < 333 ∨
        pattern.carrier = 3 ∧ s.now % 1000 < 500 ∨ pattern.carrier = 4) ∧
      (pattern.hz4 = true → s.now % 250000 < 125000) ∧ (pattern.hz2 = true → s.now % 500000 < 250000) ∧
      (pattern.hz1 = true → s.now % 1000000 < 500000) ∧ (pattern.hzHalf = true → s.now % 2000000 < 1000000))) ∧
  (∀ (n : Nat) (s : State), s.inReset = true → s.lampLit n = false) ∧
  (∀ s : State, (s.sorter.queue = [] → s.gateSelect = .tray) ∧
    ∀ e rest, s.sorter.queue = e :: rest → s.gateSelect = e.target)

/-! ### Pricing -/

/-- R144: the band percent is that of the break with the highest threshold not above the quantity, or 0, and the unit price is
the base price less it, rounded half-up, at most the base price. The subtotal sums quantity times unit price plus surcharge
over the tally entries whose row is loaded; the quantities of the others join the unpriced count. An order without a code has
no discount and no flag; one whose code no enabled record has is flagged PROMO_UNKNOWN, one whose key the record does not hit
PROMO_NOT_ELIGIBLE; otherwise PERCENT takes its percent of the subtotal, half-up, AMOUNT its amount, and FREE_PRINTS the unit
prices of n prints of its size, in the order of unit price, lowest first, and of two with one price the earlier first. R148:
the cap and then the subtotal limit the discount, and the total is the subtotal less it (section 8.4). -/
def Obligations.BillFollowsTheTables : Prop :=
  (∀ (row : PriceRow) (surface : Surface) (q : Nat),
     let base := if surface = .glossy then row.glossy else row.lustre
     let reached (b : Break) := b ∈ row.breaks ∧ b.threshold ≤ q
     ((∀ b, ¬ reached b) → row.unitPrice surface q = base) ∧
     (∀ b, reached b → (∀ c, reached c → c ≠ b → c.threshold < b.threshold) →
       row.unitPrice surface q = (base * (100 - b.percent) + 50) / 100) ∧
     row.unitPrice surface q ≤ base) ∧
  (∀ (e : PriceEngine) (r : Order),
     let loadedRow (t : Tally) : Option PriceRow := e.rows[t.size]?.filter PriceRow.loaded
     (e.bill r).subtotal =
       (r.tallies.map fun t =>
         match loadedRow t with
         | some row => t.quantity * row.unitPrice t.surface t.quantity + t.quantity * e.surcharges.getD r.cls.code 0
         | none => 0).sum ∧
     (e.bill r).unpriced =
       r.unpriced + (r.tallies.map fun t => if (loadedRow t).isNone then t.quantity else 0).sum ∧
     (∀ promo : Promotion,
       (promo.kind = .percent → e.rawDiscount promo r = ((e.bill r).subtotal * promo.percent + 50) / 100) ∧
       (promo.kind = .amount → e.rawDiscount promo r = promo.amount) ∧
       (promo.kind = .freePrints →
         e.rawDiscount promo r =
           freePrints promo.prints
             (sortByPrice (r.tallies.filterMap fun t =>
               if t.size = promo.size then (loadedRow t).map fun row => (t, row.unitPrice t.surface t.quantity) else none))))) ∧
  ((∀ cap subtotal d : Nat,
     limitDiscount cap subtotal d = if 0 < cap then min (min d cap) subtotal else min d subtotal) ∧
   (∀ (e : PriceEngine) (r : Order), (e.bill r).discount ≤ (e.bill r).subtotal ∧
     (e.bill r).total = (e.bill r).subtotal - (e.bill r).discount) ∧
   (∀ (e : PriceEngine) (r : Order),
     (r.promotion = none → (e.bill r).discount = 0 ∧ (e.bill r).unknown = false ∧ (e.bill r).notEligible = false) ∧
     (∀ code, r.promotion = some code →
       ((∀ promo ∈ e.promotions, ¬ (promo.enabled = true ∧ promo.code = code)) →
         (e.bill r).discount = 0 ∧ (e.bill r).unknown = true ∧ (e.bill r).notEligible = false) ∧
       (∀ before promo behind, e.promotions = before ++ promo :: behind → promo.enabled = true → promo.code = code →
         (∀ other ∈ before, ¬ (other.enabled = true ∧ other.code = code)) →
         let eligible := ∀ i, promo.mask.testBit i = true → r.key.testBit i = promo.base.testBit i
         (e.bill r).unknown = false ∧
         (¬ eligible → (e.bill r).discount = 0 ∧ (e.bill r).notEligible = true) ∧
         (eligible →
           (e.bill r).discount = limitDiscount promo.cap (e.bill r).subtotal (e.rawDiscount promo r) ∧
             (e.bill r).notEligible = false))))) ∧
  ((∀ l : List (Tally × Nat), (sortByPrice l).Perm l ∧ ((sortByPrice l).map Prod.snd).Pairwise (· ≤ ·) ∧
     ∀ pu, (sortByPrice l).filter (fun a => a.2 = pu) = l.filter fun a => a.2 = pu) ∧
   (∀ (n : Nat) (l : List (Tally × Nat)), (l.map fun a => a.1.quantity).sum ≤ n →
     freePrints n l = (l.map fun a => a.1.quantity * a.2).sum) ∧
   (∀ (n : Nat) (t : Tally) (pu : Nat) (l : List (Tally × Nat)),
     (n ≤ t.quantity → freePrints n ((t, pu) :: l) = n * pu) ∧
     (t.quantity ≤ n → freePrints n ((t, pu) :: l) = t.quantity * pu + freePrints (n - t.quantity) l)))

/-- The pricing of an order completes: ORDER DONE COMPLETE carries the bill, its FILLING bins become READY and own no live
order any more, its slot is freed, and the engine is idle again. A price or promotion load that waited at the front of the
Command Queue is answered then, refused RANGE or applied, with its STATUS, and removed. Then the engine takes the oldest
waiting order, to be priced within 1 ms with the tables as they now stand (when within it is free, log entry 4); with no order
waiting it stays idle. With no pricing in progress the command has no effect (sections 8.3, 8.5 and 1.7; that one waiting load
is answered within the command is log entry 31, and that the pricing of a slot with no order, which does not occur, sends no
ORDER DONE is log entry 34; the tags of frames that answer none are free, log entry 3). -/
def Obligations.PricingCompletesTheOrder : Prop :=
  (∀ (pricing : Pricing) (done : State) (s : State), s.inReset = false → s.price.engine = some pricing →
     ((∃ r, s.orders[pricing.slot]? = some (some r) ∧ s.findOrder r.number = some r ∧
        (let bill := s.price.bill r
         let told := s.report .orderDone
           (bytesOf 1 0 ++ bytesOf 3 r.number ++ bytesOf 2 r.delivered ++ bytesOf 4 bill.subtotal ++ bytesOf 4 bill.discount ++
             bytesOf 4 bill.total ++ bytesOf 2 bill.unpriced ++ bytesOfSet (r.flags.members bill.unknown bill.notEligible) ++
             bytesOfList (bytesOf 1) r.bins ++ bytesOf 2 s.price.priceGeneration ++ bytesOf 2 s.price.promoGeneration)
         done =
           { told with
             orders := (s.orders.map fun o => if (o.map Order.number) = some r.number then none else o)
             price := { s.price with engine := none }
             sorter := { s.sorter with bins := (s.sorter.bins.map fun b =>
               if b.owner = some r.number then
                 { b with state := if b.state = .filling then .ready else b.state, ownerLive := false } else b) } })) ∨
       (∀ r, s.orders[pricing.slot]? ≠ some (some r)) ∧ done = { s with price := { s.price with engine := none } }) →
     let takesNext (u t : State) : Prop :=
       match s.price.queue with
       | [] => t = u
       | slot :: queue =>
         ∃ due, s.now ≤ due ∧ due ≤ s.now + 1000 ∧
           t = { u with price := { u.price with queue := queue, engine := some { slot := slot, due := due } } }
     ∃ t, exec .pricingComplete s = .next t ∧
       ((∀ f ∈ s.commands.head?, f.kind ≠ .priceLoad ∧ f.kind ≠ .promoLoad) → takesNext done t) ∧
       (∀ f rest, s.commands = f :: rest →
         (f.kind = .priceLoad →
           (parsePriceLoad f.payload = none → takesNext (answeredCommand f .range done) t) ∧
           (∀ rows surcharges, parsePriceLoad f.payload = some (rows, surcharges) →
             takesNext
               (answeredCommand f .accepted
                 { done with price := { done.price with
                     rows := rows, surcharges := surcharges
                     priceGeneration := (s.price.priceGeneration + 1) % 65536 } }) t)) ∧
         (f.kind = .promoLoad →
           (parsePromoLoad f.payload = none → takesNext (answeredCommand f .range done) t) ∧
           (∀ records, parsePromoLoad f.payload = some records →
             takesNext
               (answeredCommand f .accepted
                 { done with price := { done.price with
                     promotions := records
                     promoGeneration := (s.price.promoGeneration + 1) % 65536 } }) t)))) ∧
  (∀ s : State, s.inReset = false → s.price.engine = none → exec .pricingComplete s = .next s)

/-! ### What every step keeps -/

/-- Every step keeps the credit of each group whole: available, held in the store and returned add up to 48, or 16 (section
10.2). -/
def Obligations.StepConservesCredit : Prop :=
  ∀ s t : State, CreditConserved s → step s = .next t → CreditConserved t

/-- Every step keeps the path queue contiguous from the oldest record to the web position, at most 128 records long, and with
a PURGE record nowhere but at its oldest end (sections 2.2 and 2.6). -/
def Obligations.StepKeepsTheWebContiguous : Prop :=
  ∀ s t : State, WebContiguous s → step s = .next t → WebContiguous t

/-- Every step keeps the reader coherent: a staged print in mode STAGED alone, line source STORE in mode FEEDING alone
(section 3.1). -/
def Obligations.StepKeepsTheReaderCoherent : Prop :=
  ∀ s t : State, ReaderCoherent s → step s = .next t → ReaderCoherent t

/-- Every step keeps the run coherent: its causes and its dwell timer belong to their states, and an IDLE path holds no PRINT
segment (sections 2.3 and 2.5). -/
def Obligations.StepKeepsTheRunCoherent : Prop :=
  ∀ s t : State, RunCoherent s → step s = .next t → RunCoherent t

/-- Every step keeps the part within the limits of its queues, its slots and δ, a cut in progress to the cut list, and an idle
engine to an empty pricing queue (sections 10.3, 7.4, 1.1, 6.2 and 8.3). -/
def Obligations.StepStaysWithinLimits : Prop :=
  ∀ s t : State, WithinLimits s → step s = .next t → WithinLimits t

/-- Every step keeps the ledger of the orders: for every live order the in-flight count F is the number of its prints that are
staged, in the path or on the belt, and S = D + F + (entries on the remake list) while it is OPEN, CLOSED or PRICING, with F =
0 in PRICING; every such print is of a live order; and each slot of the pricing queue, and the one being priced, holds a
PRICING order, once (sections 1.3 to 1.7 and 8.3; the premise on the reader is the invariant that StepKeepsTheReaderCoherent
states). -/
def Obligations.StepKeepsTheLedger : Prop :=
  ∀ s t : State, ReaderCoherent s → LedgerBalances s → step s = .next t → LedgerBalances t

/-- The state after reset has the six properties that every step keeps. -/
def Obligations.ResetIsCoherent : Prop :=
  CreditConserved State.reset ∧ WebContiguous State.reset ∧ ReaderCoherent State.reset ∧ RunCoherent State.reset ∧
    WithinLimits State.reset ∧ LedgerBalances State.reset
end

