-- ==== Sys2Proof/Laws/State.lean ====
section
/-!
SUPPORT. What each plain update of the state leaves: one lemma per field per update, each true by `rfl`, so that no proof
unfolds a record update. (What the operations built from these updates leave stands in Laws/Ops.lean.)
-/

namespace Sys2Proof.Machine

/-! ### setCause -/

@[simp] theorem State.setCause_inReset (c : Cause) (r : CauseRecord) (s : State) :
    (s.setCause c r).inReset = s.inReset := rfl
@[simp] theorem State.setCause_now (c : Cause) (r : CauseRecord) (s : State) :
    (s.setCause c r).now = s.now := rfl
@[simp] theorem State.setCause_link (c : Cause) (r : CauseRecord) (s : State) :
    (s.setCause c r).link = s.link := rfl
@[simp] theorem State.setCause_store (c : Cause) (r : CauseRecord) (s : State) :
    (s.setCause c r).store = s.store := rfl
@[simp] theorem State.setCause_commands (c : Cause) (r : CauseRecord) (s : State) :
    (s.setCause c r).commands = s.commands := rfl
@[simp] theorem State.setCause_reader (c : Cause) (r : CauseRecord) (s : State) :
    (s.setCause c r).reader = s.reader := rfl
@[simp] theorem State.setCause_orders (c : Cause) (r : CauseRecord) (s : State) :
    (s.setCause c r).orders = s.orders := rfl
@[simp] theorem State.setCause_exposure (c : Cause) (r : CauseRecord) (s : State) :
    (s.setCause c r).exposure = s.exposure := rfl
@[simp] theorem State.setCause_path (c : Cause) (r : CauseRecord) (s : State) :
    (s.setCause c r).path = s.path := rfl
@[simp] theorem State.setCause_monitor (c : Cause) (r : CauseRecord) (s : State) :
    (s.setCause c r).monitor = s.monitor := rfl
@[simp] theorem State.setCause_cutter (c : Cause) (r : CauseRecord) (s : State) :
    (s.setCause c r).cutter = s.cutter := rfl
@[simp] theorem State.setCause_sorter (c : Cause) (r : CauseRecord) (s : State) :
    (s.setCause c r).sorter = s.sorter := rfl
@[simp] theorem State.setCause_price (c : Cause) (r : CauseRecord) (s : State) :
    (s.setCause c r).price = s.price := rfl
@[simp] theorem State.setCause_outputs (c : Cause) (r : CauseRecord) (s : State) :
    (s.setCause c r).outputs = s.outputs := rfl
@[simp] theorem State.setCause_freeTags (c : Cause) (r : CauseRecord) (s : State) :
    (s.setCause c r).freeTags = s.freeTags := rfl
@[simp] theorem State.setCause_pending (c : Cause) (r : CauseRecord) (s : State) :
    (s.setCause c r).pending = s.pending := rfl
@[simp] theorem State.setCause_alerts_counters (c : Cause) (r : CauseRecord) (s : State) :
    (s.setCause c r).alerts.counters = s.alerts.counters := rfl
@[simp] theorem State.setCause_alerts_estop (c : Cause) (r : CauseRecord) (s : State) :
    (s.setCause c r).alerts.estop = s.alerts.estop := rfl
@[simp] theorem State.setCause_alerts_jam (c : Cause) (r : CauseRecord) (s : State) :
    (s.setCause c r).alerts.jam = s.alerts.jam := rfl
@[simp] theorem State.setCause_alerts_causes (c : Cause) (r : CauseRecord) (s : State) :
    (s.setCause c r).alerts.causes = s.alerts.causes.set c.code r := rfl

/-! ### bump -/

@[simp] theorem State.bump_inReset (c : Counter) (s : State) :
    (s.bump c).inReset = s.inReset := rfl
@[simp] theorem State.bump_now (c : Counter) (s : State) :
    (s.bump c).now = s.now := rfl
@[simp] theorem State.bump_link (c : Counter) (s : State) :
    (s.bump c).link = s.link := rfl
@[simp] theorem State.bump_store (c : Counter) (s : State) :
    (s.bump c).store = s.store := rfl
@[simp] theorem State.bump_commands (c : Counter) (s : State) :
    (s.bump c).commands = s.commands := rfl
@[simp] theorem State.bump_reader (c : Counter) (s : State) :
    (s.bump c).reader = s.reader := rfl
@[simp] theorem State.bump_orders (c : Counter) (s : State) :
    (s.bump c).orders = s.orders := rfl
@[simp] theorem State.bump_exposure (c : Counter) (s : State) :
    (s.bump c).exposure = s.exposure := rfl
@[simp] theorem State.bump_path (c : Counter) (s : State) :
    (s.bump c).path = s.path := rfl
@[simp] theorem State.bump_monitor (c : Counter) (s : State) :
    (s.bump c).monitor = s.monitor := rfl
@[simp] theorem State.bump_cutter (c : Counter) (s : State) :
    (s.bump c).cutter = s.cutter := rfl
@[simp] theorem State.bump_sorter (c : Counter) (s : State) :
    (s.bump c).sorter = s.sorter := rfl
@[simp] theorem State.bump_price (c : Counter) (s : State) :
    (s.bump c).price = s.price := rfl
@[simp] theorem State.bump_outputs (c : Counter) (s : State) :
    (s.bump c).outputs = s.outputs := rfl
@[simp] theorem State.bump_freeTags (c : Counter) (s : State) :
    (s.bump c).freeTags = s.freeTags := rfl
@[simp] theorem State.bump_pending (c : Counter) (s : State) :
    (s.bump c).pending = s.pending := rfl
@[simp] theorem State.bump_alerts_causes (c : Counter) (s : State) :
    (s.bump c).alerts.causes = s.alerts.causes := rfl
@[simp] theorem State.bump_alerts_estop (c : Counter) (s : State) :
    (s.bump c).alerts.estop = s.alerts.estop := rfl
@[simp] theorem State.bump_alerts_jam (c : Counter) (s : State) :
    (s.bump c).alerts.jam = s.alerts.jam := rfl
@[simp] theorem State.bump_alerts_counters (c : Counter) (s : State) :
    (s.bump c).alerts.counters = s.alerts.counters.modify c.place (saturate 4294967295) := rfl

/-! ### setEnables -/

@[simp] theorem State.setEnables_inReset (v : List Bool) (s : State) :
    (s.setEnables v).inReset = s.inReset := rfl
@[simp] theorem State.setEnables_now (v : List Bool) (s : State) :
    (s.setEnables v).now = s.now := rfl
@[simp] theorem State.setEnables_link (v : List Bool) (s : State) :
    (s.setEnables v).link = s.link := rfl
@[simp] theorem State.setEnables_store (v : List Bool) (s : State) :
    (s.setEnables v).store = s.store := rfl
@[simp] theorem State.setEnables_commands (v : List Bool) (s : State) :
    (s.setEnables v).commands = s.commands := rfl
@[simp] theorem State.setEnables_reader (v : List Bool) (s : State) :
    (s.setEnables v).reader = s.reader := rfl
@[simp] theorem State.setEnables_orders (v : List Bool) (s : State) :
    (s.setEnables v).orders = s.orders := rfl
@[simp] theorem State.setEnables_exposure (v : List Bool) (s : State) :
    (s.setEnables v).exposure = s.exposure := rfl
@[simp] theorem State.setEnables_path (v : List Bool) (s : State) :
    (s.setEnables v).path = s.path := rfl
@[simp] theorem State.setEnables_monitor (v : List Bool) (s : State) :
    (s.setEnables v).monitor = s.monitor := rfl
@[simp] theorem State.setEnables_cutter (v : List Bool) (s : State) :
    (s.setEnables v).cutter = s.cutter := rfl
@[simp] theorem State.setEnables_sorter (v : List Bool) (s : State) :
    (s.setEnables v).sorter = s.sorter := rfl
@[simp] theorem State.setEnables_price (v : List Bool) (s : State) :
    (s.setEnables v).price = s.price := rfl
@[simp] theorem State.setEnables_outputs (v : List Bool) (s : State) :
    (s.setEnables v).outputs = s.outputs := rfl
@[simp] theorem State.setEnables_freeTags (v : List Bool) (s : State) :
    (s.setEnables v).freeTags = s.freeTags := rfl
@[simp] theorem State.setEnables_pending (v : List Bool) (s : State) :
    (s.setEnables v).pending = s.pending := rfl
@[simp] theorem State.setEnables_alerts_counters (v : List Bool) (s : State) :
    (s.setEnables v).alerts.counters = s.alerts.counters := rfl
@[simp] theorem State.setEnables_alerts_estop (v : List Bool) (s : State) :
    (s.setEnables v).alerts.estop = s.alerts.estop := rfl
@[simp] theorem State.setEnables_alerts_jam (v : List Bool) (s : State) :
    (s.setEnables v).alerts.jam = s.alerts.jam := rfl
@[simp] theorem State.setEnables_alerts_causes (v : List Bool) (s : State) :
    (s.setEnables v).alerts.causes = List.zipWith (fun (r : CauseRecord) e => { r with enabled := e }) s.alerts.causes v := rfl

/-! ### updateOrder -/

@[simp] theorem State.updateOrder_inReset (n : Nat) (f : Order → Order) (s : State) :
    (s.updateOrder n f).inReset = s.inReset := rfl
@[simp] theorem State.updateOrder_now (n : Nat) (f : Order → Order) (s : State) :
    (s.updateOrder n f).now = s.now := rfl
@[simp] theorem State.updateOrder_link (n : Nat) (f : Order → Order) (s : State) :
    (s.updateOrder n f).link = s.link := rfl
@[simp] theorem State.updateOrder_store (n : Nat) (f : Order → Order) (s : State) :
    (s.updateOrder n f).store = s.store := rfl
@[simp] theorem State.updateOrder_commands (n : Nat) (f : Order → Order) (s : State) :
    (s.updateOrder n f).commands = s.commands := rfl
@[simp] theorem State.updateOrder_reader (n : Nat) (f : Order → Order) (s : State) :
    (s.updateOrder n f).reader = s.reader := rfl
@[simp] theorem State.updateOrder_exposure (n : Nat) (f : Order → Order) (s : State) :
    (s.updateOrder n f).exposure = s.exposure := rfl
@[simp] theorem State.updateOrder_path (n : Nat) (f : Order → Order) (s : State) :
    (s.updateOrder n f).path = s.path := rfl
@[simp] theorem State.updateOrder_monitor (n : Nat) (f : Order → Order) (s : State) :
    (s.updateOrder n f).monitor = s.monitor := rfl
@[simp] theorem State.updateOrder_cutter (n : Nat) (f : Order → Order) (s : State) :
    (s.updateOrder n f).cutter = s.cutter := rfl
@[simp] theorem State.updateOrder_sorter (n : Nat) (f : Order → Order) (s : State) :
    (s.updateOrder n f).sorter = s.sorter := rfl
@[simp] theorem State.updateOrder_price (n : Nat) (f : Order → Order) (s : State) :
    (s.updateOrder n f).price = s.price := rfl
@[simp] theorem State.updateOrder_alerts (n : Nat) (f : Order → Order) (s : State) :
    (s.updateOrder n f).alerts = s.alerts := rfl
@[simp] theorem State.updateOrder_outputs (n : Nat) (f : Order → Order) (s : State) :
    (s.updateOrder n f).outputs = s.outputs := rfl
@[simp] theorem State.updateOrder_freeTags (n : Nat) (f : Order → Order) (s : State) :
    (s.updateOrder n f).freeTags = s.freeTags := rfl
@[simp] theorem State.updateOrder_pending (n : Nat) (f : Order → Order) (s : State) :
    (s.updateOrder n f).pending = s.pending := rfl
@[simp] theorem State.updateOrder_orders (n : Nat) (f : Order → Order) (s : State) :
    (s.updateOrder n f).orders = s.orders.map fun o => o.map fun r => if r.number = n then f r else r := rfl

/-! ### mapBins -/

@[simp] theorem State.mapBins_inReset (f : Bin → Bin) (s : State) :
    (s.mapBins f).inReset = s.inReset := rfl
@[simp] theorem State.mapBins_now (f : Bin → Bin) (s : State) :
    (s.mapBins f).now = s.now := rfl
@[simp] theorem State.mapBins_link (f : Bin → Bin) (s : State) :
    (s.mapBins f).link = s.link := rfl
@[simp] theorem State.mapBins_store (f : Bin → Bin) (s : State) :
    (s.mapBins f).store = s.store := rfl
@[simp] theorem State.mapBins_commands (f : Bin → Bin) (s : State) :
    (s.mapBins f).commands = s.commands := rfl
@[simp] theorem State.mapBins_reader (f : Bin → Bin) (s : State) :
    (s.mapBins f).reader = s.reader := rfl
@[simp] theorem State.mapBins_orders (f : Bin → Bin) (s : State) :
    (s.mapBins f).orders = s.orders := rfl
@[simp] theorem State.mapBins_exposure (f : Bin → Bin) (s : State) :
    (s.mapBins f).exposure = s.exposure := rfl
@[simp] theorem State.mapBins_path (f : Bin → Bin) (s : State) :
    (s.mapBins f).path = s.path := rfl
@[simp] theorem State.mapBins_monitor (f : Bin → Bin) (s : State) :
    (s.mapBins f).monitor = s.monitor := rfl
@[simp] theorem State.mapBins_cutter (f : Bin → Bin) (s : State) :
    (s.mapBins f).cutter = s.cutter := rfl
@[simp] theorem State.mapBins_price (f : Bin → Bin) (s : State) :
    (s.mapBins f).price = s.price := rfl
@[simp] theorem State.mapBins_alerts (f : Bin → Bin) (s : State) :
    (s.mapBins f).alerts = s.alerts := rfl
@[simp] theorem State.mapBins_outputs (f : Bin → Bin) (s : State) :
    (s.mapBins f).outputs = s.outputs := rfl
@[simp] theorem State.mapBins_freeTags (f : Bin → Bin) (s : State) :
    (s.mapBins f).freeTags = s.freeTags := rfl
@[simp] theorem State.mapBins_pending (f : Bin → Bin) (s : State) :
    (s.mapBins f).pending = s.pending := rfl
@[simp] theorem State.mapBins_sorter_tray (f : Bin → Bin) (s : State) :
    (s.mapBins f).sorter.tray = s.sorter.tray := rfl
@[simp] theorem State.mapBins_sorter_queue (f : Bin → Bin) (s : State) :
    (s.mapBins f).sorter.queue = s.sorter.queue := rfl
@[simp] theorem State.mapBins_sorter_windows (f : Bin → Bin) (s : State) :
    (s.mapBins f).sorter.windows = s.sorter.windows := rfl
@[simp] theorem State.mapBins_sorter_capacity (f : Bin → Bin) (s : State) :
    (s.mapBins f).sorter.capacity = s.sorter.capacity := rfl
@[simp] theorem State.mapBins_sorter_lamps (f : Bin → Bin) (s : State) :
    (s.mapBins f).sorter.lamps = s.sorter.lamps := rfl
@[simp] theorem State.mapBins_sorter_generation (f : Bin → Bin) (s : State) :
    (s.mapBins f).sorter.generation = s.sorter.generation := rfl
@[simp] theorem State.mapBins_sorter_dropInputs (f : Bin → Bin) (s : State) :
    (s.mapBins f).sorter.dropInputs = s.sorter.dropInputs := rfl
@[simp] theorem State.mapBins_sorter_clearInputs (f : Bin → Bin) (s : State) :
    (s.mapBins f).sorter.clearInputs = s.sorter.clearInputs := rfl
@[simp] theorem State.mapBins_sorter_bins (f : Bin → Bin) (s : State) :
    (s.mapBins f).sorter.bins = s.sorter.bins.map f := rfl

/-! ### mapSegments -/

@[simp] theorem State.mapSegments_inReset (f : Segment → Segment) (s : State) :
    (s.mapSegments f).inReset = s.inReset := rfl
@[simp] theorem State.mapSegments_now (f : Segment → Segment) (s : State) :
    (s.mapSegments f).now = s.now := rfl
@[simp] theorem State.mapSegments_link (f : Segment → Segment) (s : State) :
    (s.mapSegments f).link = s.link := rfl
@[simp] theorem State.mapSegments_store (f : Segment → Segment) (s : State) :
    (s.mapSegments f).store = s.store := rfl
@[simp] theorem State.mapSegments_commands (f : Segment → Segment) (s : State) :
    (s.mapSegments f).commands = s.commands := rfl
@[simp] theorem State.mapSegments_reader (f : Segment → Segment) (s : State) :
    (s.mapSegments f).reader = s.reader := rfl
@[simp] theorem State.mapSegments_orders (f : Segment → Segment) (s : State) :
    (s.mapSegments f).orders = s.orders := rfl
@[simp] theorem State.mapSegments_exposure (f : Segment → Segment) (s : State) :
    (s.mapSegments f).exposure = s.exposure := rfl
@[simp] theorem State.mapSegments_monitor (f : Segment → Segment) (s : State) :
    (s.mapSegments f).monitor = s.monitor := rfl
@[simp] theorem State.mapSegments_cutter (f : Segment → Segment) (s : State) :
    (s.mapSegments f).cutter = s.cutter := rfl
@[simp] theorem State.mapSegments_sorter (f : Segment → Segment) (s : State) :
    (s.mapSegments f).sorter = s.sorter := rfl
@[simp] theorem State.mapSegments_price (f : Segment → Segment) (s : State) :
    (s.mapSegments f).price = s.price := rfl
@[simp] theorem State.mapSegments_alerts (f : Segment → Segment) (s : State) :
    (s.mapSegments f).alerts = s.alerts := rfl
@[simp] theorem State.mapSegments_outputs (f : Segment → Segment) (s : State) :
    (s.mapSegments f).outputs = s.outputs := rfl
@[simp] theorem State.mapSegments_freeTags (f : Segment → Segment) (s : State) :
    (s.mapSegments f).freeTags = s.freeTags := rfl
@[simp] theorem State.mapSegments_pending (f : Segment → Segment) (s : State) :
    (s.mapSegments f).pending = s.pending := rfl
@[simp] theorem State.mapSegments_path_run (f : Segment → Segment) (s : State) :
    (s.mapSegments f).path.run = s.path.run := rfl
@[simp] theorem State.mapSegments_path_haltCause (f : Segment → Segment) (s : State) :
    (s.mapSegments f).path.haltCause = s.path.haltCause := rfl
@[simp] theorem State.mapSegments_path_drainCause (f : Segment → Segment) (s : State) :
    (s.mapSegments f).path.drainCause = s.path.drainCause := rfl
@[simp] theorem State.mapSegments_path_position (f : Segment → Segment) (s : State) :
    (s.mapSegments f).path.position = s.path.position := rfl
@[simp] theorem State.mapSegments_path_dwell (f : Segment → Segment) (s : State) :
    (s.mapSegments f).path.dwell = s.path.dwell := rfl
@[simp] theorem State.mapSegments_path_params (f : Segment → Segment) (s : State) :
    (s.mapSegments f).path.params = s.path.params := rfl
@[simp] theorem State.mapSegments_path_generation (f : Segment → Segment) (s : State) :
    (s.mapSegments f).path.generation = s.path.generation := rfl
@[simp] theorem State.mapSegments_path_rampDue (f : Segment → Segment) (s : State) :
    (s.mapSegments f).path.rampDue = s.path.rampDue := rfl
@[simp] theorem State.mapSegments_path_queue (f : Segment → Segment) (s : State) :
    (s.mapSegments f).path.queue = s.path.queue.map f := rfl

/-! ### modifyHead -/

@[simp] theorem State.modifyHead_inReset (f : Segment → Segment) (s : State) :
    (s.modifyHead f).inReset = s.inReset := rfl
@[simp] theorem State.modifyHead_now (f : Segment → Segment) (s : State) :
    (s.modifyHead f).now = s.now := rfl
@[simp] theorem State.modifyHead_link (f : Segment → Segment) (s : State) :
    (s.modifyHead f).link = s.link := rfl
@[simp] theorem State.modifyHead_store (f : Segment → Segment) (s : State) :
    (s.modifyHead f).store = s.store := rfl
@[simp] theorem State.modifyHead_commands (f : Segment → Segment) (s : State) :
    (s.modifyHead f).commands = s.commands := rfl
@[simp] theorem State.modifyHead_reader (f : Segment → Segment) (s : State) :
    (s.modifyHead f).reader = s.reader := rfl
@[simp] theorem State.modifyHead_orders (f : Segment → Segment) (s : State) :
    (s.modifyHead f).orders = s.orders := rfl
@[simp] theorem State.modifyHead_exposure (f : Segment → Segment) (s : State) :
    (s.modifyHead f).exposure = s.exposure := rfl
@[simp] theorem State.modifyHead_monitor (f : Segment → Segment) (s : State) :
    (s.modifyHead f).monitor = s.monitor := rfl
@[simp] theorem State.modifyHead_cutter (f : Segment → Segment) (s : State) :
    (s.modifyHead f).cutter = s.cutter := rfl
@[simp] theorem State.modifyHead_sorter (f : Segment → Segment) (s : State) :
    (s.modifyHead f).sorter = s.sorter := rfl
@[simp] theorem State.modifyHead_price (f : Segment → Segment) (s : State) :
    (s.modifyHead f).price = s.price := rfl
@[simp] theorem State.modifyHead_alerts (f : Segment → Segment) (s : State) :
    (s.modifyHead f).alerts = s.alerts := rfl
@[simp] theorem State.modifyHead_outputs (f : Segment → Segment) (s : State) :
    (s.modifyHead f).outputs = s.outputs := rfl
@[simp] theorem State.modifyHead_freeTags (f : Segment → Segment) (s : State) :
    (s.modifyHead f).freeTags = s.freeTags := rfl
@[simp] theorem State.modifyHead_pending (f : Segment → Segment) (s : State) :
    (s.modifyHead f).pending = s.pending := rfl
@[simp] theorem State.modifyHead_path_run (f : Segment → Segment) (s : State) :
    (s.modifyHead f).path.run = s.path.run := rfl
@[simp] theorem State.modifyHead_path_haltCause (f : Segment → Segment) (s : State) :
    (s.modifyHead f).path.haltCause = s.path.haltCause := rfl
@[simp] theorem State.modifyHead_path_drainCause (f : Segment → Segment) (s : State) :
    (s.modifyHead f).path.drainCause = s.path.drainCause := rfl
@[simp] theorem State.modifyHead_path_position (f : Segment → Segment) (s : State) :
    (s.modifyHead f).path.position = s.path.position := rfl
@[simp] theorem State.modifyHead_path_dwell (f : Segment → Segment) (s : State) :
    (s.modifyHead f).path.dwell = s.path.dwell := rfl
@[simp] theorem State.modifyHead_path_params (f : Segment → Segment) (s : State) :
    (s.modifyHead f).path.params = s.path.params := rfl
@[simp] theorem State.modifyHead_path_generation (f : Segment → Segment) (s : State) :
    (s.modifyHead f).path.generation = s.path.generation := rfl
@[simp] theorem State.modifyHead_path_rampDue (f : Segment → Segment) (s : State) :
    (s.modifyHead f).path.rampDue = s.path.rampDue := rfl
@[simp] theorem State.modifyHead_path_queue (f : Segment → Segment) (s : State) :
    (s.modifyHead f).path.queue = modifyLast f s.path.queue := rfl

/-! ### setReceiver -/

@[simp] theorem State.setReceiver_inReset (r : Receiver) (s : State) :
    (s.setReceiver r).inReset = s.inReset := rfl
@[simp] theorem State.setReceiver_now (r : Receiver) (s : State) :
    (s.setReceiver r).now = s.now := rfl
@[simp] theorem State.setReceiver_store (r : Receiver) (s : State) :
    (s.setReceiver r).store = s.store := rfl
@[simp] theorem State.setReceiver_commands (r : Receiver) (s : State) :
    (s.setReceiver r).commands = s.commands := rfl
@[simp] theorem State.setReceiver_reader (r : Receiver) (s : State) :
    (s.setReceiver r).reader = s.reader := rfl
@[simp] theorem State.setReceiver_orders (r : Receiver) (s : State) :
    (s.setReceiver r).orders = s.orders := rfl
@[simp] theorem State.setReceiver_exposure (r : Receiver) (s : State) :
    (s.setReceiver r).exposure = s.exposure := rfl
@[simp] theorem State.setReceiver_path (r : Receiver) (s : State) :
    (s.setReceiver r).path = s.path := rfl
@[simp] theorem State.setReceiver_monitor (r : Receiver) (s : State) :
    (s.setReceiver r).monitor = s.monitor := rfl
@[simp] theorem State.setReceiver_cutter (r : Receiver) (s : State) :
    (s.setReceiver r).cutter = s.cutter := rfl
@[simp] theorem State.setReceiver_sorter (r : Receiver) (s : State) :
    (s.setReceiver r).sorter = s.sorter := rfl
@[simp] theorem State.setReceiver_price (r : Receiver) (s : State) :
    (s.setReceiver r).price = s.price := rfl
@[simp] theorem State.setReceiver_alerts (r : Receiver) (s : State) :
    (s.setReceiver r).alerts = s.alerts := rfl
@[simp] theorem State.setReceiver_outputs (r : Receiver) (s : State) :
    (s.setReceiver r).outputs = s.outputs := rfl
@[simp] theorem State.setReceiver_freeTags (r : Receiver) (s : State) :
    (s.setReceiver r).freeTags = s.freeTags := rfl
@[simp] theorem State.setReceiver_pending (r : Receiver) (s : State) :
    (s.setReceiver r).pending = s.pending := rfl
@[simp] theorem State.setReceiver_link_breakHeld (r : Receiver) (s : State) :
    (s.setReceiver r).link.breakHeld = s.link.breakHeld := rfl
@[simp] theorem State.setReceiver_link_spacing (r : Receiver) (s : State) :
    (s.setReceiver r).link.spacing = s.link.spacing := rfl
@[simp] theorem State.setReceiver_link_availableStream (r : Receiver) (s : State) :
    (s.setReceiver r).link.availableStream = s.link.availableStream := rfl
@[simp] theorem State.setReceiver_link_availableCommand (r : Receiver) (s : State) :
    (s.setReceiver r).link.availableCommand = s.link.availableCommand := rfl
@[simp] theorem State.setReceiver_link_returnedStream (r : Receiver) (s : State) :
    (s.setReceiver r).link.returnedStream = s.link.returnedStream := rfl
@[simp] theorem State.setReceiver_link_returnedCommand (r : Receiver) (s : State) :
    (s.setReceiver r).link.returnedCommand = s.link.returnedCommand := rfl
@[simp] theorem State.setReceiver_link_outbound (r : Receiver) (s : State) :
    (s.setReceiver r).link.outbound = s.link.outbound := rfl
@[simp] theorem State.setReceiver_link_overflow (r : Receiver) (s : State) :
    (s.setReceiver r).link.overflow = s.link.overflow := rfl
@[simp] theorem State.setReceiver_link_dropped (r : Receiver) (s : State) :
    (s.setReceiver r).link.dropped = s.link.dropped := rfl
@[simp] theorem State.setReceiver_link_transmitting (r : Receiver) (s : State) :
    (s.setReceiver r).link.transmitting = s.link.transmitting := rfl
@[simp] theorem State.setReceiver_link_transmitterFreeAt (r : Receiver) (s : State) :
    (s.setReceiver r).link.transmitterFreeAt = s.link.transmitterFreeAt := rfl
@[simp] theorem State.setReceiver_link_receiver (r : Receiver) (s : State) :
    (s.setReceiver r).link.receiver = r := rfl

/-! ### setFlap -/

@[simp] theorem State.setFlap_inReset (f : Flap) (s : State) :
    (s.setFlap f).inReset = s.inReset := rfl
@[simp] theorem State.setFlap_now (f : Flap) (s : State) :
    (s.setFlap f).now = s.now := rfl
@[simp] theorem State.setFlap_link (f : Flap) (s : State) :
    (s.setFlap f).link = s.link := rfl
@[simp] theorem State.setFlap_store (f : Flap) (s : State) :
    (s.setFlap f).store = s.store := rfl
@[simp] theorem State.setFlap_commands (f : Flap) (s : State) :
    (s.setFlap f).commands = s.commands := rfl
@[simp] theorem State.setFlap_reader (f : Flap) (s : State) :
    (s.setFlap f).reader = s.reader := rfl
@[simp] theorem State.setFlap_orders (f : Flap) (s : State) :
    (s.setFlap f).orders = s.orders := rfl
@[simp] theorem State.setFlap_exposure (f : Flap) (s : State) :
    (s.setFlap f).exposure = s.exposure := rfl
@[simp] theorem State.setFlap_path (f : Flap) (s : State) :
    (s.setFlap f).path = s.path := rfl
@[simp] theorem State.setFlap_monitor (f : Flap) (s : State) :
    (s.setFlap f).monitor = s.monitor := rfl
@[simp] theorem State.setFlap_cutter (f : Flap) (s : State) :
    (s.setFlap f).cutter = s.cutter := rfl
@[simp] theorem State.setFlap_sorter (f : Flap) (s : State) :
    (s.setFlap f).sorter = s.sorter := rfl
@[simp] theorem State.setFlap_price (f : Flap) (s : State) :
    (s.setFlap f).price = s.price := rfl
@[simp] theorem State.setFlap_alerts (f : Flap) (s : State) :
    (s.setFlap f).alerts = s.alerts := rfl
@[simp] theorem State.setFlap_freeTags (f : Flap) (s : State) :
    (s.setFlap f).freeTags = s.freeTags := rfl
@[simp] theorem State.setFlap_pending (f : Flap) (s : State) :
    (s.setFlap f).pending = s.pending := rfl
@[simp] theorem State.setFlap_outputs_stepPulse (f : Flap) (s : State) :
    (s.setFlap f).outputs.stepPulse = s.outputs.stepPulse := rfl
@[simp] theorem State.setFlap_outputs_punchPulse (f : Flap) (s : State) :
    (s.setFlap f).outputs.punchPulse = s.outputs.punchPulse := rfl
@[simp] theorem State.setFlap_outputs_firePulse (f : Flap) (s : State) :
    (s.setFlap f).outputs.firePulse = s.outputs.firePulse := rfl
@[simp] theorem State.setFlap_outputs_flap (f : Flap) (s : State) :
    (s.setFlap f).outputs.flap = f := rfl

/-! ### setChannel -/

@[simp] theorem State.setChannel_inReset (i : Nat) (c : Channel) (s : State) :
    (s.setChannel i c).inReset = s.inReset := rfl
@[simp] theorem State.setChannel_now (i : Nat) (c : Channel) (s : State) :
    (s.setChannel i c).now = s.now := rfl
@[simp] theorem State.setChannel_link (i : Nat) (c : Channel) (s : State) :
    (s.setChannel i c).link = s.link := rfl
@[simp] theorem State.setChannel_store (i : Nat) (c : Channel) (s : State) :
    (s.setChannel i c).store = s.store := rfl
@[simp] theorem State.setChannel_commands (i : Nat) (c : Channel) (s : State) :
    (s.setChannel i c).commands = s.commands := rfl
@[simp] theorem State.setChannel_reader (i : Nat) (c : Channel) (s : State) :
    (s.setChannel i c).reader = s.reader := rfl
@[simp] theorem State.setChannel_orders (i : Nat) (c : Channel) (s : State) :
    (s.setChannel i c).orders = s.orders := rfl
@[simp] theorem State.setChannel_exposure (i : Nat) (c : Channel) (s : State) :
    (s.setChannel i c).exposure = s.exposure := rfl
@[simp] theorem State.setChannel_path (i : Nat) (c : Channel) (s : State) :
    (s.setChannel i c).path = s.path := rfl
@[simp] theorem State.setChannel_cutter (i : Nat) (c : Channel) (s : State) :
    (s.setChannel i c).cutter = s.cutter := rfl
@[simp] theorem State.setChannel_sorter (i : Nat) (c : Channel) (s : State) :
    (s.setChannel i c).sorter = s.sorter := rfl
@[simp] theorem State.setChannel_price (i : Nat) (c : Channel) (s : State) :
    (s.setChannel i c).price = s.price := rfl
@[simp] theorem State.setChannel_alerts (i : Nat) (c : Channel) (s : State) :
    (s.setChannel i c).alerts = s.alerts := rfl
@[simp] theorem State.setChannel_outputs (i : Nat) (c : Channel) (s : State) :
    (s.setChannel i c).outputs = s.outputs := rfl
@[simp] theorem State.setChannel_freeTags (i : Nat) (c : Channel) (s : State) :
    (s.setChannel i c).freeTags = s.freeTags := rfl
@[simp] theorem State.setChannel_pending (i : Nat) (c : Channel) (s : State) :
    (s.setChannel i c).pending = s.pending := rfl
@[simp] theorem State.setChannel_monitor_converting (i : Nat) (c : Channel) (s : State) :
    (s.setChannel i c).monitor.converting = s.monitor.converting := rfl
@[simp] theorem State.setChannel_monitor_conversionDue (i : Nat) (c : Channel) (s : State) :
    (s.setChannel i c).monitor.conversionDue = s.monitor.conversionDue := rfl
@[simp] theorem State.setChannel_monitor_generation (i : Nat) (c : Channel) (s : State) :
    (s.setChannel i c).monitor.generation = s.monitor.generation := rfl
@[simp] theorem State.setChannel_monitor_channels (i : Nat) (c : Channel) (s : State) :
    (s.setChannel i c).monitor.channels = s.monitor.channels.set i c := rfl

/-! ### enterReading -/

@[simp] theorem State.enterReading_inReset (s : State) :
    (s.enterReading).inReset = s.inReset := rfl
@[simp] theorem State.enterReading_now (s : State) :
    (s.enterReading).now = s.now := rfl
@[simp] theorem State.enterReading_link (s : State) :
    (s.enterReading).link = s.link := rfl
@[simp] theorem State.enterReading_store (s : State) :
    (s.enterReading).store = s.store := rfl
@[simp] theorem State.enterReading_commands (s : State) :
    (s.enterReading).commands = s.commands := rfl
@[simp] theorem State.enterReading_orders (s : State) :
    (s.enterReading).orders = s.orders := rfl
@[simp] theorem State.enterReading_exposure (s : State) :
    (s.enterReading).exposure = s.exposure := rfl
@[simp] theorem State.enterReading_path (s : State) :
    (s.enterReading).path = s.path := rfl
@[simp] theorem State.enterReading_monitor (s : State) :
    (s.enterReading).monitor = s.monitor := rfl
@[simp] theorem State.enterReading_cutter (s : State) :
    (s.enterReading).cutter = s.cutter := rfl
@[simp] theorem State.enterReading_sorter (s : State) :
    (s.enterReading).sorter = s.sorter := rfl
@[simp] theorem State.enterReading_price (s : State) :
    (s.enterReading).price = s.price := rfl
@[simp] theorem State.enterReading_alerts (s : State) :
    (s.enterReading).alerts = s.alerts := rfl
@[simp] theorem State.enterReading_outputs (s : State) :
    (s.enterReading).outputs = s.outputs := rfl
@[simp] theorem State.enterReading_freeTags (s : State) :
    (s.enterReading).freeTags = s.freeTags := rfl
@[simp] theorem State.enterReading_pending (s : State) :
    (s.enterReading).pending = s.pending := rfl
@[simp] theorem State.enterReading_reader_staged (s : State) :
    (s.enterReading).reader.staged = s.reader.staged := rfl
@[simp] theorem State.enterReading_reader_source (s : State) :
    (s.enterReading).reader.source = s.reader.source := rfl
@[simp] theorem State.enterReading_reader_lastLine (s : State) :
    (s.enterReading).reader.lastLine = s.reader.lastLine := rfl
@[simp] theorem State.enterReading_reader_mode (s : State) :
    (s.enterReading).reader.mode = .reading := rfl
@[simp] theorem State.enterReading_reader_awaited (s : State) :
    (s.enterReading).reader.awaited = none := rfl

/-! ### clearTray -/

@[simp] theorem State.clearTray_inReset (s : State) :
    (s.clearTray).inReset = s.inReset := rfl
@[simp] theorem State.clearTray_now (s : State) :
    (s.clearTray).now = s.now := rfl
@[simp] theorem State.clearTray_link (s : State) :
    (s.clearTray).link = s.link := rfl
@[simp] theorem State.clearTray_store (s : State) :
    (s.clearTray).store = s.store := rfl
@[simp] theorem State.clearTray_commands (s : State) :
    (s.clearTray).commands = s.commands := rfl
@[simp] theorem State.clearTray_reader (s : State) :
    (s.clearTray).reader = s.reader := rfl
@[simp] theorem State.clearTray_orders (s : State) :
    (s.clearTray).orders = s.orders := rfl
@[simp] theorem State.clearTray_exposure (s : State) :
    (s.clearTray).exposure = s.exposure := rfl
@[simp] theorem State.clearTray_path (s : State) :
    (s.clearTray).path = s.path := rfl
@[simp] theorem State.clearTray_monitor (s : State) :
    (s.clearTray).monitor = s.monitor := rfl
@[simp] theorem State.clearTray_cutter (s : State) :
    (s.clearTray).cutter = s.cutter := rfl
@[simp] theorem State.clearTray_price (s : State) :
    (s.clearTray).price = s.price := rfl
@[simp] theorem State.clearTray_alerts (s : State) :
    (s.clearTray).alerts = s.alerts := rfl
@[simp] theorem State.clearTray_outputs (s : State) :
    (s.clearTray).outputs = s.outputs := rfl
@[simp] theorem State.clearTray_freeTags (s : State) :
    (s.clearTray).freeTags = s.freeTags := rfl
@[simp] theorem State.clearTray_pending (s : State) :
    (s.clearTray).pending = s.pending := rfl
@[simp] theorem State.clearTray_sorter_bins (s : State) :
    (s.clearTray).sorter.bins = s.sorter.bins := rfl
@[simp] theorem State.clearTray_sorter_queue (s : State) :
    (s.clearTray).sorter.queue = s.sorter.queue := rfl
@[simp] theorem State.clearTray_sorter_windows (s : State) :
    (s.clearTray).sorter.windows = s.sorter.windows := rfl
@[simp] theorem State.clearTray_sorter_capacity (s : State) :
    (s.clearTray).sorter.capacity = s.sorter.capacity := rfl
@[simp] theorem State.clearTray_sorter_lamps (s : State) :
    (s.clearTray).sorter.lamps = s.sorter.lamps := rfl
@[simp] theorem State.clearTray_sorter_generation (s : State) :
    (s.clearTray).sorter.generation = s.sorter.generation := rfl
@[simp] theorem State.clearTray_sorter_dropInputs (s : State) :
    (s.clearTray).sorter.dropInputs = s.sorter.dropInputs := rfl
@[simp] theorem State.clearTray_sorter_clearInputs (s : State) :
    (s.clearTray).sorter.clearInputs = s.sorter.clearInputs := rfl
@[simp] theorem State.clearTray_sorter_tray (s : State) :
    (s.clearTray).sorter.tray = { s.sorter.tray with state := .empty, count := 0, stray := 0 } := rfl

/-! ### clearCounters -/

@[simp] theorem State.clearCounters_inReset (s : State) :
    (s.clearCounters).inReset = s.inReset := rfl
@[simp] theorem State.clearCounters_now (s : State) :
    (s.clearCounters).now = s.now := rfl
@[simp] theorem State.clearCounters_link (s : State) :
    (s.clearCounters).link = s.link := rfl
@[simp] theorem State.clearCounters_store (s : State) :
    (s.clearCounters).store = s.store := rfl
@[simp] theorem State.clearCounters_commands (s : State) :
    (s.clearCounters).commands = s.commands := rfl
@[simp] theorem State.clearCounters_reader (s : State) :
    (s.clearCounters).reader = s.reader := rfl
@[simp] theorem State.clearCounters_orders (s : State) :
    (s.clearCounters).orders = s.orders := rfl
@[simp] theorem State.clearCounters_exposure (s : State) :
    (s.clearCounters).exposure = s.exposure := rfl
@[simp] theorem State.clearCounters_path (s : State) :
    (s.clearCounters).path = s.path := rfl
@[simp] theorem State.clearCounters_monitor (s : State) :
    (s.clearCounters).monitor = s.monitor := rfl
@[simp] theorem State.clearCounters_cutter (s : State) :
    (s.clearCounters).cutter = s.cutter := rfl
@[simp] theorem State.clearCounters_sorter (s : State) :
    (s.clearCounters).sorter = s.sorter := rfl
@[simp] theorem State.clearCounters_price (s : State) :
    (s.clearCounters).price = s.price := rfl
@[simp] theorem State.clearCounters_outputs (s : State) :
    (s.clearCounters).outputs = s.outputs := rfl
@[simp] theorem State.clearCounters_freeTags (s : State) :
    (s.clearCounters).freeTags = s.freeTags := rfl
@[simp] theorem State.clearCounters_pending (s : State) :
    (s.clearCounters).pending = s.pending := rfl
@[simp] theorem State.clearCounters_alerts_causes (s : State) :
    (s.clearCounters).alerts.causes = s.alerts.causes := rfl
@[simp] theorem State.clearCounters_alerts_estop (s : State) :
    (s.clearCounters).alerts.estop = s.alerts.estop := rfl
@[simp] theorem State.clearCounters_alerts_jam (s : State) :
    (s.clearCounters).alerts.jam = s.alerts.jam := rfl
@[simp] theorem State.clearCounters_alerts_counters (s : State) :
    (s.clearCounters).alerts.counters = s.alerts.counters.map fun _ => 0 := rfl

/-! ### fire -/

@[simp] theorem State.fire_inReset (s : State) :
    (s.fire).inReset = s.inReset := rfl
@[simp] theorem State.fire_now (s : State) :
    (s.fire).now = s.now := rfl
@[simp] theorem State.fire_link (s : State) :
    (s.fire).link = s.link := rfl
@[simp] theorem State.fire_store (s : State) :
    (s.fire).store = s.store := rfl
@[simp] theorem State.fire_commands (s : State) :
    (s.fire).commands = s.commands := rfl
@[simp] theorem State.fire_reader (s : State) :
    (s.fire).reader = s.reader := rfl
@[simp] theorem State.fire_orders (s : State) :
    (s.fire).orders = s.orders := rfl
@[simp] theorem State.fire_exposure (s : State) :
    (s.fire).exposure = s.exposure := rfl
@[simp] theorem State.fire_path (s : State) :
    (s.fire).path = s.path := rfl
@[simp] theorem State.fire_monitor (s : State) :
    (s.fire).monitor = s.monitor := rfl
@[simp] theorem State.fire_sorter (s : State) :
    (s.fire).sorter = s.sorter := rfl
@[simp] theorem State.fire_price (s : State) :
    (s.fire).price = s.price := rfl
@[simp] theorem State.fire_alerts (s : State) :
    (s.fire).alerts = s.alerts := rfl
@[simp] theorem State.fire_freeTags (s : State) :
    (s.fire).freeTags = s.freeTags := rfl
@[simp] theorem State.fire_pending (s : State) :
    (s.fire).pending = s.pending := rfl
@[simp] theorem State.fire_cutter_current (s : State) :
    (s.fire).cutter.current = s.cutter.current := rfl
@[simp] theorem State.fire_cutter_delta (s : State) :
    (s.fire).cutter.delta = s.cutter.delta := rfl
@[simp] theorem State.fire_cutter_cutList (s : State) :
    (s.fire).cutter.cutList = s.cutter.cutList := rfl
@[simp] theorem State.fire_cutter_consecutive (s : State) :
    (s.fire).cutter.consecutive = s.cutter.consecutive := rfl
@[simp] theorem State.fire_cutter_missing (s : State) :
    (s.fire).cutter.missing = s.cutter.missing := rfl
@[simp] theorem State.fire_cutter_spurious (s : State) :
    (s.fire).cutter.spurious = s.cutter.spurious := rfl
@[simp] theorem State.fire_cutter_lastSample (s : State) :
    (s.fire).cutter.lastSample = s.cutter.lastSample := rfl
@[simp] theorem State.fire_cutter_qualified (s : State) :
    (s.fire).cutter.qualified = s.cutter.qualified := rfl
@[simp] theorem State.fire_cutter_lastPurgeCut (s : State) :
    (s.fire).cutter.lastPurgeCut = s.cutter.lastPurgeCut := rfl
@[simp] theorem State.fire_outputs_flap (s : State) :
    (s.fire).outputs.flap = s.outputs.flap := rfl
@[simp] theorem State.fire_outputs_stepPulse (s : State) :
    (s.fire).outputs.stepPulse = s.outputs.stepPulse := rfl
@[simp] theorem State.fire_outputs_punchPulse (s : State) :
    (s.fire).outputs.punchPulse = s.outputs.punchPulse := rfl
@[simp] theorem State.fire_cutter_progress (s : State) :
    (s.fire).cutter.progress = some { firedAt := s.now, due := s.now + s.path.params.tCut * 1000 } := rfl
@[simp] theorem State.fire_outputs_firePulse (s : State) :
    (s.fire).outputs.firePulse = 2 := rfl

/-! ### nextConversion -/

@[simp] theorem State.nextConversion_inReset (s : State) :
    (s.nextConversion).inReset = s.inReset := rfl
@[simp] theorem State.nextConversion_now (s : State) :
    (s.nextConversion).now = s.now := rfl
@[simp] theorem State.nextConversion_link (s : State) :
    (s.nextConversion).link = s.link := rfl
@[simp] theorem State.nextConversion_store (s : State) :
    (s.nextConversion).store = s.store := rfl
@[simp] theorem State.nextConversion_commands (s : State) :
    (s.nextConversion).commands = s.commands := rfl
@[simp] theorem State.nextConversion_reader (s : State) :
    (s.nextConversion).reader = s.reader := rfl
@[simp] theorem State.nextConversion_orders (s : State) :
    (s.nextConversion).orders = s.orders := rfl
@[simp] theorem State.nextConversion_exposure (s : State) :
    (s.nextConversion).exposure = s.exposure := rfl
@[simp] theorem State.nextConversion_path (s : State) :
    (s.nextConversion).path = s.path := rfl
@[simp] theorem State.nextConversion_cutter (s : State) :
    (s.nextConversion).cutter = s.cutter := rfl
@[simp] theorem State.nextConversion_sorter (s : State) :
    (s.nextConversion).sorter = s.sorter := rfl
@[simp] theorem State.nextConversion_price (s : State) :
    (s.nextConversion).price = s.price := rfl
@[simp] theorem State.nextConversion_alerts (s : State) :
    (s.nextConversion).alerts = s.alerts := rfl
@[simp] theorem State.nextConversion_outputs (s : State) :
    (s.nextConversion).outputs = s.outputs := rfl
@[simp] theorem State.nextConversion_freeTags (s : State) :
    (s.nextConversion).freeTags = s.freeTags := rfl
@[simp] theorem State.nextConversion_pending (s : State) :
    (s.nextConversion).pending = s.pending := rfl
@[simp] theorem State.nextConversion_monitor_channels (s : State) :
    (s.nextConversion).monitor.channels = s.monitor.channels := rfl
@[simp] theorem State.nextConversion_monitor_generation (s : State) :
    (s.nextConversion).monitor.generation = s.monitor.generation := rfl
@[simp] theorem State.nextConversion_monitor_converting (s : State) :
    (s.nextConversion).monitor.converting = (s.monitor.converting + 1) % 4 := rfl

end Sys2Proof.Machine
end

