-- ==== Sys2Proof/Laws/Ops.lean ====
section
/-!
SUPPORT. For each operation that the commands share, once, all that it leaves alone: a lemma `…_keeps` lists the fields
that are after it what they were before, whatever branch it takes. `simp` uses each part of such a lemma by itself.
-/

namespace Sys2Proof.Machine

/-- What `State.queueFrame` leaves alone. -/
@[simp] theorem State.queueFrame_keeps (f : OutFrame) (s : State) :
    (s.queueFrame f).inReset = s.inReset ∧ (s.queueFrame f).now = s.now ∧ (s.queueFrame f).store = s.store ∧
    (s.queueFrame f).commands = s.commands ∧ (s.queueFrame f).reader = s.reader ∧
    (s.queueFrame f).orders = s.orders ∧ (s.queueFrame f).exposure = s.exposure ∧ (s.queueFrame f).path = s.path ∧
    (s.queueFrame f).monitor = s.monitor ∧ (s.queueFrame f).cutter = s.cutter ∧ (s.queueFrame f).sorter = s.sorter ∧
    (s.queueFrame f).price = s.price ∧ (s.queueFrame f).alerts = s.alerts ∧ (s.queueFrame f).outputs = s.outputs ∧
    (s.queueFrame f).freeTags = s.freeTags ∧ (s.queueFrame f).pending = s.pending ∧
    (s.queueFrame f).link.receiver = s.link.receiver ∧ (s.queueFrame f).link.breakHeld = s.link.breakHeld ∧
    (s.queueFrame f).link.spacing = s.link.spacing ∧ (s.queueFrame f).link.availableStream = s.link.availableStream ∧
    (s.queueFrame f).link.availableCommand = s.link.availableCommand ∧
    (s.queueFrame f).link.returnedStream = s.link.returnedStream ∧
    (s.queueFrame f).link.returnedCommand = s.link.returnedCommand ∧
    (s.queueFrame f).link.transmitting = s.link.transmitting ∧
    (s.queueFrame f).link.transmitterFreeAt = s.link.transmitterFreeAt := by
  unfold State.queueFrame
  split <;> simp

/-- What `State.answer` leaves alone. -/
@[simp] theorem State.answer_keeps (f : InFrame) (r : StatusResult) (s : State) :
    (s.answer f r).inReset = s.inReset ∧ (s.answer f r).now = s.now ∧ (s.answer f r).store = s.store ∧
    (s.answer f r).commands = s.commands ∧ (s.answer f r).reader = s.reader ∧ (s.answer f r).orders = s.orders ∧
    (s.answer f r).exposure = s.exposure ∧ (s.answer f r).path = s.path ∧ (s.answer f r).monitor = s.monitor ∧
    (s.answer f r).cutter = s.cutter ∧ (s.answer f r).sorter = s.sorter ∧ (s.answer f r).price = s.price ∧
    (s.answer f r).alerts = s.alerts ∧ (s.answer f r).outputs = s.outputs ∧ (s.answer f r).freeTags = s.freeTags ∧
    (s.answer f r).pending = s.pending ∧ (s.answer f r).link.receiver = s.link.receiver ∧
    (s.answer f r).link.breakHeld = s.link.breakHeld ∧ (s.answer f r).link.spacing = s.link.spacing ∧
    (s.answer f r).link.availableStream = s.link.availableStream ∧
    (s.answer f r).link.availableCommand = s.link.availableCommand ∧
    (s.answer f r).link.returnedStream = s.link.returnedStream ∧
    (s.answer f r).link.returnedCommand = s.link.returnedCommand ∧
    (s.answer f r).link.transmitting = s.link.transmitting ∧
    (s.answer f r).link.transmitterFreeAt = s.link.transmitterFreeAt := by
  unfold State.answer
  simp

/-- What `State.report` leaves alone. -/
@[simp] theorem State.report_keeps (k : OutKind) (p : List Byte) (s : State) :
    (s.report k p).inReset = s.inReset ∧ (s.report k p).now = s.now ∧ (s.report k p).store = s.store ∧
    (s.report k p).commands = s.commands ∧ (s.report k p).reader = s.reader ∧ (s.report k p).orders = s.orders ∧
    (s.report k p).exposure = s.exposure ∧ (s.report k p).path = s.path ∧ (s.report k p).monitor = s.monitor ∧
    (s.report k p).cutter = s.cutter ∧ (s.report k p).sorter = s.sorter ∧ (s.report k p).price = s.price ∧
    (s.report k p).alerts = s.alerts ∧ (s.report k p).outputs = s.outputs ∧ (s.report k p).pending = s.pending ∧
    (s.report k p).link.receiver = s.link.receiver ∧ (s.report k p).link.breakHeld = s.link.breakHeld ∧
    (s.report k p).link.spacing = s.link.spacing ∧ (s.report k p).link.availableStream = s.link.availableStream ∧
    (s.report k p).link.availableCommand = s.link.availableCommand ∧
    (s.report k p).link.returnedStream = s.link.returnedStream ∧
    (s.report k p).link.returnedCommand = s.link.returnedCommand ∧
    (s.report k p).link.transmitting = s.link.transmitting ∧
    (s.report k p).link.transmitterFreeAt = s.link.transmitterFreeAt := by
  unfold State.report
  simp

/-- What `State.reportCause` leaves alone. -/
@[simp] theorem State.reportCause_keeps (c : Cause) (s : State) :
    (s.reportCause c).inReset = s.inReset ∧ (s.reportCause c).now = s.now ∧ (s.reportCause c).store = s.store ∧
    (s.reportCause c).commands = s.commands ∧ (s.reportCause c).reader = s.reader ∧
    (s.reportCause c).orders = s.orders ∧ (s.reportCause c).exposure = s.exposure ∧ (s.reportCause c).path = s.path ∧
    (s.reportCause c).monitor = s.monitor ∧ (s.reportCause c).cutter = s.cutter ∧
    (s.reportCause c).sorter = s.sorter ∧ (s.reportCause c).price = s.price ∧ (s.reportCause c).outputs = s.outputs ∧
    (s.reportCause c).pending = s.pending ∧ (s.reportCause c).link.receiver = s.link.receiver ∧
    (s.reportCause c).link.breakHeld = s.link.breakHeld ∧ (s.reportCause c).link.spacing = s.link.spacing ∧
    (s.reportCause c).link.availableStream = s.link.availableStream ∧
    (s.reportCause c).link.availableCommand = s.link.availableCommand ∧
    (s.reportCause c).link.returnedStream = s.link.returnedStream ∧
    (s.reportCause c).link.returnedCommand = s.link.returnedCommand ∧
    (s.reportCause c).link.transmitting = s.link.transmitting ∧
    (s.reportCause c).link.transmitterFreeAt = s.link.transmitterFreeAt ∧
    (s.reportCause c).alerts.counters = s.alerts.counters ∧ (s.reportCause c).alerts.estop = s.alerts.estop ∧
    (s.reportCause c).alerts.jam = s.alerts.jam := by
  unfold State.reportCause
  dsimp only
  split <;> simp

/-- What `State.raise` leaves alone. -/
@[simp] theorem State.raise_keeps (c : Cause) (s : State) :
    (s.raise c).inReset = s.inReset ∧ (s.raise c).now = s.now ∧ (s.raise c).store = s.store ∧
    (s.raise c).commands = s.commands ∧ (s.raise c).reader = s.reader ∧ (s.raise c).orders = s.orders ∧
    (s.raise c).exposure = s.exposure ∧ (s.raise c).path = s.path ∧ (s.raise c).monitor = s.monitor ∧
    (s.raise c).cutter = s.cutter ∧ (s.raise c).sorter = s.sorter ∧ (s.raise c).price = s.price ∧
    (s.raise c).outputs = s.outputs ∧ (s.raise c).pending = s.pending ∧ (s.raise c).link.receiver = s.link.receiver ∧
    (s.raise c).link.breakHeld = s.link.breakHeld ∧ (s.raise c).link.spacing = s.link.spacing ∧
    (s.raise c).link.availableStream = s.link.availableStream ∧
    (s.raise c).link.availableCommand = s.link.availableCommand ∧
    (s.raise c).link.returnedStream = s.link.returnedStream ∧
    (s.raise c).link.returnedCommand = s.link.returnedCommand ∧ (s.raise c).link.transmitting = s.link.transmitting ∧
    (s.raise c).link.transmitterFreeAt = s.link.transmitterFreeAt ∧ (s.raise c).alerts.counters = s.alerts.counters ∧
    (s.raise c).alerts.estop = s.alerts.estop ∧ (s.raise c).alerts.jam = s.alerts.jam := by
  unfold State.raise
  simp

/-- What `State.removeSequenced` leaves alone. -/
@[simp] theorem State.removeSequenced_keeps (s : State) :
    (s.removeSequenced).inReset = s.inReset ∧ (s.removeSequenced).now = s.now ∧
    (s.removeSequenced).commands = s.commands ∧ (s.removeSequenced).reader = s.reader ∧
    (s.removeSequenced).orders = s.orders ∧ (s.removeSequenced).exposure = s.exposure ∧
    (s.removeSequenced).path = s.path ∧ (s.removeSequenced).monitor = s.monitor ∧
    (s.removeSequenced).cutter = s.cutter ∧ (s.removeSequenced).sorter = s.sorter ∧
    (s.removeSequenced).price = s.price ∧ (s.removeSequenced).alerts = s.alerts ∧
    (s.removeSequenced).outputs = s.outputs ∧ (s.removeSequenced).freeTags = s.freeTags ∧
    (s.removeSequenced).pending = s.pending ∧ (s.removeSequenced).link.receiver = s.link.receiver ∧
    (s.removeSequenced).link.breakHeld = s.link.breakHeld ∧ (s.removeSequenced).link.spacing = s.link.spacing ∧
    (s.removeSequenced).link.availableStream = s.link.availableStream ∧
    (s.removeSequenced).link.availableCommand = s.link.availableCommand ∧
    (s.removeSequenced).link.returnedCommand = s.link.returnedCommand ∧
    (s.removeSequenced).link.outbound = s.link.outbound ∧ (s.removeSequenced).link.overflow = s.link.overflow ∧
    (s.removeSequenced).link.dropped = s.link.dropped ∧ (s.removeSequenced).link.transmitting = s.link.transmitting ∧
    (s.removeSequenced).link.transmitterFreeAt = s.link.transmitterFreeAt := by
  unfold State.removeSequenced
  split <;> simp

/-- What `State.removeImmediate` leaves alone. -/
@[simp] theorem State.removeImmediate_keeps (s : State) :
    (s.removeImmediate).inReset = s.inReset ∧ (s.removeImmediate).now = s.now ∧ (s.removeImmediate).store = s.store ∧
    (s.removeImmediate).reader = s.reader ∧ (s.removeImmediate).orders = s.orders ∧
    (s.removeImmediate).exposure = s.exposure ∧ (s.removeImmediate).path = s.path ∧
    (s.removeImmediate).monitor = s.monitor ∧ (s.removeImmediate).cutter = s.cutter ∧
    (s.removeImmediate).sorter = s.sorter ∧ (s.removeImmediate).price = s.price ∧
    (s.removeImmediate).alerts = s.alerts ∧ (s.removeImmediate).outputs = s.outputs ∧
    (s.removeImmediate).freeTags = s.freeTags ∧ (s.removeImmediate).pending = s.pending ∧
    (s.removeImmediate).link.receiver = s.link.receiver ∧ (s.removeImmediate).link.breakHeld = s.link.breakHeld ∧
    (s.removeImmediate).link.spacing = s.link.spacing ∧
    (s.removeImmediate).link.availableStream = s.link.availableStream ∧
    (s.removeImmediate).link.availableCommand = s.link.availableCommand ∧
    (s.removeImmediate).link.returnedStream = s.link.returnedStream ∧
    (s.removeImmediate).link.outbound = s.link.outbound ∧ (s.removeImmediate).link.overflow = s.link.overflow ∧
    (s.removeImmediate).link.dropped = s.link.dropped ∧ (s.removeImmediate).link.transmitting = s.link.transmitting ∧
    (s.removeImmediate).link.transmitterFreeAt = s.link.transmitterFreeAt := by
  unfold State.removeImmediate
  split <;> simp

/-- What `State.updateBin` leaves alone. -/
@[simp] theorem State.updateBin_keeps (n : Nat) (f : Bin → Bin) (s : State) :
    (s.updateBin n f).inReset = s.inReset ∧ (s.updateBin n f).now = s.now ∧ (s.updateBin n f).link = s.link ∧
    (s.updateBin n f).store = s.store ∧ (s.updateBin n f).commands = s.commands ∧
    (s.updateBin n f).reader = s.reader ∧ (s.updateBin n f).orders = s.orders ∧
    (s.updateBin n f).exposure = s.exposure ∧ (s.updateBin n f).path = s.path ∧
    (s.updateBin n f).monitor = s.monitor ∧ (s.updateBin n f).cutter = s.cutter ∧ (s.updateBin n f).price = s.price ∧
    (s.updateBin n f).alerts = s.alerts ∧ (s.updateBin n f).outputs = s.outputs ∧
    (s.updateBin n f).freeTags = s.freeTags ∧ (s.updateBin n f).pending = s.pending ∧
    (s.updateBin n f).sorter.tray = s.sorter.tray ∧ (s.updateBin n f).sorter.queue = s.sorter.queue ∧
    (s.updateBin n f).sorter.windows = s.sorter.windows ∧ (s.updateBin n f).sorter.capacity = s.sorter.capacity ∧
    (s.updateBin n f).sorter.lamps = s.sorter.lamps ∧ (s.updateBin n f).sorter.generation = s.sorter.generation ∧
    (s.updateBin n f).sorter.dropInputs = s.sorter.dropInputs ∧
    (s.updateBin n f).sorter.clearInputs = s.sorter.clearInputs := by
  unfold State.updateBin
  split <;> simp

/-- What `State.freeOrder` leaves alone. -/
@[simp] theorem State.freeOrder_keeps (n : Nat) (s : State) :
    (s.freeOrder n).inReset = s.inReset ∧ (s.freeOrder n).now = s.now ∧ (s.freeOrder n).link = s.link ∧
    (s.freeOrder n).store = s.store ∧ (s.freeOrder n).commands = s.commands ∧ (s.freeOrder n).reader = s.reader ∧
    (s.freeOrder n).exposure = s.exposure ∧ (s.freeOrder n).path = s.path ∧ (s.freeOrder n).monitor = s.monitor ∧
    (s.freeOrder n).cutter = s.cutter ∧ (s.freeOrder n).price = s.price ∧ (s.freeOrder n).alerts = s.alerts ∧
    (s.freeOrder n).outputs = s.outputs ∧ (s.freeOrder n).freeTags = s.freeTags ∧
    (s.freeOrder n).pending = s.pending ∧ (s.freeOrder n).sorter.tray = s.sorter.tray ∧
    (s.freeOrder n).sorter.queue = s.sorter.queue ∧ (s.freeOrder n).sorter.windows = s.sorter.windows ∧
    (s.freeOrder n).sorter.capacity = s.sorter.capacity ∧ (s.freeOrder n).sorter.lamps = s.sorter.lamps ∧
    (s.freeOrder n).sorter.generation = s.sorter.generation ∧
    (s.freeOrder n).sorter.dropInputs = s.sorter.dropInputs ∧
    (s.freeOrder n).sorter.clearInputs = s.sorter.clearInputs := by
  unfold State.freeOrder
  simp

/-- What `State.endIfDrained` leaves alone. -/
@[simp] theorem State.endIfDrained_keeps (n : Nat) (s : State) :
    (s.endIfDrained n).inReset = s.inReset ∧ (s.endIfDrained n).now = s.now ∧ (s.endIfDrained n).store = s.store ∧
    (s.endIfDrained n).commands = s.commands ∧ (s.endIfDrained n).reader = s.reader ∧
    (s.endIfDrained n).exposure = s.exposure ∧ (s.endIfDrained n).path = s.path ∧
    (s.endIfDrained n).monitor = s.monitor ∧ (s.endIfDrained n).cutter = s.cutter ∧
    (s.endIfDrained n).price = s.price ∧ (s.endIfDrained n).alerts = s.alerts ∧
    (s.endIfDrained n).outputs = s.outputs ∧ (s.endIfDrained n).pending = s.pending ∧
    (s.endIfDrained n).sorter.tray = s.sorter.tray ∧ (s.endIfDrained n).sorter.queue = s.sorter.queue ∧
    (s.endIfDrained n).sorter.windows = s.sorter.windows ∧ (s.endIfDrained n).sorter.capacity = s.sorter.capacity ∧
    (s.endIfDrained n).sorter.lamps = s.sorter.lamps ∧ (s.endIfDrained n).sorter.generation = s.sorter.generation ∧
    (s.endIfDrained n).sorter.dropInputs = s.sorter.dropInputs ∧
    (s.endIfDrained n).sorter.clearInputs = s.sorter.clearInputs ∧
    (s.endIfDrained n).link.receiver = s.link.receiver ∧ (s.endIfDrained n).link.breakHeld = s.link.breakHeld ∧
    (s.endIfDrained n).link.spacing = s.link.spacing ∧
    (s.endIfDrained n).link.availableStream = s.link.availableStream ∧
    (s.endIfDrained n).link.availableCommand = s.link.availableCommand ∧
    (s.endIfDrained n).link.returnedStream = s.link.returnedStream ∧
    (s.endIfDrained n).link.returnedCommand = s.link.returnedCommand ∧
    (s.endIfDrained n).link.transmitting = s.link.transmitting ∧
    (s.endIfDrained n).link.transmitterFreeAt = s.link.transmitterFreeAt := by
  unfold State.endIfDrained
  repeat' split
  all_goals simp

/-- What `State.reportDiscard` leaves alone. -/
@[simp] theorem State.reportDiscard_keeps (p : PrintRecord) (r : RejectReason) (s : State) :
    (s.reportDiscard p r).inReset = s.inReset ∧ (s.reportDiscard p r).now = s.now ∧
    (s.reportDiscard p r).store = s.store ∧ (s.reportDiscard p r).commands = s.commands ∧
    (s.reportDiscard p r).reader = s.reader ∧ (s.reportDiscard p r).orders = s.orders ∧
    (s.reportDiscard p r).exposure = s.exposure ∧ (s.reportDiscard p r).path = s.path ∧
    (s.reportDiscard p r).monitor = s.monitor ∧ (s.reportDiscard p r).cutter = s.cutter ∧
    (s.reportDiscard p r).sorter = s.sorter ∧ (s.reportDiscard p r).price = s.price ∧
    (s.reportDiscard p r).outputs = s.outputs ∧ (s.reportDiscard p r).pending = s.pending ∧
    (s.reportDiscard p r).link.receiver = s.link.receiver ∧ (s.reportDiscard p r).link.breakHeld = s.link.breakHeld ∧
    (s.reportDiscard p r).link.spacing = s.link.spacing ∧
    (s.reportDiscard p r).link.availableStream = s.link.availableStream ∧
    (s.reportDiscard p r).link.availableCommand = s.link.availableCommand ∧
    (s.reportDiscard p r).link.returnedStream = s.link.returnedStream ∧
    (s.reportDiscard p r).link.returnedCommand = s.link.returnedCommand ∧
    (s.reportDiscard p r).link.transmitting = s.link.transmitting ∧
    (s.reportDiscard p r).link.transmitterFreeAt = s.link.transmitterFreeAt ∧
    (s.reportDiscard p r).alerts.causes = s.alerts.causes ∧ (s.reportDiscard p r).alerts.estop = s.alerts.estop ∧
    (s.reportDiscard p r).alerts.jam = s.alerts.jam := by
  unfold State.reportDiscard
  simp

/-- What `State.discardStagedOf` leaves alone. -/
@[simp] theorem State.discardStagedOf_keeps (n : Nat) (s : State) :
    (s.discardStagedOf n).inReset = s.inReset ∧ (s.discardStagedOf n).now = s.now ∧
    (s.discardStagedOf n).store = s.store ∧ (s.discardStagedOf n).commands = s.commands ∧
    (s.discardStagedOf n).exposure = s.exposure ∧ (s.discardStagedOf n).path = s.path ∧
    (s.discardStagedOf n).monitor = s.monitor ∧ (s.discardStagedOf n).cutter = s.cutter ∧
    (s.discardStagedOf n).sorter = s.sorter ∧ (s.discardStagedOf n).price = s.price ∧
    (s.discardStagedOf n).outputs = s.outputs ∧ (s.discardStagedOf n).pending = s.pending ∧
    (s.discardStagedOf n).link.receiver = s.link.receiver ∧ (s.discardStagedOf n).link.breakHeld = s.link.breakHeld ∧
    (s.discardStagedOf n).link.spacing = s.link.spacing ∧
    (s.discardStagedOf n).link.availableStream = s.link.availableStream ∧
    (s.discardStagedOf n).link.availableCommand = s.link.availableCommand ∧
    (s.discardStagedOf n).link.returnedStream = s.link.returnedStream ∧
    (s.discardStagedOf n).link.returnedCommand = s.link.returnedCommand ∧
    (s.discardStagedOf n).link.transmitting = s.link.transmitting ∧
    (s.discardStagedOf n).link.transmitterFreeAt = s.link.transmitterFreeAt ∧
    (s.discardStagedOf n).alerts.causes = s.alerts.causes ∧ (s.discardStagedOf n).alerts.estop = s.alerts.estop ∧
    (s.discardStagedOf n).alerts.jam = s.alerts.jam := by
  unfold State.discardStagedOf
  repeat' split
  all_goals simp

/-- What `State.windDown` leaves alone. -/
@[simp] theorem State.windDown_keeps (n : Nat) (next : OrderState) (s : State) :
    (s.windDown n next).inReset = s.inReset ∧ (s.windDown n next).now = s.now ∧ (s.windDown n next).store = s.store ∧
    (s.windDown n next).commands = s.commands ∧ (s.windDown n next).exposure = s.exposure ∧
    (s.windDown n next).monitor = s.monitor ∧ (s.windDown n next).cutter = s.cutter ∧
    (s.windDown n next).price = s.price ∧ (s.windDown n next).outputs = s.outputs ∧
    (s.windDown n next).pending = s.pending ∧ (s.windDown n next).link.receiver = s.link.receiver ∧
    (s.windDown n next).link.breakHeld = s.link.breakHeld ∧ (s.windDown n next).link.spacing = s.link.spacing ∧
    (s.windDown n next).link.availableStream = s.link.availableStream ∧
    (s.windDown n next).link.availableCommand = s.link.availableCommand ∧
    (s.windDown n next).link.returnedStream = s.link.returnedStream ∧
    (s.windDown n next).link.returnedCommand = s.link.returnedCommand ∧
    (s.windDown n next).link.transmitting = s.link.transmitting ∧
    (s.windDown n next).link.transmitterFreeAt = s.link.transmitterFreeAt ∧
    (s.windDown n next).alerts.causes = s.alerts.causes ∧ (s.windDown n next).alerts.estop = s.alerts.estop ∧
    (s.windDown n next).alerts.jam = s.alerts.jam ∧ (s.windDown n next).path.run = s.path.run ∧
    (s.windDown n next).path.haltCause = s.path.haltCause ∧ (s.windDown n next).path.drainCause = s.path.drainCause ∧
    (s.windDown n next).path.position = s.path.position ∧ (s.windDown n next).path.dwell = s.path.dwell ∧
    (s.windDown n next).path.params = s.path.params ∧ (s.windDown n next).path.generation = s.path.generation ∧
    (s.windDown n next).path.rampDue = s.path.rampDue ∧ (s.windDown n next).sorter.tray = s.sorter.tray ∧
    (s.windDown n next).sorter.queue = s.sorter.queue ∧ (s.windDown n next).sorter.windows = s.sorter.windows ∧
    (s.windDown n next).sorter.capacity = s.sorter.capacity ∧ (s.windDown n next).sorter.lamps = s.sorter.lamps ∧
    (s.windDown n next).sorter.generation = s.sorter.generation ∧
    (s.windDown n next).sorter.dropInputs = s.sorter.dropInputs ∧
    (s.windDown n next).sorter.clearInputs = s.sorter.clearInputs := by
  unfold State.windDown
  simp

/-- What `State.reject` leaves alone. -/
@[simp] theorem State.reject_keeps (order index attempt : Nat) (s : State) :
    (s.reject order index attempt).inReset = s.inReset ∧ (s.reject order index attempt).now = s.now ∧
    (s.reject order index attempt).store = s.store ∧ (s.reject order index attempt).commands = s.commands ∧
    (s.reject order index attempt).exposure = s.exposure ∧ (s.reject order index attempt).monitor = s.monitor ∧
    (s.reject order index attempt).cutter = s.cutter ∧ (s.reject order index attempt).price = s.price ∧
    (s.reject order index attempt).outputs = s.outputs ∧ (s.reject order index attempt).pending = s.pending ∧
    (s.reject order index attempt).link.receiver = s.link.receiver ∧
    (s.reject order index attempt).link.breakHeld = s.link.breakHeld ∧
    (s.reject order index attempt).link.spacing = s.link.spacing ∧
    (s.reject order index attempt).link.availableStream = s.link.availableStream ∧
    (s.reject order index attempt).link.availableCommand = s.link.availableCommand ∧
    (s.reject order index attempt).link.returnedStream = s.link.returnedStream ∧
    (s.reject order index attempt).link.returnedCommand = s.link.returnedCommand ∧
    (s.reject order index attempt).link.transmitting = s.link.transmitting ∧
    (s.reject order index attempt).link.transmitterFreeAt = s.link.transmitterFreeAt ∧
    (s.reject order index attempt).alerts.estop = s.alerts.estop ∧
    (s.reject order index attempt).alerts.jam = s.alerts.jam ∧ (s.reject order index attempt).path.run = s.path.run ∧
    (s.reject order index attempt).path.haltCause = s.path.haltCause ∧
    (s.reject order index attempt).path.drainCause = s.path.drainCause ∧
    (s.reject order index attempt).path.position = s.path.position ∧
    (s.reject order index attempt).path.dwell = s.path.dwell ∧
    (s.reject order index attempt).path.params = s.path.params ∧
    (s.reject order index attempt).path.generation = s.path.generation ∧
    (s.reject order index attempt).path.rampDue = s.path.rampDue ∧
    (s.reject order index attempt).sorter.tray = s.sorter.tray ∧
    (s.reject order index attempt).sorter.queue = s.sorter.queue ∧
    (s.reject order index attempt).sorter.windows = s.sorter.windows ∧
    (s.reject order index attempt).sorter.capacity = s.sorter.capacity ∧
    (s.reject order index attempt).sorter.lamps = s.sorter.lamps ∧
    (s.reject order index attempt).sorter.generation = s.sorter.generation ∧
    (s.reject order index attempt).sorter.dropInputs = s.sorter.dropInputs ∧
    (s.reject order index attempt).sorter.clearInputs = s.sorter.clearInputs := by
  unfold State.reject
  split
  · simp
  · split
    · dsimp only
      split <;> simp
    · dsimp only
      split <;> simp
    · simp
    · simp
    · simp

/-- What `State.discardStaged` leaves alone. -/
@[simp] theorem State.discardStaged_keeps (r : RejectReason) (m : ReaderMode) (s : State) :
    (s.discardStaged r m).inReset = s.inReset ∧ (s.discardStaged r m).now = s.now ∧
    (s.discardStaged r m).store = s.store ∧ (s.discardStaged r m).commands = s.commands ∧
    (s.discardStaged r m).exposure = s.exposure ∧ (s.discardStaged r m).monitor = s.monitor ∧
    (s.discardStaged r m).cutter = s.cutter ∧ (s.discardStaged r m).price = s.price ∧
    (s.discardStaged r m).outputs = s.outputs ∧ (s.discardStaged r m).pending = s.pending ∧
    (s.discardStaged r m).link.receiver = s.link.receiver ∧ (s.discardStaged r m).link.breakHeld = s.link.breakHeld ∧
    (s.discardStaged r m).link.spacing = s.link.spacing ∧
    (s.discardStaged r m).link.availableStream = s.link.availableStream ∧
    (s.discardStaged r m).link.availableCommand = s.link.availableCommand ∧
    (s.discardStaged r m).link.returnedStream = s.link.returnedStream ∧
    (s.discardStaged r m).link.returnedCommand = s.link.returnedCommand ∧
    (s.discardStaged r m).link.transmitting = s.link.transmitting ∧
    (s.discardStaged r m).link.transmitterFreeAt = s.link.transmitterFreeAt ∧
    (s.discardStaged r m).alerts.estop = s.alerts.estop ∧ (s.discardStaged r m).alerts.jam = s.alerts.jam ∧
    (s.discardStaged r m).path.run = s.path.run ∧ (s.discardStaged r m).path.haltCause = s.path.haltCause ∧
    (s.discardStaged r m).path.drainCause = s.path.drainCause ∧
    (s.discardStaged r m).path.position = s.path.position ∧ (s.discardStaged r m).path.dwell = s.path.dwell ∧
    (s.discardStaged r m).path.params = s.path.params ∧ (s.discardStaged r m).path.generation = s.path.generation ∧
    (s.discardStaged r m).path.rampDue = s.path.rampDue ∧ (s.discardStaged r m).sorter.tray = s.sorter.tray ∧
    (s.discardStaged r m).sorter.queue = s.sorter.queue ∧ (s.discardStaged r m).sorter.windows = s.sorter.windows ∧
    (s.discardStaged r m).sorter.capacity = s.sorter.capacity ∧ (s.discardStaged r m).sorter.lamps = s.sorter.lamps ∧
    (s.discardStaged r m).sorter.generation = s.sorter.generation ∧
    (s.discardStaged r m).sorter.dropInputs = s.sorter.dropInputs ∧
    (s.discardStaged r m).sorter.clearInputs = s.sorter.clearInputs := by
  unfold State.discardStaged
  split <;> simp

/-- What `State.countReasons` leaves alone. -/
@[simp] theorem State.countReasons_keeps (l : List RejectReason) (s : State) :
    (s.countReasons l).inReset = s.inReset ∧ (s.countReasons l).now = s.now ∧ (s.countReasons l).link = s.link ∧
    (s.countReasons l).store = s.store ∧ (s.countReasons l).commands = s.commands ∧
    (s.countReasons l).reader = s.reader ∧ (s.countReasons l).orders = s.orders ∧
    (s.countReasons l).exposure = s.exposure ∧ (s.countReasons l).path = s.path ∧
    (s.countReasons l).monitor = s.monitor ∧ (s.countReasons l).cutter = s.cutter ∧
    (s.countReasons l).sorter = s.sorter ∧ (s.countReasons l).price = s.price ∧
    (s.countReasons l).outputs = s.outputs ∧ (s.countReasons l).freeTags = s.freeTags ∧
    (s.countReasons l).pending = s.pending ∧ (s.countReasons l).alerts.causes = s.alerts.causes ∧
    (s.countReasons l).alerts.estop = s.alerts.estop ∧ (s.countReasons l).alerts.jam = s.alerts.jam := by
  unfold State.countReasons
  induction l generalizing s with
  | nil => simp
  | cons a l ih => have h := ih (s.bump (.rejected a)); simp_all

/-- What `State.rejectPrint` leaves alone. -/
@[simp] theorem State.rejectPrint_keeps (p : PrintRecord) (l : List RejectReason) (s : State) :
    (s.rejectPrint p l).inReset = s.inReset ∧ (s.rejectPrint p l).now = s.now ∧ (s.rejectPrint p l).store = s.store ∧
    (s.rejectPrint p l).commands = s.commands ∧ (s.rejectPrint p l).exposure = s.exposure ∧
    (s.rejectPrint p l).monitor = s.monitor ∧ (s.rejectPrint p l).cutter = s.cutter ∧
    (s.rejectPrint p l).price = s.price ∧ (s.rejectPrint p l).outputs = s.outputs ∧
    (s.rejectPrint p l).pending = s.pending ∧ (s.rejectPrint p l).link.receiver = s.link.receiver ∧
    (s.rejectPrint p l).link.breakHeld = s.link.breakHeld ∧ (s.rejectPrint p l).link.spacing = s.link.spacing ∧
    (s.rejectPrint p l).link.availableStream = s.link.availableStream ∧
    (s.rejectPrint p l).link.availableCommand = s.link.availableCommand ∧
    (s.rejectPrint p l).link.returnedStream = s.link.returnedStream ∧
    (s.rejectPrint p l).link.returnedCommand = s.link.returnedCommand ∧
    (s.rejectPrint p l).link.transmitting = s.link.transmitting ∧
    (s.rejectPrint p l).link.transmitterFreeAt = s.link.transmitterFreeAt ∧
    (s.rejectPrint p l).alerts.estop = s.alerts.estop ∧ (s.rejectPrint p l).alerts.jam = s.alerts.jam ∧
    (s.rejectPrint p l).path.run = s.path.run ∧ (s.rejectPrint p l).path.haltCause = s.path.haltCause ∧
    (s.rejectPrint p l).path.drainCause = s.path.drainCause ∧ (s.rejectPrint p l).path.position = s.path.position ∧
    (s.rejectPrint p l).path.dwell = s.path.dwell ∧ (s.rejectPrint p l).path.params = s.path.params ∧
    (s.rejectPrint p l).path.generation = s.path.generation ∧ (s.rejectPrint p l).path.rampDue = s.path.rampDue ∧
    (s.rejectPrint p l).sorter.tray = s.sorter.tray ∧ (s.rejectPrint p l).sorter.queue = s.sorter.queue ∧
    (s.rejectPrint p l).sorter.windows = s.sorter.windows ∧ (s.rejectPrint p l).sorter.capacity = s.sorter.capacity ∧
    (s.rejectPrint p l).sorter.lamps = s.sorter.lamps ∧ (s.rejectPrint p l).sorter.generation = s.sorter.generation ∧
    (s.rejectPrint p l).sorter.dropInputs = s.sorter.dropInputs ∧
    (s.rejectPrint p l).sorter.clearInputs = s.sorter.clearInputs := by
  unfold State.rejectPrint
  simp

/-- What `State.engineTake` leaves alone. -/
@[simp] theorem State.engineTake_keeps (s : State) :
    (s.engineTake).inReset = s.inReset ∧ (s.engineTake).now = s.now ∧ (s.engineTake).link = s.link ∧
    (s.engineTake).store = s.store ∧ (s.engineTake).commands = s.commands ∧ (s.engineTake).reader = s.reader ∧
    (s.engineTake).orders = s.orders ∧ (s.engineTake).exposure = s.exposure ∧ (s.engineTake).path = s.path ∧
    (s.engineTake).monitor = s.monitor ∧ (s.engineTake).cutter = s.cutter ∧ (s.engineTake).sorter = s.sorter ∧
    (s.engineTake).alerts = s.alerts ∧ (s.engineTake).outputs = s.outputs ∧ (s.engineTake).freeTags = s.freeTags ∧
    (s.engineTake).pending = s.pending ∧ (s.engineTake).price.rows = s.price.rows ∧
    (s.engineTake).price.surcharges = s.price.surcharges ∧
    (s.engineTake).price.priceGeneration = s.price.priceGeneration ∧
    (s.engineTake).price.promotions = s.price.promotions ∧
    (s.engineTake).price.promoGeneration = s.price.promoGeneration := by
  unfold State.engineTake
  split <;> simp

/-- What `State.completionTest` leaves alone. -/
@[simp] theorem State.completionTest_keeps (n : Nat) (s : State) :
    (s.completionTest n).inReset = s.inReset ∧ (s.completionTest n).now = s.now ∧
    (s.completionTest n).link = s.link ∧ (s.completionTest n).store = s.store ∧
    (s.completionTest n).commands = s.commands ∧ (s.completionTest n).reader = s.reader ∧
    (s.completionTest n).exposure = s.exposure ∧ (s.completionTest n).path = s.path ∧
    (s.completionTest n).monitor = s.monitor ∧ (s.completionTest n).cutter = s.cutter ∧
    (s.completionTest n).sorter = s.sorter ∧ (s.completionTest n).alerts = s.alerts ∧
    (s.completionTest n).outputs = s.outputs ∧ (s.completionTest n).freeTags = s.freeTags ∧
    (s.completionTest n).pending = s.pending ∧ (s.completionTest n).price.rows = s.price.rows ∧
    (s.completionTest n).price.surcharges = s.price.surcharges ∧
    (s.completionTest n).price.priceGeneration = s.price.priceGeneration ∧
    (s.completionTest n).price.promotions = s.price.promotions ∧
    (s.completionTest n).price.promoGeneration = s.price.promoGeneration := by
  unfold State.completionTest
  repeat' split
  all_goals simp

/-- What `State.deliver` leaves alone. -/
@[simp] theorem State.deliver_keeps (p : PrintRecord) (s : State) :
    (s.deliver p).inReset = s.inReset ∧ (s.deliver p).now = s.now ∧ (s.deliver p).store = s.store ∧
    (s.deliver p).commands = s.commands ∧ (s.deliver p).reader = s.reader ∧ (s.deliver p).exposure = s.exposure ∧
    (s.deliver p).path = s.path ∧ (s.deliver p).monitor = s.monitor ∧ (s.deliver p).cutter = s.cutter ∧
    (s.deliver p).alerts = s.alerts ∧ (s.deliver p).outputs = s.outputs ∧ (s.deliver p).pending = s.pending ∧
    (s.deliver p).price.rows = s.price.rows ∧ (s.deliver p).price.surcharges = s.price.surcharges ∧
    (s.deliver p).price.priceGeneration = s.price.priceGeneration ∧
    (s.deliver p).price.promotions = s.price.promotions ∧
    (s.deliver p).price.promoGeneration = s.price.promoGeneration ∧ (s.deliver p).sorter.tray = s.sorter.tray ∧
    (s.deliver p).sorter.queue = s.sorter.queue ∧ (s.deliver p).sorter.windows = s.sorter.windows ∧
    (s.deliver p).sorter.capacity = s.sorter.capacity ∧ (s.deliver p).sorter.lamps = s.sorter.lamps ∧
    (s.deliver p).sorter.generation = s.sorter.generation ∧ (s.deliver p).sorter.dropInputs = s.sorter.dropInputs ∧
    (s.deliver p).sorter.clearInputs = s.sorter.clearInputs ∧ (s.deliver p).link.receiver = s.link.receiver ∧
    (s.deliver p).link.breakHeld = s.link.breakHeld ∧ (s.deliver p).link.spacing = s.link.spacing ∧
    (s.deliver p).link.availableStream = s.link.availableStream ∧
    (s.deliver p).link.availableCommand = s.link.availableCommand ∧
    (s.deliver p).link.returnedStream = s.link.returnedStream ∧
    (s.deliver p).link.returnedCommand = s.link.returnedCommand ∧
    (s.deliver p).link.transmitting = s.link.transmitting ∧
    (s.deliver p).link.transmitterFreeAt = s.link.transmitterFreeAt := by
  unfold State.deliver
  repeat' split
  all_goals simp

/-- What `State.setGroup` leaves alone. -/
@[simp] theorem State.setGroup_keeps (p : PrintRecord) (s : State) :
    (s.setGroup p).inReset = s.inReset ∧ (s.setGroup p).now = s.now ∧ (s.setGroup p).link = s.link ∧
    (s.setGroup p).store = s.store ∧ (s.setGroup p).commands = s.commands ∧ (s.setGroup p).reader = s.reader ∧
    (s.setGroup p).exposure = s.exposure ∧ (s.setGroup p).path = s.path ∧ (s.setGroup p).monitor = s.monitor ∧
    (s.setGroup p).cutter = s.cutter ∧ (s.setGroup p).sorter = s.sorter ∧ (s.setGroup p).price = s.price ∧
    (s.setGroup p).alerts = s.alerts ∧ (s.setGroup p).outputs = s.outputs ∧ (s.setGroup p).freeTags = s.freeTags ∧
    (s.setGroup p).pending = s.pending := by
  unfold State.setGroup
  split <;> simp

/-- What `State.orderPriced` leaves alone. -/
@[simp] theorem State.orderPriced_keeps (r : Order) (s : State) :
    (s.orderPriced r).inReset = s.inReset ∧ (s.orderPriced r).now = s.now ∧ (s.orderPriced r).store = s.store ∧
    (s.orderPriced r).commands = s.commands ∧ (s.orderPriced r).reader = s.reader ∧
    (s.orderPriced r).exposure = s.exposure ∧ (s.orderPriced r).path = s.path ∧
    (s.orderPriced r).monitor = s.monitor ∧ (s.orderPriced r).cutter = s.cutter ∧ (s.orderPriced r).price = s.price ∧
    (s.orderPriced r).alerts = s.alerts ∧ (s.orderPriced r).outputs = s.outputs ∧
    (s.orderPriced r).pending = s.pending ∧ (s.orderPriced r).sorter.tray = s.sorter.tray ∧
    (s.orderPriced r).sorter.queue = s.sorter.queue ∧ (s.orderPriced r).sorter.windows = s.sorter.windows ∧
    (s.orderPriced r).sorter.capacity = s.sorter.capacity ∧ (s.orderPriced r).sorter.lamps = s.sorter.lamps ∧
    (s.orderPriced r).sorter.generation = s.sorter.generation ∧
    (s.orderPriced r).sorter.dropInputs = s.sorter.dropInputs ∧
    (s.orderPriced r).sorter.clearInputs = s.sorter.clearInputs ∧ (s.orderPriced r).link.receiver = s.link.receiver ∧
    (s.orderPriced r).link.breakHeld = s.link.breakHeld ∧ (s.orderPriced r).link.spacing = s.link.spacing ∧
    (s.orderPriced r).link.availableStream = s.link.availableStream ∧
    (s.orderPriced r).link.availableCommand = s.link.availableCommand ∧
    (s.orderPriced r).link.returnedStream = s.link.returnedStream ∧
    (s.orderPriced r).link.returnedCommand = s.link.returnedCommand ∧
    (s.orderPriced r).link.transmitting = s.link.transmitting ∧
    (s.orderPriced r).link.transmitterFreeAt = s.link.transmitterFreeAt := by
  unfold State.orderPriced
  simp

/-- What `State.lendBin` leaves alone. -/
@[simp] theorem State.lendBin_keeps (n : Nat) (r : Order) (s : State) :
    (s.lendBin n r).inReset = s.inReset ∧ (s.lendBin n r).now = s.now ∧ (s.lendBin n r).link = s.link ∧
    (s.lendBin n r).store = s.store ∧ (s.lendBin n r).commands = s.commands ∧ (s.lendBin n r).reader = s.reader ∧
    (s.lendBin n r).exposure = s.exposure ∧ (s.lendBin n r).path = s.path ∧ (s.lendBin n r).monitor = s.monitor ∧
    (s.lendBin n r).cutter = s.cutter ∧ (s.lendBin n r).price = s.price ∧ (s.lendBin n r).alerts = s.alerts ∧
    (s.lendBin n r).outputs = s.outputs ∧ (s.lendBin n r).freeTags = s.freeTags ∧
    (s.lendBin n r).pending = s.pending ∧ (s.lendBin n r).sorter.tray = s.sorter.tray ∧
    (s.lendBin n r).sorter.queue = s.sorter.queue ∧ (s.lendBin n r).sorter.windows = s.sorter.windows ∧
    (s.lendBin n r).sorter.capacity = s.sorter.capacity ∧ (s.lendBin n r).sorter.lamps = s.sorter.lamps ∧
    (s.lendBin n r).sorter.generation = s.sorter.generation ∧
    (s.lendBin n r).sorter.dropInputs = s.sorter.dropInputs ∧
    (s.lendBin n r).sorter.clearInputs = s.sorter.clearInputs := by
  unfold State.lendBin
  simp

/-- What `State.addPending` leaves alone. -/
@[simp] theorem State.addPending_keeps (t : Target) (s : State) :
    (s.addPending t).inReset = s.inReset ∧ (s.addPending t).now = s.now ∧ (s.addPending t).link = s.link ∧
    (s.addPending t).store = s.store ∧ (s.addPending t).commands = s.commands ∧ (s.addPending t).reader = s.reader ∧
    (s.addPending t).orders = s.orders ∧ (s.addPending t).exposure = s.exposure ∧ (s.addPending t).path = s.path ∧
    (s.addPending t).monitor = s.monitor ∧ (s.addPending t).cutter = s.cutter ∧ (s.addPending t).price = s.price ∧
    (s.addPending t).alerts = s.alerts ∧ (s.addPending t).outputs = s.outputs ∧
    (s.addPending t).freeTags = s.freeTags ∧ (s.addPending t).pending = s.pending ∧
    (s.addPending t).sorter.queue = s.sorter.queue ∧ (s.addPending t).sorter.windows = s.sorter.windows ∧
    (s.addPending t).sorter.capacity = s.sorter.capacity ∧ (s.addPending t).sorter.lamps = s.sorter.lamps ∧
    (s.addPending t).sorter.generation = s.sorter.generation ∧
    (s.addPending t).sorter.dropInputs = s.sorter.dropInputs ∧
    (s.addPending t).sorter.clearInputs = s.sorter.clearInputs := by
  cases t <;> simp [State.addPending]

/-- What `State.dropPending` leaves alone. -/
@[simp] theorem State.dropPending_keeps (t : Target) (s : State) :
    (s.dropPending t).inReset = s.inReset ∧ (s.dropPending t).now = s.now ∧ (s.dropPending t).link = s.link ∧
    (s.dropPending t).store = s.store ∧ (s.dropPending t).commands = s.commands ∧
    (s.dropPending t).reader = s.reader ∧ (s.dropPending t).orders = s.orders ∧
    (s.dropPending t).exposure = s.exposure ∧ (s.dropPending t).path = s.path ∧
    (s.dropPending t).monitor = s.monitor ∧ (s.dropPending t).cutter = s.cutter ∧ (s.dropPending t).price = s.price ∧
    (s.dropPending t).alerts = s.alerts ∧ (s.dropPending t).outputs = s.outputs ∧
    (s.dropPending t).freeTags = s.freeTags ∧ (s.dropPending t).pending = s.pending ∧
    (s.dropPending t).sorter.queue = s.sorter.queue ∧ (s.dropPending t).sorter.windows = s.sorter.windows ∧
    (s.dropPending t).sorter.capacity = s.sorter.capacity ∧ (s.dropPending t).sorter.lamps = s.sorter.lamps ∧
    (s.dropPending t).sorter.generation = s.sorter.generation ∧
    (s.dropPending t).sorter.dropInputs = s.sorter.dropInputs ∧
    (s.dropPending t).sorter.clearInputs = s.sorter.clearInputs := by
  cases t <;> simp [State.dropPending]

/-- What `State.assign` leaves alone. -/
@[simp] theorem State.assign_keeps (r : Order) (s : State) :
    (s.assign r).2.inReset = s.inReset ∧ (s.assign r).2.now = s.now ∧ (s.assign r).2.store = s.store ∧
    (s.assign r).2.commands = s.commands ∧ (s.assign r).2.reader = s.reader ∧ (s.assign r).2.exposure = s.exposure ∧
    (s.assign r).2.path = s.path ∧ (s.assign r).2.monitor = s.monitor ∧ (s.assign r).2.cutter = s.cutter ∧
    (s.assign r).2.price = s.price ∧ (s.assign r).2.outputs = s.outputs ∧ (s.assign r).2.pending = s.pending ∧
    (s.assign r).2.sorter.tray = s.sorter.tray ∧ (s.assign r).2.sorter.queue = s.sorter.queue ∧
    (s.assign r).2.sorter.windows = s.sorter.windows ∧ (s.assign r).2.sorter.capacity = s.sorter.capacity ∧
    (s.assign r).2.sorter.lamps = s.sorter.lamps ∧ (s.assign r).2.sorter.generation = s.sorter.generation ∧
    (s.assign r).2.sorter.dropInputs = s.sorter.dropInputs ∧
    (s.assign r).2.sorter.clearInputs = s.sorter.clearInputs ∧ (s.assign r).2.link.receiver = s.link.receiver ∧
    (s.assign r).2.link.breakHeld = s.link.breakHeld ∧ (s.assign r).2.link.spacing = s.link.spacing ∧
    (s.assign r).2.link.availableStream = s.link.availableStream ∧
    (s.assign r).2.link.availableCommand = s.link.availableCommand ∧
    (s.assign r).2.link.returnedStream = s.link.returnedStream ∧
    (s.assign r).2.link.returnedCommand = s.link.returnedCommand ∧
    (s.assign r).2.link.transmitting = s.link.transmitting ∧
    (s.assign r).2.link.transmitterFreeAt = s.link.transmitterFreeAt ∧
    (s.assign r).2.alerts.counters = s.alerts.counters ∧ (s.assign r).2.alerts.estop = s.alerts.estop ∧
    (s.assign r).2.alerts.jam = s.alerts.jam := by
  unfold State.assign
  repeat' split
  all_goals simp

/-- What `State.joinSorter` leaves alone. -/
@[simp] theorem State.joinSorter_keeps (p : PrintRecord) (t : Target) (s : State) :
    (s.joinSorter p t).inReset = s.inReset ∧ (s.joinSorter p t).now = s.now ∧ (s.joinSorter p t).link = s.link ∧
    (s.joinSorter p t).store = s.store ∧ (s.joinSorter p t).commands = s.commands ∧
    (s.joinSorter p t).reader = s.reader ∧ (s.joinSorter p t).orders = s.orders ∧
    (s.joinSorter p t).exposure = s.exposure ∧ (s.joinSorter p t).path = s.path ∧
    (s.joinSorter p t).monitor = s.monitor ∧ (s.joinSorter p t).cutter = s.cutter ∧
    (s.joinSorter p t).price = s.price ∧ (s.joinSorter p t).alerts = s.alerts ∧
    (s.joinSorter p t).outputs = s.outputs ∧ (s.joinSorter p t).freeTags = s.freeTags ∧
    (s.joinSorter p t).pending = s.pending ∧ (s.joinSorter p t).sorter.windows = s.sorter.windows ∧
    (s.joinSorter p t).sorter.capacity = s.sorter.capacity ∧ (s.joinSorter p t).sorter.lamps = s.sorter.lamps ∧
    (s.joinSorter p t).sorter.generation = s.sorter.generation ∧
    (s.joinSorter p t).sorter.dropInputs = s.sorter.dropInputs ∧
    (s.joinSorter p t).sorter.clearInputs = s.sorter.clearInputs := by
  unfold State.joinSorter
  simp

/-- What `State.sortPrint` leaves alone. -/
@[simp] theorem State.sortPrint_keeps (p : PrintRecord) (s : State) :
    (s.sortPrint p).2.inReset = s.inReset ∧ (s.sortPrint p).2.now = s.now ∧ (s.sortPrint p).2.store = s.store ∧
    (s.sortPrint p).2.commands = s.commands ∧ (s.sortPrint p).2.reader = s.reader ∧
    (s.sortPrint p).2.exposure = s.exposure ∧ (s.sortPrint p).2.path = s.path ∧
    (s.sortPrint p).2.monitor = s.monitor ∧ (s.sortPrint p).2.cutter = s.cutter ∧ (s.sortPrint p).2.price = s.price ∧
    (s.sortPrint p).2.outputs = s.outputs ∧ (s.sortPrint p).2.pending = s.pending ∧
    (s.sortPrint p).2.sorter.windows = s.sorter.windows ∧ (s.sortPrint p).2.sorter.capacity = s.sorter.capacity ∧
    (s.sortPrint p).2.sorter.lamps = s.sorter.lamps ∧ (s.sortPrint p).2.sorter.generation = s.sorter.generation ∧
    (s.sortPrint p).2.sorter.dropInputs = s.sorter.dropInputs ∧
    (s.sortPrint p).2.sorter.clearInputs = s.sorter.clearInputs ∧ (s.sortPrint p).2.link.receiver = s.link.receiver ∧
    (s.sortPrint p).2.link.breakHeld = s.link.breakHeld ∧ (s.sortPrint p).2.link.spacing = s.link.spacing ∧
    (s.sortPrint p).2.link.availableStream = s.link.availableStream ∧
    (s.sortPrint p).2.link.availableCommand = s.link.availableCommand ∧
    (s.sortPrint p).2.link.returnedStream = s.link.returnedStream ∧
    (s.sortPrint p).2.link.returnedCommand = s.link.returnedCommand ∧
    (s.sortPrint p).2.link.transmitting = s.link.transmitting ∧
    (s.sortPrint p).2.link.transmitterFreeAt = s.link.transmitterFreeAt ∧
    (s.sortPrint p).2.alerts.counters = s.alerts.counters ∧ (s.sortPrint p).2.alerts.estop = s.alerts.estop ∧
    (s.sortPrint p).2.alerts.jam = s.alerts.jam := by
  have h := State.assign_keeps
  unfold State.sortPrint
  dsimp only
  repeat' split
  · simp
  · simp
  · rename_i r _ _ _ _ e
    have k := h r (s.setGroup p)
    simp only [e] at k
    simp_all
  · rename_i r _ _ _ e
    have k := h r (s.setGroup p)
    simp only [e] at k
    simp_all

/-- What `State.popSorter` leaves alone. -/
@[simp] theorem State.popSorter_keeps (s : State) :
    (s.popSorter).inReset = s.inReset ∧ (s.popSorter).now = s.now ∧ (s.popSorter).link = s.link ∧
    (s.popSorter).store = s.store ∧ (s.popSorter).commands = s.commands ∧ (s.popSorter).reader = s.reader ∧
    (s.popSorter).orders = s.orders ∧ (s.popSorter).exposure = s.exposure ∧ (s.popSorter).path = s.path ∧
    (s.popSorter).monitor = s.monitor ∧ (s.popSorter).cutter = s.cutter ∧ (s.popSorter).price = s.price ∧
    (s.popSorter).alerts = s.alerts ∧ (s.popSorter).outputs = s.outputs ∧ (s.popSorter).freeTags = s.freeTags ∧
    (s.popSorter).pending = s.pending ∧ (s.popSorter).sorter.windows = s.sorter.windows ∧
    (s.popSorter).sorter.capacity = s.sorter.capacity ∧ (s.popSorter).sorter.lamps = s.sorter.lamps ∧
    (s.popSorter).sorter.generation = s.sorter.generation ∧ (s.popSorter).sorter.dropInputs = s.sorter.dropInputs ∧
    (s.popSorter).sorter.clearInputs = s.sorter.clearInputs := by
  unfold State.popSorter
  split <;> simp

/-- What `State.countInto` leaves alone. -/
@[simp] theorem State.countInto_keeps (t : Target) (s : State) :
    (s.countInto t).inReset = s.inReset ∧ (s.countInto t).now = s.now ∧ (s.countInto t).link = s.link ∧
    (s.countInto t).store = s.store ∧ (s.countInto t).commands = s.commands ∧ (s.countInto t).reader = s.reader ∧
    (s.countInto t).orders = s.orders ∧ (s.countInto t).exposure = s.exposure ∧ (s.countInto t).path = s.path ∧
    (s.countInto t).monitor = s.monitor ∧ (s.countInto t).cutter = s.cutter ∧ (s.countInto t).price = s.price ∧
    (s.countInto t).alerts = s.alerts ∧ (s.countInto t).outputs = s.outputs ∧ (s.countInto t).freeTags = s.freeTags ∧
    (s.countInto t).pending = s.pending ∧ (s.countInto t).sorter.queue = s.sorter.queue ∧
    (s.countInto t).sorter.windows = s.sorter.windows ∧ (s.countInto t).sorter.capacity = s.sorter.capacity ∧
    (s.countInto t).sorter.lamps = s.sorter.lamps ∧ (s.countInto t).sorter.generation = s.sorter.generation ∧
    (s.countInto t).sorter.dropInputs = s.sorter.dropInputs ∧
    (s.countInto t).sorter.clearInputs = s.sorter.clearInputs := by
  cases t <;> simp [State.countInto]

/-- What `State.deliverAt` leaves alone. -/
@[simp] theorem State.deliverAt_keeps (p : PrintRecord) (t : Target) (s : State) :
    (s.deliverAt p t).inReset = s.inReset ∧ (s.deliverAt p t).now = s.now ∧ (s.deliverAt p t).store = s.store ∧
    (s.deliverAt p t).commands = s.commands ∧ (s.deliverAt p t).reader = s.reader ∧
    (s.deliverAt p t).exposure = s.exposure ∧ (s.deliverAt p t).path = s.path ∧
    (s.deliverAt p t).monitor = s.monitor ∧ (s.deliverAt p t).cutter = s.cutter ∧
    (s.deliverAt p t).outputs = s.outputs ∧ (s.deliverAt p t).pending = s.pending ∧
    (s.deliverAt p t).price.rows = s.price.rows ∧ (s.deliverAt p t).price.surcharges = s.price.surcharges ∧
    (s.deliverAt p t).price.priceGeneration = s.price.priceGeneration ∧
    (s.deliverAt p t).price.promotions = s.price.promotions ∧
    (s.deliverAt p t).price.promoGeneration = s.price.promoGeneration ∧
    (s.deliverAt p t).sorter.tray = s.sorter.tray ∧ (s.deliverAt p t).sorter.queue = s.sorter.queue ∧
    (s.deliverAt p t).sorter.windows = s.sorter.windows ∧ (s.deliverAt p t).sorter.capacity = s.sorter.capacity ∧
    (s.deliverAt p t).sorter.lamps = s.sorter.lamps ∧ (s.deliverAt p t).sorter.generation = s.sorter.generation ∧
    (s.deliverAt p t).sorter.dropInputs = s.sorter.dropInputs ∧
    (s.deliverAt p t).sorter.clearInputs = s.sorter.clearInputs ∧ (s.deliverAt p t).link.receiver = s.link.receiver ∧
    (s.deliverAt p t).link.breakHeld = s.link.breakHeld ∧ (s.deliverAt p t).link.spacing = s.link.spacing ∧
    (s.deliverAt p t).link.availableStream = s.link.availableStream ∧
    (s.deliverAt p t).link.availableCommand = s.link.availableCommand ∧
    (s.deliverAt p t).link.returnedStream = s.link.returnedStream ∧
    (s.deliverAt p t).link.returnedCommand = s.link.returnedCommand ∧
    (s.deliverAt p t).link.transmitting = s.link.transmitting ∧
    (s.deliverAt p t).link.transmitterFreeAt = s.link.transmitterFreeAt ∧
    (s.deliverAt p t).alerts.causes = s.alerts.causes ∧ (s.deliverAt p t).alerts.estop = s.alerts.estop ∧
    (s.deliverAt p t).alerts.jam = s.alerts.jam := by
  unfold State.deliverAt
  simp

/-- What `State.loseOldest` leaves alone. -/
@[simp] theorem State.loseOldest_keeps (s : State) :
    (s.loseOldest).inReset = s.inReset ∧ (s.loseOldest).now = s.now ∧ (s.loseOldest).store = s.store ∧
    (s.loseOldest).commands = s.commands ∧ (s.loseOldest).exposure = s.exposure ∧
    (s.loseOldest).monitor = s.monitor ∧ (s.loseOldest).cutter = s.cutter ∧ (s.loseOldest).price = s.price ∧
    (s.loseOldest).outputs = s.outputs ∧ (s.loseOldest).pending = s.pending ∧
    (s.loseOldest).link.receiver = s.link.receiver ∧ (s.loseOldest).link.breakHeld = s.link.breakHeld ∧
    (s.loseOldest).link.spacing = s.link.spacing ∧ (s.loseOldest).link.availableStream = s.link.availableStream ∧
    (s.loseOldest).link.availableCommand = s.link.availableCommand ∧
    (s.loseOldest).link.returnedStream = s.link.returnedStream ∧
    (s.loseOldest).link.returnedCommand = s.link.returnedCommand ∧
    (s.loseOldest).link.transmitting = s.link.transmitting ∧
    (s.loseOldest).link.transmitterFreeAt = s.link.transmitterFreeAt ∧ (s.loseOldest).alerts.estop = s.alerts.estop ∧
    (s.loseOldest).alerts.jam = s.alerts.jam ∧ (s.loseOldest).path.run = s.path.run ∧
    (s.loseOldest).path.haltCause = s.path.haltCause ∧ (s.loseOldest).path.drainCause = s.path.drainCause ∧
    (s.loseOldest).path.position = s.path.position ∧ (s.loseOldest).path.dwell = s.path.dwell ∧
    (s.loseOldest).path.params = s.path.params ∧ (s.loseOldest).path.generation = s.path.generation ∧
    (s.loseOldest).path.rampDue = s.path.rampDue ∧ (s.loseOldest).sorter.windows = s.sorter.windows ∧
    (s.loseOldest).sorter.capacity = s.sorter.capacity ∧ (s.loseOldest).sorter.lamps = s.sorter.lamps ∧
    (s.loseOldest).sorter.generation = s.sorter.generation ∧ (s.loseOldest).sorter.dropInputs = s.sorter.dropInputs ∧
    (s.loseOldest).sorter.clearInputs = s.sorter.clearInputs := by
  unfold State.loseOldest
  split <;> simp

/-- What `State.deliverOldest` leaves alone. -/
@[simp] theorem State.deliverOldest_keeps (s : State) :
    (s.deliverOldest).inReset = s.inReset ∧ (s.deliverOldest).now = s.now ∧ (s.deliverOldest).store = s.store ∧
    (s.deliverOldest).commands = s.commands ∧ (s.deliverOldest).reader = s.reader ∧
    (s.deliverOldest).exposure = s.exposure ∧ (s.deliverOldest).path = s.path ∧
    (s.deliverOldest).monitor = s.monitor ∧ (s.deliverOldest).cutter = s.cutter ∧
    (s.deliverOldest).outputs = s.outputs ∧ (s.deliverOldest).pending = s.pending ∧
    (s.deliverOldest).price.rows = s.price.rows ∧ (s.deliverOldest).price.surcharges = s.price.surcharges ∧
    (s.deliverOldest).price.priceGeneration = s.price.priceGeneration ∧
    (s.deliverOldest).price.promotions = s.price.promotions ∧
    (s.deliverOldest).price.promoGeneration = s.price.promoGeneration ∧
    (s.deliverOldest).sorter.windows = s.sorter.windows ∧ (s.deliverOldest).sorter.capacity = s.sorter.capacity ∧
    (s.deliverOldest).sorter.lamps = s.sorter.lamps ∧ (s.deliverOldest).sorter.generation = s.sorter.generation ∧
    (s.deliverOldest).sorter.dropInputs = s.sorter.dropInputs ∧
    (s.deliverOldest).sorter.clearInputs = s.sorter.clearInputs ∧ (s.deliverOldest).link.receiver = s.link.receiver ∧
    (s.deliverOldest).link.breakHeld = s.link.breakHeld ∧ (s.deliverOldest).link.spacing = s.link.spacing ∧
    (s.deliverOldest).link.availableStream = s.link.availableStream ∧
    (s.deliverOldest).link.availableCommand = s.link.availableCommand ∧
    (s.deliverOldest).link.returnedStream = s.link.returnedStream ∧
    (s.deliverOldest).link.returnedCommand = s.link.returnedCommand ∧
    (s.deliverOldest).link.transmitting = s.link.transmitting ∧
    (s.deliverOldest).link.transmitterFreeAt = s.link.transmitterFreeAt ∧
    (s.deliverOldest).alerts.causes = s.alerts.causes ∧ (s.deliverOldest).alerts.estop = s.alerts.estop ∧
    (s.deliverOldest).alerts.jam = s.alerts.jam := by
  unfold State.deliverOldest
  split <;> simp

/-- What `State.attendOwner` leaves alone. -/
@[simp] theorem State.attendOwner_keeps (n : Nat) (e : Option Nat) (s : State) :
    (s.attendOwner n e).inReset = s.inReset ∧ (s.attendOwner n e).now = s.now ∧ (s.attendOwner n e).link = s.link ∧
    (s.attendOwner n e).store = s.store ∧ (s.attendOwner n e).commands = s.commands ∧
    (s.attendOwner n e).reader = s.reader ∧ (s.attendOwner n e).exposure = s.exposure ∧
    (s.attendOwner n e).path = s.path ∧ (s.attendOwner n e).monitor = s.monitor ∧
    (s.attendOwner n e).cutter = s.cutter ∧ (s.attendOwner n e).sorter = s.sorter ∧
    (s.attendOwner n e).price = s.price ∧ (s.attendOwner n e).alerts = s.alerts ∧
    (s.attendOwner n e).outputs = s.outputs ∧ (s.attendOwner n e).freeTags = s.freeTags ∧
    (s.attendOwner n e).pending = s.pending := by
  unfold State.attendOwner
  repeat' split
  all_goals simp

/-- What `State.markStray` leaves alone. -/
@[simp] theorem State.markStray_keeps (t : Target) (e : Option Nat) (s : State) :
    (s.markStray t e).inReset = s.inReset ∧ (s.markStray t e).now = s.now ∧ (s.markStray t e).store = s.store ∧
    (s.markStray t e).commands = s.commands ∧ (s.markStray t e).reader = s.reader ∧
    (s.markStray t e).exposure = s.exposure ∧ (s.markStray t e).path = s.path ∧
    (s.markStray t e).monitor = s.monitor ∧ (s.markStray t e).cutter = s.cutter ∧ (s.markStray t e).price = s.price ∧
    (s.markStray t e).outputs = s.outputs ∧ (s.markStray t e).pending = s.pending ∧
    (s.markStray t e).sorter.queue = s.sorter.queue ∧ (s.markStray t e).sorter.windows = s.sorter.windows ∧
    (s.markStray t e).sorter.capacity = s.sorter.capacity ∧ (s.markStray t e).sorter.lamps = s.sorter.lamps ∧
    (s.markStray t e).sorter.generation = s.sorter.generation ∧
    (s.markStray t e).sorter.dropInputs = s.sorter.dropInputs ∧
    (s.markStray t e).sorter.clearInputs = s.sorter.clearInputs ∧ (s.markStray t e).link.receiver = s.link.receiver ∧
    (s.markStray t e).link.breakHeld = s.link.breakHeld ∧ (s.markStray t e).link.spacing = s.link.spacing ∧
    (s.markStray t e).link.availableStream = s.link.availableStream ∧
    (s.markStray t e).link.availableCommand = s.link.availableCommand ∧
    (s.markStray t e).link.returnedStream = s.link.returnedStream ∧
    (s.markStray t e).link.returnedCommand = s.link.returnedCommand ∧
    (s.markStray t e).link.transmitting = s.link.transmitting ∧
    (s.markStray t e).link.transmitterFreeAt = s.link.transmitterFreeAt ∧
    (s.markStray t e).alerts.counters = s.alerts.counters ∧ (s.markStray t e).alerts.estop = s.alerts.estop ∧
    (s.markStray t e).alerts.jam = s.alerts.jam := by
  cases t <;> simp [State.markStray]

/-- What `State.misdeliver` leaves alone. -/
@[simp] theorem State.misdeliver_keeps (t : Target) (s : State) :
    (s.misdeliver t).inReset = s.inReset ∧ (s.misdeliver t).now = s.now ∧ (s.misdeliver t).store = s.store ∧
    (s.misdeliver t).commands = s.commands ∧ (s.misdeliver t).reader = s.reader ∧
    (s.misdeliver t).exposure = s.exposure ∧ (s.misdeliver t).path = s.path ∧ (s.misdeliver t).monitor = s.monitor ∧
    (s.misdeliver t).cutter = s.cutter ∧ (s.misdeliver t).outputs = s.outputs ∧
    (s.misdeliver t).pending = s.pending ∧ (s.misdeliver t).price.rows = s.price.rows ∧
    (s.misdeliver t).price.surcharges = s.price.surcharges ∧
    (s.misdeliver t).price.priceGeneration = s.price.priceGeneration ∧
    (s.misdeliver t).price.promotions = s.price.promotions ∧
    (s.misdeliver t).price.promoGeneration = s.price.promoGeneration ∧
    (s.misdeliver t).sorter.windows = s.sorter.windows ∧ (s.misdeliver t).sorter.capacity = s.sorter.capacity ∧
    (s.misdeliver t).sorter.lamps = s.sorter.lamps ∧ (s.misdeliver t).sorter.generation = s.sorter.generation ∧
    (s.misdeliver t).sorter.dropInputs = s.sorter.dropInputs ∧
    (s.misdeliver t).sorter.clearInputs = s.sorter.clearInputs ∧ (s.misdeliver t).link.receiver = s.link.receiver ∧
    (s.misdeliver t).link.breakHeld = s.link.breakHeld ∧ (s.misdeliver t).link.spacing = s.link.spacing ∧
    (s.misdeliver t).link.availableStream = s.link.availableStream ∧
    (s.misdeliver t).link.availableCommand = s.link.availableCommand ∧
    (s.misdeliver t).link.returnedStream = s.link.returnedStream ∧
    (s.misdeliver t).link.returnedCommand = s.link.returnedCommand ∧
    (s.misdeliver t).link.transmitting = s.link.transmitting ∧
    (s.misdeliver t).link.transmitterFreeAt = s.link.transmitterFreeAt ∧
    (s.misdeliver t).alerts.estop = s.alerts.estop ∧ (s.misdeliver t).alerts.jam = s.alerts.jam := by
  unfold State.misdeliver
  split <;> simp

/-- What `State.judgeDrop` leaves alone. -/
@[simp] theorem State.judgeDrop_keeps (t : Target) (s : State) :
    (s.judgeDrop t).inReset = s.inReset ∧ (s.judgeDrop t).now = s.now ∧ (s.judgeDrop t).store = s.store ∧
    (s.judgeDrop t).commands = s.commands ∧ (s.judgeDrop t).exposure = s.exposure ∧
    (s.judgeDrop t).monitor = s.monitor ∧ (s.judgeDrop t).cutter = s.cutter ∧ (s.judgeDrop t).outputs = s.outputs ∧
    (s.judgeDrop t).pending = s.pending ∧ (s.judgeDrop t).price.rows = s.price.rows ∧
    (s.judgeDrop t).price.surcharges = s.price.surcharges ∧
    (s.judgeDrop t).price.priceGeneration = s.price.priceGeneration ∧
    (s.judgeDrop t).price.promotions = s.price.promotions ∧
    (s.judgeDrop t).price.promoGeneration = s.price.promoGeneration ∧
    (s.judgeDrop t).sorter.windows = s.sorter.windows ∧ (s.judgeDrop t).sorter.capacity = s.sorter.capacity ∧
    (s.judgeDrop t).sorter.lamps = s.sorter.lamps ∧ (s.judgeDrop t).sorter.generation = s.sorter.generation ∧
    (s.judgeDrop t).sorter.dropInputs = s.sorter.dropInputs ∧
    (s.judgeDrop t).sorter.clearInputs = s.sorter.clearInputs ∧ (s.judgeDrop t).link.receiver = s.link.receiver ∧
    (s.judgeDrop t).link.breakHeld = s.link.breakHeld ∧ (s.judgeDrop t).link.spacing = s.link.spacing ∧
    (s.judgeDrop t).link.availableStream = s.link.availableStream ∧
    (s.judgeDrop t).link.availableCommand = s.link.availableCommand ∧
    (s.judgeDrop t).link.returnedStream = s.link.returnedStream ∧
    (s.judgeDrop t).link.returnedCommand = s.link.returnedCommand ∧
    (s.judgeDrop t).link.transmitting = s.link.transmitting ∧
    (s.judgeDrop t).link.transmitterFreeAt = s.link.transmitterFreeAt ∧
    (s.judgeDrop t).alerts.estop = s.alerts.estop ∧ (s.judgeDrop t).alerts.jam = s.alerts.jam ∧
    (s.judgeDrop t).path.run = s.path.run ∧ (s.judgeDrop t).path.haltCause = s.path.haltCause ∧
    (s.judgeDrop t).path.drainCause = s.path.drainCause ∧ (s.judgeDrop t).path.position = s.path.position ∧
    (s.judgeDrop t).path.dwell = s.path.dwell ∧ (s.judgeDrop t).path.params = s.path.params ∧
    (s.judgeDrop t).path.generation = s.path.generation ∧ (s.judgeDrop t).path.rampDue = s.path.rampDue := by
  unfold State.judgeDrop
  repeat' split
  all_goals simp

/-- What `State.expireOldest` leaves alone. -/
@[simp] theorem State.expireOldest_keeps (fuel : Nat) (s : State) :
    (s.expireOldest fuel).inReset = s.inReset ∧ (s.expireOldest fuel).now = s.now ∧
    (s.expireOldest fuel).store = s.store ∧ (s.expireOldest fuel).commands = s.commands ∧
    (s.expireOldest fuel).exposure = s.exposure ∧ (s.expireOldest fuel).monitor = s.monitor ∧
    (s.expireOldest fuel).cutter = s.cutter ∧ (s.expireOldest fuel).price = s.price ∧
    (s.expireOldest fuel).outputs = s.outputs ∧ (s.expireOldest fuel).pending = s.pending ∧
    (s.expireOldest fuel).sorter.windows = s.sorter.windows ∧
    (s.expireOldest fuel).sorter.capacity = s.sorter.capacity ∧ (s.expireOldest fuel).sorter.lamps = s.sorter.lamps ∧
    (s.expireOldest fuel).sorter.generation = s.sorter.generation ∧
    (s.expireOldest fuel).sorter.dropInputs = s.sorter.dropInputs ∧
    (s.expireOldest fuel).sorter.clearInputs = s.sorter.clearInputs ∧
    (s.expireOldest fuel).link.receiver = s.link.receiver ∧ (s.expireOldest fuel).link.breakHeld = s.link.breakHeld ∧
    (s.expireOldest fuel).link.spacing = s.link.spacing ∧
    (s.expireOldest fuel).link.availableStream = s.link.availableStream ∧
    (s.expireOldest fuel).link.availableCommand = s.link.availableCommand ∧
    (s.expireOldest fuel).link.returnedStream = s.link.returnedStream ∧
    (s.expireOldest fuel).link.returnedCommand = s.link.returnedCommand ∧
    (s.expireOldest fuel).link.transmitting = s.link.transmitting ∧
    (s.expireOldest fuel).link.transmitterFreeAt = s.link.transmitterFreeAt ∧
    (s.expireOldest fuel).alerts.estop = s.alerts.estop ∧ (s.expireOldest fuel).alerts.jam = s.alerts.jam ∧
    (s.expireOldest fuel).path.run = s.path.run ∧ (s.expireOldest fuel).path.haltCause = s.path.haltCause ∧
    (s.expireOldest fuel).path.drainCause = s.path.drainCause ∧
    (s.expireOldest fuel).path.position = s.path.position ∧ (s.expireOldest fuel).path.dwell = s.path.dwell ∧
    (s.expireOldest fuel).path.params = s.path.params ∧ (s.expireOldest fuel).path.generation = s.path.generation ∧
    (s.expireOldest fuel).path.rampDue = s.path.rampDue := by
  induction fuel generalizing s with
  | zero => simp [State.expireOldest]
  | succ n ih =>
    unfold State.expireOldest
    repeat' split
    · have h := ih s.loseOldest; simp_all
    all_goals simp

/-- What `State.expire` leaves alone. -/
@[simp] theorem State.expire_keeps (s : State) :
    (s.expire).inReset = s.inReset ∧ (s.expire).now = s.now ∧ (s.expire).store = s.store ∧
    (s.expire).commands = s.commands ∧ (s.expire).exposure = s.exposure ∧ (s.expire).monitor = s.monitor ∧
    (s.expire).cutter = s.cutter ∧ (s.expire).price = s.price ∧ (s.expire).outputs = s.outputs ∧
    (s.expire).pending = s.pending ∧ (s.expire).sorter.windows = s.sorter.windows ∧
    (s.expire).sorter.capacity = s.sorter.capacity ∧ (s.expire).sorter.lamps = s.sorter.lamps ∧
    (s.expire).sorter.generation = s.sorter.generation ∧ (s.expire).sorter.dropInputs = s.sorter.dropInputs ∧
    (s.expire).sorter.clearInputs = s.sorter.clearInputs ∧ (s.expire).link.receiver = s.link.receiver ∧
    (s.expire).link.breakHeld = s.link.breakHeld ∧ (s.expire).link.spacing = s.link.spacing ∧
    (s.expire).link.availableStream = s.link.availableStream ∧
    (s.expire).link.availableCommand = s.link.availableCommand ∧
    (s.expire).link.returnedStream = s.link.returnedStream ∧
    (s.expire).link.returnedCommand = s.link.returnedCommand ∧ (s.expire).link.transmitting = s.link.transmitting ∧
    (s.expire).link.transmitterFreeAt = s.link.transmitterFreeAt ∧ (s.expire).alerts.estop = s.alerts.estop ∧
    (s.expire).alerts.jam = s.alerts.jam ∧ (s.expire).path.run = s.path.run ∧
    (s.expire).path.haltCause = s.path.haltCause ∧ (s.expire).path.drainCause = s.path.drainCause ∧
    (s.expire).path.position = s.path.position ∧ (s.expire).path.dwell = s.path.dwell ∧
    (s.expire).path.params = s.path.params ∧ (s.expire).path.generation = s.path.generation ∧
    (s.expire).path.rampDue = s.path.rampDue := by
  unfold State.expire
  simp

/-- What `State.clearBin` leaves alone. -/
@[simp] theorem State.clearBin_keeps (n : Nat) (s : State) :
    (s.clearBin n).inReset = s.inReset ∧ (s.clearBin n).now = s.now ∧ (s.clearBin n).link = s.link ∧
    (s.clearBin n).store = s.store ∧ (s.clearBin n).commands = s.commands ∧ (s.clearBin n).reader = s.reader ∧
    (s.clearBin n).exposure = s.exposure ∧ (s.clearBin n).path = s.path ∧ (s.clearBin n).monitor = s.monitor ∧
    (s.clearBin n).cutter = s.cutter ∧ (s.clearBin n).price = s.price ∧ (s.clearBin n).alerts = s.alerts ∧
    (s.clearBin n).outputs = s.outputs ∧ (s.clearBin n).freeTags = s.freeTags ∧ (s.clearBin n).pending = s.pending ∧
    (s.clearBin n).sorter.tray = s.sorter.tray ∧ (s.clearBin n).sorter.queue = s.sorter.queue ∧
    (s.clearBin n).sorter.windows = s.sorter.windows ∧ (s.clearBin n).sorter.capacity = s.sorter.capacity ∧
    (s.clearBin n).sorter.lamps = s.sorter.lamps ∧ (s.clearBin n).sorter.generation = s.sorter.generation ∧
    (s.clearBin n).sorter.dropInputs = s.sorter.dropInputs ∧ (s.clearBin n).sorter.clearInputs = s.sorter.clearInputs := by
  unfold State.clearBin
  repeat' split
  all_goals simp

/-- What `State.stopStepping` leaves alone. -/
@[simp] theorem State.stopStepping_keeps (s : State) :
    (s.stopStepping).inReset = s.inReset ∧ (s.stopStepping).now = s.now ∧ (s.stopStepping).link = s.link ∧
    (s.stopStepping).store = s.store ∧ (s.stopStepping).commands = s.commands ∧ (s.stopStepping).reader = s.reader ∧
    (s.stopStepping).orders = s.orders ∧ (s.stopStepping).monitor = s.monitor ∧ (s.stopStepping).cutter = s.cutter ∧
    (s.stopStepping).sorter = s.sorter ∧ (s.stopStepping).price = s.price ∧ (s.stopStepping).alerts = s.alerts ∧
    (s.stopStepping).outputs = s.outputs ∧ (s.stopStepping).freeTags = s.freeTags ∧
    (s.stopStepping).pending = s.pending ∧ (s.stopStepping).path.run = s.path.run ∧
    (s.stopStepping).path.haltCause = s.path.haltCause ∧ (s.stopStepping).path.drainCause = s.path.drainCause ∧
    (s.stopStepping).path.position = s.path.position ∧ (s.stopStepping).path.dwell = s.path.dwell ∧
    (s.stopStepping).path.params = s.path.params ∧ (s.stopStepping).path.generation = s.path.generation ∧
    (s.stopStepping).path.rampDue = s.path.rampDue ∧ (s.stopStepping).exposure.profiles = s.exposure.profiles ∧
    (s.stopStepping).exposure.luts = s.exposure.luts ∧ (s.stopStepping).exposure.thermal = s.exposure.thermal ∧
    (s.stopStepping).exposure.sizes = s.exposure.sizes ∧ (s.stopStepping).exposure.paper = s.exposure.paper ∧
    (s.stopStepping).exposure.profileGeneration = s.exposure.profileGeneration ∧
    (s.stopStepping).exposure.lutGeneration = s.exposure.lutGeneration ∧
    (s.stopStepping).exposure.thermalGeneration = s.exposure.thermalGeneration ∧
    (s.stopStepping).exposure.sizeGeneration = s.exposure.sizeGeneration ∧
    (s.stopStepping).exposure.paperGeneration = s.exposure.paperGeneration ∧
    (s.stopStepping).exposure.reload = s.exposure.reload ∧ (s.stopStepping).exposure.stepDue = s.exposure.stepDue := by
  unfold State.stopStepping
  simp

/-- What `State.endExposure` leaves alone. -/
@[simp] theorem State.endExposure_keeps (s : State) :
    (s.endExposure).inReset = s.inReset ∧ (s.endExposure).now = s.now ∧ (s.endExposure).link = s.link ∧
    (s.endExposure).store = s.store ∧ (s.endExposure).commands = s.commands ∧ (s.endExposure).orders = s.orders ∧
    (s.endExposure).exposure = s.exposure ∧ (s.endExposure).monitor = s.monitor ∧ (s.endExposure).cutter = s.cutter ∧
    (s.endExposure).sorter = s.sorter ∧ (s.endExposure).price = s.price ∧ (s.endExposure).alerts = s.alerts ∧
    (s.endExposure).outputs = s.outputs ∧ (s.endExposure).freeTags = s.freeTags ∧
    (s.endExposure).pending = s.pending ∧ (s.endExposure).path.run = s.path.run ∧
    (s.endExposure).path.haltCause = s.path.haltCause ∧ (s.endExposure).path.drainCause = s.path.drainCause ∧
    (s.endExposure).path.position = s.path.position ∧ (s.endExposure).path.dwell = s.path.dwell ∧
    (s.endExposure).path.params = s.path.params ∧ (s.endExposure).path.generation = s.path.generation ∧
    (s.endExposure).path.rampDue = s.path.rampDue := by
  unfold State.endExposure
  split <;> simp

/-- What `State.halt` leaves alone. -/
@[simp] theorem State.halt_keeps (c : HaltCause) (s : State) :
    (s.halt c).inReset = s.inReset ∧ (s.halt c).now = s.now ∧ (s.halt c).link = s.link ∧ (s.halt c).store = s.store ∧
    (s.halt c).commands = s.commands ∧ (s.halt c).orders = s.orders ∧ (s.halt c).monitor = s.monitor ∧
    (s.halt c).cutter = s.cutter ∧ (s.halt c).sorter = s.sorter ∧ (s.halt c).price = s.price ∧
    (s.halt c).alerts = s.alerts ∧ (s.halt c).outputs = s.outputs ∧ (s.halt c).freeTags = s.freeTags ∧
    (s.halt c).pending = s.pending ∧ (s.halt c).path.position = s.path.position ∧
    (s.halt c).path.params = s.path.params ∧ (s.halt c).path.generation = s.path.generation ∧
    (s.halt c).exposure.profiles = s.exposure.profiles ∧ (s.halt c).exposure.luts = s.exposure.luts ∧
    (s.halt c).exposure.thermal = s.exposure.thermal ∧ (s.halt c).exposure.sizes = s.exposure.sizes ∧
    (s.halt c).exposure.paper = s.exposure.paper ∧
    (s.halt c).exposure.profileGeneration = s.exposure.profileGeneration ∧
    (s.halt c).exposure.lutGeneration = s.exposure.lutGeneration ∧
    (s.halt c).exposure.thermalGeneration = s.exposure.thermalGeneration ∧
    (s.halt c).exposure.sizeGeneration = s.exposure.sizeGeneration ∧
    (s.halt c).exposure.paperGeneration = s.exposure.paperGeneration ∧
    (s.halt c).exposure.reload = s.exposure.reload ∧ (s.halt c).exposure.stepDue = s.exposure.stepDue := by
  unfold State.halt
  simp

/-- What `State.haltIfMoving` leaves alone. -/
@[simp] theorem State.haltIfMoving_keeps (c : HaltCause) (s : State) :
    (s.haltIfMoving c).inReset = s.inReset ∧ (s.haltIfMoving c).now = s.now ∧ (s.haltIfMoving c).link = s.link ∧
    (s.haltIfMoving c).store = s.store ∧ (s.haltIfMoving c).commands = s.commands ∧
    (s.haltIfMoving c).orders = s.orders ∧ (s.haltIfMoving c).monitor = s.monitor ∧
    (s.haltIfMoving c).cutter = s.cutter ∧ (s.haltIfMoving c).sorter = s.sorter ∧
    (s.haltIfMoving c).price = s.price ∧ (s.haltIfMoving c).alerts = s.alerts ∧
    (s.haltIfMoving c).outputs = s.outputs ∧ (s.haltIfMoving c).freeTags = s.freeTags ∧
    (s.haltIfMoving c).pending = s.pending ∧ (s.haltIfMoving c).path.position = s.path.position ∧
    (s.haltIfMoving c).path.params = s.path.params ∧ (s.haltIfMoving c).path.generation = s.path.generation ∧
    (s.haltIfMoving c).exposure.profiles = s.exposure.profiles ∧ (s.haltIfMoving c).exposure.luts = s.exposure.luts ∧
    (s.haltIfMoving c).exposure.thermal = s.exposure.thermal ∧ (s.haltIfMoving c).exposure.sizes = s.exposure.sizes ∧
    (s.haltIfMoving c).exposure.paper = s.exposure.paper ∧
    (s.haltIfMoving c).exposure.profileGeneration = s.exposure.profileGeneration ∧
    (s.haltIfMoving c).exposure.lutGeneration = s.exposure.lutGeneration ∧
    (s.haltIfMoving c).exposure.thermalGeneration = s.exposure.thermalGeneration ∧
    (s.haltIfMoving c).exposure.sizeGeneration = s.exposure.sizeGeneration ∧
    (s.haltIfMoving c).exposure.paperGeneration = s.exposure.paperGeneration ∧
    (s.haltIfMoving c).exposure.reload = s.exposure.reload ∧ (s.haltIfMoving c).exposure.stepDue = s.exposure.stepDue := by
  unfold State.haltIfMoving
  split <;> simp

/-- What `State.endDrain` leaves alone. -/
@[simp] theorem State.endDrain_keeps (s : State) :
    (s.endDrain).inReset = s.inReset ∧ (s.endDrain).now = s.now ∧ (s.endDrain).store = s.store ∧
    (s.endDrain).commands = s.commands ∧ (s.endDrain).monitor = s.monitor ∧ (s.endDrain).cutter = s.cutter ∧
    (s.endDrain).price = s.price ∧ (s.endDrain).outputs = s.outputs ∧ (s.endDrain).pending = s.pending ∧
    (s.endDrain).path.position = s.path.position ∧ (s.endDrain).path.params = s.path.params ∧
    (s.endDrain).path.generation = s.path.generation ∧ (s.endDrain).exposure.profiles = s.exposure.profiles ∧
    (s.endDrain).exposure.luts = s.exposure.luts ∧ (s.endDrain).exposure.thermal = s.exposure.thermal ∧
    (s.endDrain).exposure.sizes = s.exposure.sizes ∧ (s.endDrain).exposure.paper = s.exposure.paper ∧
    (s.endDrain).exposure.profileGeneration = s.exposure.profileGeneration ∧
    (s.endDrain).exposure.lutGeneration = s.exposure.lutGeneration ∧
    (s.endDrain).exposure.thermalGeneration = s.exposure.thermalGeneration ∧
    (s.endDrain).exposure.sizeGeneration = s.exposure.sizeGeneration ∧
    (s.endDrain).exposure.paperGeneration = s.exposure.paperGeneration ∧
    (s.endDrain).exposure.reload = s.exposure.reload ∧ (s.endDrain).exposure.stepDue = s.exposure.stepDue ∧
    (s.endDrain).link.receiver = s.link.receiver ∧ (s.endDrain).link.breakHeld = s.link.breakHeld ∧
    (s.endDrain).link.spacing = s.link.spacing ∧ (s.endDrain).link.availableStream = s.link.availableStream ∧
    (s.endDrain).link.availableCommand = s.link.availableCommand ∧
    (s.endDrain).link.returnedStream = s.link.returnedStream ∧
    (s.endDrain).link.returnedCommand = s.link.returnedCommand ∧
    (s.endDrain).link.transmitting = s.link.transmitting ∧
    (s.endDrain).link.transmitterFreeAt = s.link.transmitterFreeAt ∧ (s.endDrain).alerts.estop = s.alerts.estop ∧
    (s.endDrain).alerts.jam = s.alerts.jam ∧ (s.endDrain).sorter.tray = s.sorter.tray ∧
    (s.endDrain).sorter.queue = s.sorter.queue ∧ (s.endDrain).sorter.windows = s.sorter.windows ∧
    (s.endDrain).sorter.capacity = s.sorter.capacity ∧ (s.endDrain).sorter.lamps = s.sorter.lamps ∧
    (s.endDrain).sorter.generation = s.sorter.generation ∧ (s.endDrain).sorter.dropInputs = s.sorter.dropInputs ∧
    (s.endDrain).sorter.clearInputs = s.sorter.clearInputs := by
  unfold State.endDrain
  dsimp only
  split <;> simp

/-- What `State.beginSegment` leaves alone. -/
@[simp] theorem State.beginSegment_keeps (k : SegmentKind) (n : Nat) (p : Option PrintRecord) (s : State) :
    (s.beginSegment k n p).inReset = s.inReset ∧ (s.beginSegment k n p).now = s.now ∧
    (s.beginSegment k n p).link = s.link ∧ (s.beginSegment k n p).store = s.store ∧
    (s.beginSegment k n p).commands = s.commands ∧ (s.beginSegment k n p).reader = s.reader ∧
    (s.beginSegment k n p).orders = s.orders ∧ (s.beginSegment k n p).exposure = s.exposure ∧
    (s.beginSegment k n p).monitor = s.monitor ∧ (s.beginSegment k n p).sorter = s.sorter ∧
    (s.beginSegment k n p).price = s.price ∧ (s.beginSegment k n p).alerts = s.alerts ∧
    (s.beginSegment k n p).freeTags = s.freeTags ∧ (s.beginSegment k n p).pending = s.pending ∧
    (s.beginSegment k n p).path.run = s.path.run ∧ (s.beginSegment k n p).path.haltCause = s.path.haltCause ∧
    (s.beginSegment k n p).path.drainCause = s.path.drainCause ∧
    (s.beginSegment k n p).path.position = s.path.position ∧ (s.beginSegment k n p).path.dwell = s.path.dwell ∧
    (s.beginSegment k n p).path.params = s.path.params ∧ (s.beginSegment k n p).path.generation = s.path.generation ∧
    (s.beginSegment k n p).path.rampDue = s.path.rampDue ∧ (s.beginSegment k n p).outputs.flap = s.outputs.flap ∧
    (s.beginSegment k n p).outputs.stepPulse = s.outputs.stepPulse ∧
    (s.beginSegment k n p).outputs.firePulse = s.outputs.firePulse ∧
    (s.beginSegment k n p).cutter.delta = s.cutter.delta ∧ (s.beginSegment k n p).cutter.cutList = s.cutter.cutList ∧
    (s.beginSegment k n p).cutter.progress = s.cutter.progress ∧
    (s.beginSegment k n p).cutter.consecutive = s.cutter.consecutive ∧
    (s.beginSegment k n p).cutter.missing = s.cutter.missing ∧
    (s.beginSegment k n p).cutter.spurious = s.cutter.spurious ∧
    (s.beginSegment k n p).cutter.lastSample = s.cutter.lastSample ∧
    (s.beginSegment k n p).cutter.qualified = s.cutter.qualified ∧
    (s.beginSegment k n p).cutter.lastPurgeCut = s.cutter.lastPurgeCut := by
  unfold State.beginSegment
  simp

/-- What `State.beginWaste` leaves alone. -/
@[simp] theorem State.beginWaste_keeps (s : State) :
    (s.beginWaste).inReset = s.inReset ∧ (s.beginWaste).now = s.now ∧ (s.beginWaste).link = s.link ∧
    (s.beginWaste).store = s.store ∧ (s.beginWaste).commands = s.commands ∧ (s.beginWaste).reader = s.reader ∧
    (s.beginWaste).orders = s.orders ∧ (s.beginWaste).exposure = s.exposure ∧ (s.beginWaste).monitor = s.monitor ∧
    (s.beginWaste).sorter = s.sorter ∧ (s.beginWaste).price = s.price ∧ (s.beginWaste).alerts = s.alerts ∧
    (s.beginWaste).freeTags = s.freeTags ∧ (s.beginWaste).pending = s.pending ∧
    (s.beginWaste).path.run = s.path.run ∧ (s.beginWaste).path.haltCause = s.path.haltCause ∧
    (s.beginWaste).path.drainCause = s.path.drainCause ∧ (s.beginWaste).path.position = s.path.position ∧
    (s.beginWaste).path.dwell = s.path.dwell ∧ (s.beginWaste).path.params = s.path.params ∧
    (s.beginWaste).path.generation = s.path.generation ∧ (s.beginWaste).path.rampDue = s.path.rampDue ∧
    (s.beginWaste).outputs.flap = s.outputs.flap ∧ (s.beginWaste).outputs.stepPulse = s.outputs.stepPulse ∧
    (s.beginWaste).outputs.firePulse = s.outputs.firePulse ∧ (s.beginWaste).cutter.delta = s.cutter.delta ∧
    (s.beginWaste).cutter.cutList = s.cutter.cutList ∧ (s.beginWaste).cutter.progress = s.cutter.progress ∧
    (s.beginWaste).cutter.consecutive = s.cutter.consecutive ∧ (s.beginWaste).cutter.missing = s.cutter.missing ∧
    (s.beginWaste).cutter.spurious = s.cutter.spurious ∧ (s.beginWaste).cutter.lastSample = s.cutter.lastSample ∧
    (s.beginWaste).cutter.qualified = s.cutter.qualified ∧ (s.beginWaste).cutter.lastPurgeCut = s.cutter.lastPurgeCut := by
  unfold State.beginWaste
  simp

/-- What `State.startPrint` leaves alone. -/
@[simp] theorem State.startPrint_keeps (p : PrintRecord) (s : State) :
    (s.startPrint p).inReset = s.inReset ∧ (s.startPrint p).now = s.now ∧ (s.startPrint p).link = s.link ∧
    (s.startPrint p).store = s.store ∧ (s.startPrint p).commands = s.commands ∧ (s.startPrint p).orders = s.orders ∧
    (s.startPrint p).exposure = s.exposure ∧ (s.startPrint p).monitor = s.monitor ∧
    (s.startPrint p).sorter = s.sorter ∧ (s.startPrint p).price = s.price ∧ (s.startPrint p).alerts = s.alerts ∧
    (s.startPrint p).freeTags = s.freeTags ∧ (s.startPrint p).pending = s.pending ∧
    (s.startPrint p).path.run = s.path.run ∧ (s.startPrint p).path.haltCause = s.path.haltCause ∧
    (s.startPrint p).path.drainCause = s.path.drainCause ∧ (s.startPrint p).path.position = s.path.position ∧
    (s.startPrint p).path.dwell = s.path.dwell ∧ (s.startPrint p).path.params = s.path.params ∧
    (s.startPrint p).path.generation = s.path.generation ∧ (s.startPrint p).path.rampDue = s.path.rampDue ∧
    (s.startPrint p).outputs.flap = s.outputs.flap ∧ (s.startPrint p).outputs.stepPulse = s.outputs.stepPulse ∧
    (s.startPrint p).outputs.firePulse = s.outputs.firePulse ∧ (s.startPrint p).cutter.delta = s.cutter.delta ∧
    (s.startPrint p).cutter.cutList = s.cutter.cutList ∧ (s.startPrint p).cutter.progress = s.cutter.progress ∧
    (s.startPrint p).cutter.consecutive = s.cutter.consecutive ∧ (s.startPrint p).cutter.missing = s.cutter.missing ∧
    (s.startPrint p).cutter.spurious = s.cutter.spurious ∧ (s.startPrint p).cutter.lastSample = s.cutter.lastSample ∧
    (s.startPrint p).cutter.qualified = s.cutter.qualified ∧
    (s.startPrint p).cutter.lastPurgeCut = s.cutter.lastPurgeCut := by
  unfold State.startPrint
  simp

/-- What `State.drainForPaper` leaves alone. -/
@[simp] theorem State.drainForPaper_keeps (s : State) :
    s.drainForPaper.1.inReset = s.inReset ∧ s.drainForPaper.1.now = s.now ∧ s.drainForPaper.1.store = s.store ∧
    s.drainForPaper.1.commands = s.commands ∧ s.drainForPaper.1.monitor = s.monitor ∧
    s.drainForPaper.1.price = s.price ∧ s.drainForPaper.1.pending = s.pending ∧
    s.drainForPaper.1.path.position = s.path.position ∧ s.drainForPaper.1.path.params = s.path.params ∧
    s.drainForPaper.1.path.generation = s.path.generation ∧
    s.drainForPaper.1.exposure.profiles = s.exposure.profiles ∧ s.drainForPaper.1.exposure.luts = s.exposure.luts ∧
    s.drainForPaper.1.exposure.thermal = s.exposure.thermal ∧ s.drainForPaper.1.exposure.sizes = s.exposure.sizes ∧
    s.drainForPaper.1.exposure.paper = s.exposure.paper ∧
    s.drainForPaper.1.exposure.profileGeneration = s.exposure.profileGeneration ∧
    s.drainForPaper.1.exposure.lutGeneration = s.exposure.lutGeneration ∧
    s.drainForPaper.1.exposure.thermalGeneration = s.exposure.thermalGeneration ∧
    s.drainForPaper.1.exposure.sizeGeneration = s.exposure.sizeGeneration ∧
    s.drainForPaper.1.exposure.paperGeneration = s.exposure.paperGeneration ∧
    s.drainForPaper.1.exposure.reload = s.exposure.reload ∧ s.drainForPaper.1.exposure.stepDue = s.exposure.stepDue ∧
    s.drainForPaper.1.link.receiver = s.link.receiver ∧ s.drainForPaper.1.link.breakHeld = s.link.breakHeld ∧
    s.drainForPaper.1.link.spacing = s.link.spacing ∧
    s.drainForPaper.1.link.availableStream = s.link.availableStream ∧
    s.drainForPaper.1.link.availableCommand = s.link.availableCommand ∧
    s.drainForPaper.1.link.returnedStream = s.link.returnedStream ∧
    s.drainForPaper.1.link.returnedCommand = s.link.returnedCommand ∧
    s.drainForPaper.1.link.transmitting = s.link.transmitting ∧
    s.drainForPaper.1.link.transmitterFreeAt = s.link.transmitterFreeAt ∧
    s.drainForPaper.1.alerts.estop = s.alerts.estop ∧ s.drainForPaper.1.alerts.jam = s.alerts.jam ∧
    s.drainForPaper.1.sorter.tray = s.sorter.tray ∧ s.drainForPaper.1.sorter.queue = s.sorter.queue ∧
    s.drainForPaper.1.sorter.windows = s.sorter.windows ∧ s.drainForPaper.1.sorter.capacity = s.sorter.capacity ∧
    s.drainForPaper.1.sorter.lamps = s.sorter.lamps ∧ s.drainForPaper.1.sorter.generation = s.sorter.generation ∧
    s.drainForPaper.1.sorter.dropInputs = s.sorter.dropInputs ∧
    s.drainForPaper.1.sorter.clearInputs = s.sorter.clearInputs ∧ s.drainForPaper.1.outputs.flap = s.outputs.flap ∧
    s.drainForPaper.1.outputs.stepPulse = s.outputs.stepPulse ∧
    s.drainForPaper.1.outputs.firePulse = s.outputs.firePulse ∧ s.drainForPaper.1.cutter.delta = s.cutter.delta ∧
    s.drainForPaper.1.cutter.cutList = s.cutter.cutList ∧ s.drainForPaper.1.cutter.progress = s.cutter.progress ∧
    s.drainForPaper.1.cutter.consecutive = s.cutter.consecutive ∧
    s.drainForPaper.1.cutter.missing = s.cutter.missing ∧ s.drainForPaper.1.cutter.spurious = s.cutter.spurious ∧
    s.drainForPaper.1.cutter.lastSample = s.cutter.lastSample ∧
    s.drainForPaper.1.cutter.qualified = s.cutter.qualified ∧
    s.drainForPaper.1.cutter.lastPurgeCut = s.cutter.lastPurgeCut := by
  unfold State.drainForPaper
  dsimp only
  split <;> simp

/-- What `State.chooseRunning` leaves alone. -/
@[simp] theorem State.chooseRunning_keeps (s : State) :
    s.chooseRunning.1.inReset = s.inReset ∧ s.chooseRunning.1.now = s.now ∧ s.chooseRunning.1.store = s.store ∧
    s.chooseRunning.1.commands = s.commands ∧ s.chooseRunning.1.monitor = s.monitor ∧
    s.chooseRunning.1.price = s.price ∧ s.chooseRunning.1.pending = s.pending ∧
    s.chooseRunning.1.path.position = s.path.position ∧ s.chooseRunning.1.path.params = s.path.params ∧
    s.chooseRunning.1.path.generation = s.path.generation ∧
    s.chooseRunning.1.exposure.profiles = s.exposure.profiles ∧ s.chooseRunning.1.exposure.luts = s.exposure.luts ∧
    s.chooseRunning.1.exposure.thermal = s.exposure.thermal ∧ s.chooseRunning.1.exposure.sizes = s.exposure.sizes ∧
    s.chooseRunning.1.exposure.paper = s.exposure.paper ∧
    s.chooseRunning.1.exposure.profileGeneration = s.exposure.profileGeneration ∧
    s.chooseRunning.1.exposure.lutGeneration = s.exposure.lutGeneration ∧
    s.chooseRunning.1.exposure.thermalGeneration = s.exposure.thermalGeneration ∧
    s.chooseRunning.1.exposure.sizeGeneration = s.exposure.sizeGeneration ∧
    s.chooseRunning.1.exposure.paperGeneration = s.exposure.paperGeneration ∧
    s.chooseRunning.1.exposure.reload = s.exposure.reload ∧ s.chooseRunning.1.exposure.stepDue = s.exposure.stepDue ∧
    s.chooseRunning.1.link.receiver = s.link.receiver ∧ s.chooseRunning.1.link.breakHeld = s.link.breakHeld ∧
    s.chooseRunning.1.link.spacing = s.link.spacing ∧
    s.chooseRunning.1.link.availableStream = s.link.availableStream ∧
    s.chooseRunning.1.link.availableCommand = s.link.availableCommand ∧
    s.chooseRunning.1.link.returnedStream = s.link.returnedStream ∧
    s.chooseRunning.1.link.returnedCommand = s.link.returnedCommand ∧
    s.chooseRunning.1.link.transmitting = s.link.transmitting ∧
    s.chooseRunning.1.link.transmitterFreeAt = s.link.transmitterFreeAt ∧
    s.chooseRunning.1.alerts.estop = s.alerts.estop ∧ s.chooseRunning.1.alerts.jam = s.alerts.jam ∧
    s.chooseRunning.1.sorter.tray = s.sorter.tray ∧ s.chooseRunning.1.sorter.queue = s.sorter.queue ∧
    s.chooseRunning.1.sorter.windows = s.sorter.windows ∧ s.chooseRunning.1.sorter.capacity = s.sorter.capacity ∧
    s.chooseRunning.1.sorter.lamps = s.sorter.lamps ∧ s.chooseRunning.1.sorter.generation = s.sorter.generation ∧
    s.chooseRunning.1.sorter.dropInputs = s.sorter.dropInputs ∧
    s.chooseRunning.1.sorter.clearInputs = s.sorter.clearInputs ∧ s.chooseRunning.1.outputs.flap = s.outputs.flap ∧
    s.chooseRunning.1.outputs.stepPulse = s.outputs.stepPulse ∧
    s.chooseRunning.1.outputs.firePulse = s.outputs.firePulse ∧ s.chooseRunning.1.cutter.delta = s.cutter.delta ∧
    s.chooseRunning.1.cutter.cutList = s.cutter.cutList ∧ s.chooseRunning.1.cutter.progress = s.cutter.progress ∧
    s.chooseRunning.1.cutter.consecutive = s.cutter.consecutive ∧
    s.chooseRunning.1.cutter.missing = s.cutter.missing ∧ s.chooseRunning.1.cutter.spurious = s.cutter.spurious ∧
    s.chooseRunning.1.cutter.lastSample = s.cutter.lastSample ∧
    s.chooseRunning.1.cutter.qualified = s.cutter.qualified ∧
    s.chooseRunning.1.cutter.lastPurgeCut = s.cutter.lastPurgeCut := by
  unfold State.chooseRunning
  repeat' split
  all_goals simp

/-- What `State.haltForPaper` leaves alone. -/
@[simp] theorem State.haltForPaper_keeps (s : State) :
    (s.haltForPaper).inReset = s.inReset ∧ (s.haltForPaper).now = s.now ∧ (s.haltForPaper).store = s.store ∧
    (s.haltForPaper).commands = s.commands ∧ (s.haltForPaper).orders = s.orders ∧
    (s.haltForPaper).monitor = s.monitor ∧ (s.haltForPaper).cutter = s.cutter ∧ (s.haltForPaper).sorter = s.sorter ∧
    (s.haltForPaper).price = s.price ∧ (s.haltForPaper).outputs = s.outputs ∧ (s.haltForPaper).pending = s.pending ∧
    (s.haltForPaper).path.position = s.path.position ∧ (s.haltForPaper).path.params = s.path.params ∧
    (s.haltForPaper).path.generation = s.path.generation ∧ (s.haltForPaper).exposure.profiles = s.exposure.profiles ∧
    (s.haltForPaper).exposure.luts = s.exposure.luts ∧ (s.haltForPaper).exposure.thermal = s.exposure.thermal ∧
    (s.haltForPaper).exposure.sizes = s.exposure.sizes ∧ (s.haltForPaper).exposure.paper = s.exposure.paper ∧
    (s.haltForPaper).exposure.profileGeneration = s.exposure.profileGeneration ∧
    (s.haltForPaper).exposure.lutGeneration = s.exposure.lutGeneration ∧
    (s.haltForPaper).exposure.thermalGeneration = s.exposure.thermalGeneration ∧
    (s.haltForPaper).exposure.sizeGeneration = s.exposure.sizeGeneration ∧
    (s.haltForPaper).exposure.paperGeneration = s.exposure.paperGeneration ∧
    (s.haltForPaper).exposure.reload = s.exposure.reload ∧ (s.haltForPaper).exposure.stepDue = s.exposure.stepDue ∧
    (s.haltForPaper).link.receiver = s.link.receiver ∧ (s.haltForPaper).link.breakHeld = s.link.breakHeld ∧
    (s.haltForPaper).link.spacing = s.link.spacing ∧ (s.haltForPaper).link.availableStream = s.link.availableStream ∧
    (s.haltForPaper).link.availableCommand = s.link.availableCommand ∧
    (s.haltForPaper).link.returnedStream = s.link.returnedStream ∧
    (s.haltForPaper).link.returnedCommand = s.link.returnedCommand ∧
    (s.haltForPaper).link.transmitting = s.link.transmitting ∧
    (s.haltForPaper).link.transmitterFreeAt = s.link.transmitterFreeAt ∧
    (s.haltForPaper).alerts.counters = s.alerts.counters ∧ (s.haltForPaper).alerts.estop = s.alerts.estop ∧
    (s.haltForPaper).alerts.jam = s.alerts.jam := by
  unfold State.haltForPaper
  simp

/-- What `State.chooseSegment` leaves alone. -/
@[simp] theorem State.chooseSegment_keeps (s : State) :
    s.chooseSegment.1.inReset = s.inReset ∧ s.chooseSegment.1.now = s.now ∧ s.chooseSegment.1.store = s.store ∧
    s.chooseSegment.1.commands = s.commands ∧ s.chooseSegment.1.monitor = s.monitor ∧
    s.chooseSegment.1.price = s.price ∧ s.chooseSegment.1.pending = s.pending ∧
    s.chooseSegment.1.path.position = s.path.position ∧ s.chooseSegment.1.path.params = s.path.params ∧
    s.chooseSegment.1.path.generation = s.path.generation ∧
    s.chooseSegment.1.exposure.profiles = s.exposure.profiles ∧ s.chooseSegment.1.exposure.luts = s.exposure.luts ∧
    s.chooseSegment.1.exposure.thermal = s.exposure.thermal ∧ s.chooseSegment.1.exposure.sizes = s.exposure.sizes ∧
    s.chooseSegment.1.exposure.paper = s.exposure.paper ∧
    s.chooseSegment.1.exposure.profileGeneration = s.exposure.profileGeneration ∧
    s.chooseSegment.1.exposure.lutGeneration = s.exposure.lutGeneration ∧
    s.chooseSegment.1.exposure.thermalGeneration = s.exposure.thermalGeneration ∧
    s.chooseSegment.1.exposure.sizeGeneration = s.exposure.sizeGeneration ∧
    s.chooseSegment.1.exposure.paperGeneration = s.exposure.paperGeneration ∧
    s.chooseSegment.1.exposure.reload = s.exposure.reload ∧ s.chooseSegment.1.exposure.stepDue = s.exposure.stepDue ∧
    s.chooseSegment.1.link.receiver = s.link.receiver ∧ s.chooseSegment.1.link.breakHeld = s.link.breakHeld ∧
    s.chooseSegment.1.link.spacing = s.link.spacing ∧
    s.chooseSegment.1.link.availableStream = s.link.availableStream ∧
    s.chooseSegment.1.link.availableCommand = s.link.availableCommand ∧
    s.chooseSegment.1.link.returnedStream = s.link.returnedStream ∧
    s.chooseSegment.1.link.returnedCommand = s.link.returnedCommand ∧
    s.chooseSegment.1.link.transmitting = s.link.transmitting ∧
    s.chooseSegment.1.link.transmitterFreeAt = s.link.transmitterFreeAt ∧
    s.chooseSegment.1.alerts.estop = s.alerts.estop ∧ s.chooseSegment.1.alerts.jam = s.alerts.jam ∧
    s.chooseSegment.1.sorter.tray = s.sorter.tray ∧ s.chooseSegment.1.sorter.queue = s.sorter.queue ∧
    s.chooseSegment.1.sorter.windows = s.sorter.windows ∧ s.chooseSegment.1.sorter.capacity = s.sorter.capacity ∧
    s.chooseSegment.1.sorter.lamps = s.sorter.lamps ∧ s.chooseSegment.1.sorter.generation = s.sorter.generation ∧
    s.chooseSegment.1.sorter.dropInputs = s.sorter.dropInputs ∧
    s.chooseSegment.1.sorter.clearInputs = s.sorter.clearInputs ∧ s.chooseSegment.1.outputs.flap = s.outputs.flap ∧
    s.chooseSegment.1.outputs.stepPulse = s.outputs.stepPulse ∧
    s.chooseSegment.1.outputs.firePulse = s.outputs.firePulse ∧ s.chooseSegment.1.cutter.delta = s.cutter.delta ∧
    s.chooseSegment.1.cutter.cutList = s.cutter.cutList ∧ s.chooseSegment.1.cutter.progress = s.cutter.progress ∧
    s.chooseSegment.1.cutter.consecutive = s.cutter.consecutive ∧
    s.chooseSegment.1.cutter.missing = s.cutter.missing ∧ s.chooseSegment.1.cutter.spurious = s.cutter.spurious ∧
    s.chooseSegment.1.cutter.lastSample = s.cutter.lastSample ∧
    s.chooseSegment.1.cutter.qualified = s.cutter.qualified ∧
    s.chooseSegment.1.cutter.lastPurgeCut = s.cutter.lastPurgeCut := by
  unfold State.chooseSegment
  repeat' split
  all_goals simp

/-- What `State.fallsDue` leaves alone. -/
@[simp] theorem State.fallsDue_keeps (s : State) :
    s.fallsDue.1.inReset = s.inReset ∧ s.fallsDue.1.now = s.now ∧ s.fallsDue.1.store = s.store ∧
    s.fallsDue.1.commands = s.commands ∧ s.fallsDue.1.monitor = s.monitor ∧ s.fallsDue.1.price = s.price ∧
    s.fallsDue.1.pending = s.pending ∧ s.fallsDue.1.path.position = s.path.position ∧
    s.fallsDue.1.path.params = s.path.params ∧ s.fallsDue.1.path.generation = s.path.generation ∧
    s.fallsDue.1.exposure.profiles = s.exposure.profiles ∧ s.fallsDue.1.exposure.luts = s.exposure.luts ∧
    s.fallsDue.1.exposure.thermal = s.exposure.thermal ∧ s.fallsDue.1.exposure.sizes = s.exposure.sizes ∧
    s.fallsDue.1.exposure.paper = s.exposure.paper ∧
    s.fallsDue.1.exposure.profileGeneration = s.exposure.profileGeneration ∧
    s.fallsDue.1.exposure.lutGeneration = s.exposure.lutGeneration ∧
    s.fallsDue.1.exposure.thermalGeneration = s.exposure.thermalGeneration ∧
    s.fallsDue.1.exposure.sizeGeneration = s.exposure.sizeGeneration ∧
    s.fallsDue.1.exposure.paperGeneration = s.exposure.paperGeneration ∧
    s.fallsDue.1.exposure.reload = s.exposure.reload ∧ s.fallsDue.1.exposure.stepDue = s.exposure.stepDue ∧
    s.fallsDue.1.link.receiver = s.link.receiver ∧ s.fallsDue.1.link.breakHeld = s.link.breakHeld ∧
    s.fallsDue.1.link.spacing = s.link.spacing ∧ s.fallsDue.1.link.availableStream = s.link.availableStream ∧
    s.fallsDue.1.link.availableCommand = s.link.availableCommand ∧
    s.fallsDue.1.link.returnedStream = s.link.returnedStream ∧
    s.fallsDue.1.link.returnedCommand = s.link.returnedCommand ∧
    s.fallsDue.1.link.transmitting = s.link.transmitting ∧
    s.fallsDue.1.link.transmitterFreeAt = s.link.transmitterFreeAt ∧ s.fallsDue.1.alerts.estop = s.alerts.estop ∧
    s.fallsDue.1.alerts.jam = s.alerts.jam ∧ s.fallsDue.1.sorter.tray = s.sorter.tray ∧
    s.fallsDue.1.sorter.queue = s.sorter.queue ∧ s.fallsDue.1.sorter.windows = s.sorter.windows ∧
    s.fallsDue.1.sorter.capacity = s.sorter.capacity ∧ s.fallsDue.1.sorter.lamps = s.sorter.lamps ∧
    s.fallsDue.1.sorter.generation = s.sorter.generation ∧ s.fallsDue.1.sorter.dropInputs = s.sorter.dropInputs ∧
    s.fallsDue.1.sorter.clearInputs = s.sorter.clearInputs ∧ s.fallsDue.1.outputs.flap = s.outputs.flap ∧
    s.fallsDue.1.outputs.stepPulse = s.outputs.stepPulse ∧ s.fallsDue.1.outputs.firePulse = s.outputs.firePulse ∧
    s.fallsDue.1.cutter.delta = s.cutter.delta ∧ s.fallsDue.1.cutter.cutList = s.cutter.cutList ∧
    s.fallsDue.1.cutter.progress = s.cutter.progress ∧ s.fallsDue.1.cutter.consecutive = s.cutter.consecutive ∧
    s.fallsDue.1.cutter.missing = s.cutter.missing ∧ s.fallsDue.1.cutter.spurious = s.cutter.spurious ∧
    s.fallsDue.1.cutter.lastSample = s.cutter.lastSample ∧ s.fallsDue.1.cutter.qualified = s.cutter.qualified ∧
    s.fallsDue.1.cutter.lastPurgeCut = s.cutter.lastPurgeCut := by
  unfold State.fallsDue
  repeat' split
  all_goals simp

/-- What `State.markZone` leaves alone. -/
@[simp] theorem State.markZone_keeps (f : Segment → Segment) (s : State) :
    (s.markZone f).inReset = s.inReset ∧ (s.markZone f).now = s.now ∧ (s.markZone f).link = s.link ∧
    (s.markZone f).store = s.store ∧ (s.markZone f).commands = s.commands ∧ (s.markZone f).reader = s.reader ∧
    (s.markZone f).orders = s.orders ∧ (s.markZone f).exposure = s.exposure ∧ (s.markZone f).monitor = s.monitor ∧
    (s.markZone f).cutter = s.cutter ∧ (s.markZone f).sorter = s.sorter ∧ (s.markZone f).price = s.price ∧
    (s.markZone f).alerts = s.alerts ∧ (s.markZone f).outputs = s.outputs ∧ (s.markZone f).freeTags = s.freeTags ∧
    (s.markZone f).pending = s.pending ∧ (s.markZone f).path.run = s.path.run ∧
    (s.markZone f).path.haltCause = s.path.haltCause ∧ (s.markZone f).path.drainCause = s.path.drainCause ∧
    (s.markZone f).path.position = s.path.position ∧ (s.markZone f).path.dwell = s.path.dwell ∧
    (s.markZone f).path.params = s.path.params ∧ (s.markZone f).path.generation = s.path.generation ∧
    (s.markZone f).path.rampDue = s.path.rampDue := by
  unfold State.markZone
  simp

/-- What `State.markZoneEntry` leaves alone. -/
@[simp] theorem State.markZoneEntry_keeps (s : State) :
    (s.markZoneEntry).inReset = s.inReset ∧ (s.markZoneEntry).now = s.now ∧ (s.markZoneEntry).link = s.link ∧
    (s.markZoneEntry).store = s.store ∧ (s.markZoneEntry).commands = s.commands ∧
    (s.markZoneEntry).reader = s.reader ∧ (s.markZoneEntry).orders = s.orders ∧
    (s.markZoneEntry).exposure = s.exposure ∧ (s.markZoneEntry).monitor = s.monitor ∧
    (s.markZoneEntry).cutter = s.cutter ∧ (s.markZoneEntry).sorter = s.sorter ∧ (s.markZoneEntry).price = s.price ∧
    (s.markZoneEntry).alerts = s.alerts ∧ (s.markZoneEntry).outputs = s.outputs ∧
    (s.markZoneEntry).freeTags = s.freeTags ∧ (s.markZoneEntry).pending = s.pending ∧
    (s.markZoneEntry).path.run = s.path.run ∧ (s.markZoneEntry).path.haltCause = s.path.haltCause ∧
    (s.markZoneEntry).path.drainCause = s.path.drainCause ∧ (s.markZoneEntry).path.position = s.path.position ∧
    (s.markZoneEntry).path.dwell = s.path.dwell ∧ (s.markZoneEntry).path.params = s.path.params ∧
    (s.markZoneEntry).path.generation = s.path.generation ∧ (s.markZoneEntry).path.rampDue = s.path.rampDue := by
  unfold State.markZoneEntry
  split <;> simp

/-- What `State.setLead` leaves alone. -/
@[simp] theorem State.setLead_keeps (start : Int) (l : LeadState) (s : State) :
    (s.setLead start l).inReset = s.inReset ∧ (s.setLead start l).now = s.now ∧ (s.setLead start l).link = s.link ∧
    (s.setLead start l).store = s.store ∧ (s.setLead start l).commands = s.commands ∧
    (s.setLead start l).reader = s.reader ∧ (s.setLead start l).orders = s.orders ∧
    (s.setLead start l).exposure = s.exposure ∧ (s.setLead start l).monitor = s.monitor ∧
    (s.setLead start l).cutter = s.cutter ∧ (s.setLead start l).sorter = s.sorter ∧
    (s.setLead start l).price = s.price ∧ (s.setLead start l).alerts = s.alerts ∧
    (s.setLead start l).outputs = s.outputs ∧ (s.setLead start l).freeTags = s.freeTags ∧
    (s.setLead start l).pending = s.pending ∧ (s.setLead start l).path.run = s.path.run ∧
    (s.setLead start l).path.haltCause = s.path.haltCause ∧ (s.setLead start l).path.drainCause = s.path.drainCause ∧
    (s.setLead start l).path.position = s.path.position ∧ (s.setLead start l).path.dwell = s.path.dwell ∧
    (s.setLead start l).path.params = s.path.params ∧ (s.setLead start l).path.generation = s.path.generation ∧
    (s.setLead start l).path.rampDue = s.path.rampDue := by
  unfold State.setLead
  simp

/-- What `State.mapAdjacent` leaves alone. -/
@[simp] theorem State.mapAdjacent_keeps (p : Int) (f : Segment → Segment) (s : State) :
    (s.mapAdjacent p f).inReset = s.inReset ∧ (s.mapAdjacent p f).now = s.now ∧ (s.mapAdjacent p f).link = s.link ∧
    (s.mapAdjacent p f).store = s.store ∧ (s.mapAdjacent p f).commands = s.commands ∧
    (s.mapAdjacent p f).reader = s.reader ∧ (s.mapAdjacent p f).orders = s.orders ∧
    (s.mapAdjacent p f).exposure = s.exposure ∧ (s.mapAdjacent p f).monitor = s.monitor ∧
    (s.mapAdjacent p f).cutter = s.cutter ∧ (s.mapAdjacent p f).sorter = s.sorter ∧
    (s.mapAdjacent p f).price = s.price ∧ (s.mapAdjacent p f).alerts = s.alerts ∧
    (s.mapAdjacent p f).outputs = s.outputs ∧ (s.mapAdjacent p f).freeTags = s.freeTags ∧
    (s.mapAdjacent p f).pending = s.pending ∧ (s.mapAdjacent p f).path.run = s.path.run ∧
    (s.mapAdjacent p f).path.haltCause = s.path.haltCause ∧ (s.mapAdjacent p f).path.drainCause = s.path.drainCause ∧
    (s.mapAdjacent p f).path.position = s.path.position ∧ (s.mapAdjacent p f).path.dwell = s.path.dwell ∧
    (s.mapAdjacent p f).path.params = s.path.params ∧ (s.mapAdjacent p f).path.generation = s.path.generation ∧
    (s.mapAdjacent p f).path.rampDue = s.path.rampDue := by
  unfold State.mapAdjacent
  simp

/-- What `State.fixCut` leaves alone. -/
@[simp] theorem State.fixCut_keeps (b : Boundary) (c : Int) (s : State) :
    (s.fixCut b c).inReset = s.inReset ∧ (s.fixCut b c).now = s.now ∧ (s.fixCut b c).link = s.link ∧
    (s.fixCut b c).store = s.store ∧ (s.fixCut b c).commands = s.commands ∧ (s.fixCut b c).reader = s.reader ∧
    (s.fixCut b c).orders = s.orders ∧ (s.fixCut b c).exposure = s.exposure ∧ (s.fixCut b c).path = s.path ∧
    (s.fixCut b c).monitor = s.monitor ∧ (s.fixCut b c).sorter = s.sorter ∧ (s.fixCut b c).price = s.price ∧
    (s.fixCut b c).alerts = s.alerts ∧ (s.fixCut b c).outputs = s.outputs ∧ (s.fixCut b c).freeTags = s.freeTags ∧
    (s.fixCut b c).pending = s.pending ∧ (s.fixCut b c).cutter.delta = s.cutter.delta ∧
    (s.fixCut b c).cutter.progress = s.cutter.progress ∧ (s.fixCut b c).cutter.consecutive = s.cutter.consecutive ∧
    (s.fixCut b c).cutter.missing = s.cutter.missing ∧ (s.fixCut b c).cutter.spurious = s.cutter.spurious ∧
    (s.fixCut b c).cutter.lastSample = s.cutter.lastSample ∧ (s.fixCut b c).cutter.qualified = s.cutter.qualified ∧
    (s.fixCut b c).cutter.lastPurgeCut = s.cutter.lastPurgeCut := by
  unfold State.fixCut
  simp

/-- What `State.declareMissing` leaves alone. -/
@[simp] theorem State.declareMissing_keeps (a e : Int) (s : State) :
    (s.declareMissing a e).inReset = s.inReset ∧ (s.declareMissing a e).now = s.now ∧
    (s.declareMissing a e).store = s.store ∧ (s.declareMissing a e).commands = s.commands ∧
    (s.declareMissing a e).reader = s.reader ∧ (s.declareMissing a e).orders = s.orders ∧
    (s.declareMissing a e).exposure = s.exposure ∧ (s.declareMissing a e).monitor = s.monitor ∧
    (s.declareMissing a e).sorter = s.sorter ∧ (s.declareMissing a e).price = s.price ∧
    (s.declareMissing a e).outputs = s.outputs ∧ (s.declareMissing a e).pending = s.pending ∧
    (s.declareMissing a e).path.run = s.path.run ∧ (s.declareMissing a e).path.haltCause = s.path.haltCause ∧
    (s.declareMissing a e).path.drainCause = s.path.drainCause ∧
    (s.declareMissing a e).path.position = s.path.position ∧ (s.declareMissing a e).path.dwell = s.path.dwell ∧
    (s.declareMissing a e).path.params = s.path.params ∧ (s.declareMissing a e).path.generation = s.path.generation ∧
    (s.declareMissing a e).path.rampDue = s.path.rampDue ∧
    (s.declareMissing a e).cutter.progress = s.cutter.progress ∧
    (s.declareMissing a e).cutter.lastSample = s.cutter.lastSample ∧
    (s.declareMissing a e).cutter.qualified = s.cutter.qualified ∧
    (s.declareMissing a e).link.receiver = s.link.receiver ∧
    (s.declareMissing a e).link.breakHeld = s.link.breakHeld ∧ (s.declareMissing a e).link.spacing = s.link.spacing ∧
    (s.declareMissing a e).link.availableStream = s.link.availableStream ∧
    (s.declareMissing a e).link.availableCommand = s.link.availableCommand ∧
    (s.declareMissing a e).link.returnedStream = s.link.returnedStream ∧
    (s.declareMissing a e).link.returnedCommand = s.link.returnedCommand ∧
    (s.declareMissing a e).link.transmitting = s.link.transmitting ∧
    (s.declareMissing a e).link.transmitterFreeAt = s.link.transmitterFreeAt ∧
    (s.declareMissing a e).alerts.counters = s.alerts.counters ∧
    (s.declareMissing a e).alerts.estop = s.alerts.estop ∧ (s.declareMissing a e).alerts.jam = s.alerts.jam := by
  unfold State.declareMissing
  dsimp only
  split <;> simp

/-- What `State.scheduleCutPoint` leaves alone. -/
@[simp] theorem State.scheduleCutPoint_keeps (j : Nat) (e : Int) (s : State) :
    (s.scheduleCutPoint j e).inReset = s.inReset ∧ (s.scheduleCutPoint j e).now = s.now ∧
    (s.scheduleCutPoint j e).link = s.link ∧ (s.scheduleCutPoint j e).store = s.store ∧
    (s.scheduleCutPoint j e).commands = s.commands ∧ (s.scheduleCutPoint j e).reader = s.reader ∧
    (s.scheduleCutPoint j e).orders = s.orders ∧ (s.scheduleCutPoint j e).exposure = s.exposure ∧
    (s.scheduleCutPoint j e).path = s.path ∧ (s.scheduleCutPoint j e).monitor = s.monitor ∧
    (s.scheduleCutPoint j e).sorter = s.sorter ∧ (s.scheduleCutPoint j e).price = s.price ∧
    (s.scheduleCutPoint j e).alerts = s.alerts ∧ (s.scheduleCutPoint j e).outputs = s.outputs ∧
    (s.scheduleCutPoint j e).freeTags = s.freeTags ∧ (s.scheduleCutPoint j e).pending = s.pending ∧
    (s.scheduleCutPoint j e).cutter.progress = s.cutter.progress ∧
    (s.scheduleCutPoint j e).cutter.lastSample = s.cutter.lastSample ∧
    (s.scheduleCutPoint j e).cutter.qualified = s.cutter.qualified := by
  unfold State.scheduleCutPoint
  simp

/-- What `State.testBoundaries` leaves alone. -/
@[simp] theorem State.testBoundaries_keeps (fuel : Nat) (s : State) :
    (s.testBoundaries fuel).1.inReset = s.inReset ∧ (s.testBoundaries fuel).1.now = s.now ∧
    (s.testBoundaries fuel).1.store = s.store ∧ (s.testBoundaries fuel).1.commands = s.commands ∧
    (s.testBoundaries fuel).1.reader = s.reader ∧ (s.testBoundaries fuel).1.orders = s.orders ∧
    (s.testBoundaries fuel).1.exposure = s.exposure ∧ (s.testBoundaries fuel).1.monitor = s.monitor ∧
    (s.testBoundaries fuel).1.sorter = s.sorter ∧ (s.testBoundaries fuel).1.price = s.price ∧
    (s.testBoundaries fuel).1.outputs = s.outputs ∧ (s.testBoundaries fuel).1.pending = s.pending ∧
    (s.testBoundaries fuel).1.path.run = s.path.run ∧ (s.testBoundaries fuel).1.path.haltCause = s.path.haltCause ∧
    (s.testBoundaries fuel).1.path.drainCause = s.path.drainCause ∧
    (s.testBoundaries fuel).1.path.position = s.path.position ∧ (s.testBoundaries fuel).1.path.dwell = s.path.dwell ∧
    (s.testBoundaries fuel).1.path.params = s.path.params ∧
    (s.testBoundaries fuel).1.path.generation = s.path.generation ∧
    (s.testBoundaries fuel).1.path.rampDue = s.path.rampDue ∧
    (s.testBoundaries fuel).1.cutter.progress = s.cutter.progress ∧
    (s.testBoundaries fuel).1.cutter.lastSample = s.cutter.lastSample ∧
    (s.testBoundaries fuel).1.cutter.qualified = s.cutter.qualified ∧
    (s.testBoundaries fuel).1.link.receiver = s.link.receiver ∧
    (s.testBoundaries fuel).1.link.breakHeld = s.link.breakHeld ∧
    (s.testBoundaries fuel).1.link.spacing = s.link.spacing ∧
    (s.testBoundaries fuel).1.link.availableStream = s.link.availableStream ∧
    (s.testBoundaries fuel).1.link.availableCommand = s.link.availableCommand ∧
    (s.testBoundaries fuel).1.link.returnedStream = s.link.returnedStream ∧
    (s.testBoundaries fuel).1.link.returnedCommand = s.link.returnedCommand ∧
    (s.testBoundaries fuel).1.link.transmitting = s.link.transmitting ∧
    (s.testBoundaries fuel).1.link.transmitterFreeAt = s.link.transmitterFreeAt ∧
    (s.testBoundaries fuel).1.alerts.counters = s.alerts.counters ∧
    (s.testBoundaries fuel).1.alerts.estop = s.alerts.estop ∧ (s.testBoundaries fuel).1.alerts.jam = s.alerts.jam := by
  induction fuel generalizing s with
  | zero => simp [State.testBoundaries]
  | succ n ih =>
    unfold State.testBoundaries
    split
    · simp
    · split
      · simp
      · split
        · rename_i j expected _ _ _
          have h := ih (s.scheduleCutPoint j expected)
          simp_all
        · simp
      · split
        · rename_i start expected _ _ _
          have h := ih (s.declareMissing start expected)
          simp_all
        · simp

/-- What `State.scheduleReached` leaves alone. -/
@[simp] theorem State.scheduleReached_keeps (fuel : Nat) (s : State) :
    (s.scheduleReached fuel).inReset = s.inReset ∧ (s.scheduleReached fuel).now = s.now ∧
    (s.scheduleReached fuel).link = s.link ∧ (s.scheduleReached fuel).store = s.store ∧
    (s.scheduleReached fuel).commands = s.commands ∧ (s.scheduleReached fuel).reader = s.reader ∧
    (s.scheduleReached fuel).orders = s.orders ∧ (s.scheduleReached fuel).exposure = s.exposure ∧
    (s.scheduleReached fuel).path = s.path ∧ (s.scheduleReached fuel).monitor = s.monitor ∧
    (s.scheduleReached fuel).sorter = s.sorter ∧ (s.scheduleReached fuel).price = s.price ∧
    (s.scheduleReached fuel).alerts = s.alerts ∧ (s.scheduleReached fuel).outputs = s.outputs ∧
    (s.scheduleReached fuel).freeTags = s.freeTags ∧ (s.scheduleReached fuel).pending = s.pending ∧
    (s.scheduleReached fuel).cutter.progress = s.cutter.progress ∧
    (s.scheduleReached fuel).cutter.lastSample = s.cutter.lastSample ∧
    (s.scheduleReached fuel).cutter.qualified = s.cutter.qualified ∧ (s.scheduleReached fuel).cutter.delta = s.cutter.delta ∧
    (s.scheduleReached fuel).cutter.consecutive = s.cutter.consecutive ∧
    (s.scheduleReached fuel).cutter.missing = s.cutter.missing ∧
    (s.scheduleReached fuel).cutter.spurious = s.cutter.spurious := by
  induction fuel generalizing s with
  | zero => simp [State.scheduleReached]
  | succ n ih =>
    unfold State.scheduleReached
    split
    · simp
    · simp
    · split
      · simp
      · split
        · rename_i j _ _ expected _ _
          have h := ih (s.scheduleCutPoint j expected)
          have k : (s.scheduleCutPoint j expected).cutter.delta = s.cutter.delta ∧
              (s.scheduleCutPoint j expected).cutter.consecutive = s.cutter.consecutive ∧
              (s.scheduleCutPoint j expected).cutter.missing = s.cutter.missing ∧
              (s.scheduleCutPoint j expected).cutter.spurious = s.cutter.spurious := ⟨rfl, rfl, rfl, rfl⟩
          simp_all
        · simp

/-- What `State.reformCutPoints` leaves alone. -/
@[simp] theorem State.reformCutPoints_keeps (s : State) :
    (s.reformCutPoints).inReset = s.inReset ∧ (s.reformCutPoints).now = s.now ∧ (s.reformCutPoints).link = s.link ∧
    (s.reformCutPoints).store = s.store ∧ (s.reformCutPoints).commands = s.commands ∧ (s.reformCutPoints).reader = s.reader ∧
    (s.reformCutPoints).orders = s.orders ∧ (s.reformCutPoints).exposure = s.exposure ∧ (s.reformCutPoints).path = s.path ∧
    (s.reformCutPoints).monitor = s.monitor ∧ (s.reformCutPoints).sorter = s.sorter ∧ (s.reformCutPoints).price = s.price ∧
    (s.reformCutPoints).alerts = s.alerts ∧ (s.reformCutPoints).outputs = s.outputs ∧
    (s.reformCutPoints).freeTags = s.freeTags ∧ (s.reformCutPoints).pending = s.pending ∧
    (s.reformCutPoints).cutter.progress = s.cutter.progress ∧ (s.reformCutPoints).cutter.lastSample = s.cutter.lastSample ∧
    (s.reformCutPoints).cutter.qualified = s.cutter.qualified ∧ (s.reformCutPoints).cutter.delta = s.cutter.delta ∧
    (s.reformCutPoints).cutter.consecutive = s.cutter.consecutive ∧ (s.reformCutPoints).cutter.missing = s.cutter.missing ∧
    (s.reformCutPoints).cutter.spurious = s.cutter.spurious := by
  unfold State.reformCutPoints
  split <;> simp

/-- What `State.matchPunch` leaves alone. -/
@[simp] theorem State.matchPunch_keeps (a e : Int) (s : State) :
    (s.matchPunch a e).inReset = s.inReset ∧ (s.matchPunch a e).now = s.now ∧ (s.matchPunch a e).link = s.link ∧
    (s.matchPunch a e).store = s.store ∧ (s.matchPunch a e).commands = s.commands ∧
    (s.matchPunch a e).reader = s.reader ∧ (s.matchPunch a e).orders = s.orders ∧
    (s.matchPunch a e).exposure = s.exposure ∧ (s.matchPunch a e).monitor = s.monitor ∧
    (s.matchPunch a e).sorter = s.sorter ∧ (s.matchPunch a e).price = s.price ∧
    (s.matchPunch a e).alerts = s.alerts ∧ (s.matchPunch a e).outputs = s.outputs ∧
    (s.matchPunch a e).freeTags = s.freeTags ∧ (s.matchPunch a e).pending = s.pending ∧
    (s.matchPunch a e).path.run = s.path.run ∧ (s.matchPunch a e).path.haltCause = s.path.haltCause ∧
    (s.matchPunch a e).path.drainCause = s.path.drainCause ∧ (s.matchPunch a e).path.position = s.path.position ∧
    (s.matchPunch a e).path.dwell = s.path.dwell ∧ (s.matchPunch a e).path.params = s.path.params ∧
    (s.matchPunch a e).path.generation = s.path.generation ∧ (s.matchPunch a e).path.rampDue = s.path.rampDue ∧
    (s.matchPunch a e).cutter.progress = s.cutter.progress ∧
    (s.matchPunch a e).cutter.lastSample = s.cutter.lastSample ∧
    (s.matchPunch a e).cutter.qualified = s.cutter.qualified := by
  unfold State.matchPunch
  simp

/-- What `State.spuriousPunch` leaves alone. -/
@[simp] theorem State.spuriousPunch_keeps (s : State) :
    (s.spuriousPunch).inReset = s.inReset ∧ (s.spuriousPunch).now = s.now ∧ (s.spuriousPunch).store = s.store ∧
    (s.spuriousPunch).commands = s.commands ∧ (s.spuriousPunch).reader = s.reader ∧
    (s.spuriousPunch).orders = s.orders ∧ (s.spuriousPunch).exposure = s.exposure ∧ (s.spuriousPunch).path = s.path ∧
    (s.spuriousPunch).monitor = s.monitor ∧ (s.spuriousPunch).sorter = s.sorter ∧ (s.spuriousPunch).price = s.price ∧
    (s.spuriousPunch).outputs = s.outputs ∧ (s.spuriousPunch).pending = s.pending ∧
    (s.spuriousPunch).cutter.progress = s.cutter.progress ∧
    (s.spuriousPunch).cutter.lastSample = s.cutter.lastSample ∧
    (s.spuriousPunch).cutter.qualified = s.cutter.qualified ∧ (s.spuriousPunch).link.receiver = s.link.receiver ∧
    (s.spuriousPunch).link.breakHeld = s.link.breakHeld ∧ (s.spuriousPunch).link.spacing = s.link.spacing ∧
    (s.spuriousPunch).link.availableStream = s.link.availableStream ∧
    (s.spuriousPunch).link.availableCommand = s.link.availableCommand ∧
    (s.spuriousPunch).link.returnedStream = s.link.returnedStream ∧
    (s.spuriousPunch).link.returnedCommand = s.link.returnedCommand ∧
    (s.spuriousPunch).link.transmitting = s.link.transmitting ∧
    (s.spuriousPunch).link.transmitterFreeAt = s.link.transmitterFreeAt ∧
    (s.spuriousPunch).alerts.counters = s.alerts.counters ∧ (s.spuriousPunch).alerts.estop = s.alerts.estop ∧
    (s.spuriousPunch).alerts.jam = s.alerts.jam := by
  unfold State.spuriousPunch
  simp

/-- What `State.judgePunch` leaves alone. -/
@[simp] theorem State.judgePunch_keeps (s : State) :
    (s.judgePunch).inReset = s.inReset ∧ (s.judgePunch).now = s.now ∧ (s.judgePunch).store = s.store ∧
    (s.judgePunch).commands = s.commands ∧ (s.judgePunch).reader = s.reader ∧ (s.judgePunch).orders = s.orders ∧
    (s.judgePunch).exposure = s.exposure ∧ (s.judgePunch).monitor = s.monitor ∧ (s.judgePunch).sorter = s.sorter ∧
    (s.judgePunch).price = s.price ∧ (s.judgePunch).outputs = s.outputs ∧ (s.judgePunch).pending = s.pending ∧
    (s.judgePunch).path.run = s.path.run ∧ (s.judgePunch).path.haltCause = s.path.haltCause ∧
    (s.judgePunch).path.drainCause = s.path.drainCause ∧ (s.judgePunch).path.position = s.path.position ∧
    (s.judgePunch).path.dwell = s.path.dwell ∧ (s.judgePunch).path.params = s.path.params ∧
    (s.judgePunch).path.generation = s.path.generation ∧ (s.judgePunch).path.rampDue = s.path.rampDue ∧
    (s.judgePunch).cutter.progress = s.cutter.progress ∧ (s.judgePunch).cutter.lastSample = s.cutter.lastSample ∧
    (s.judgePunch).cutter.qualified = s.cutter.qualified ∧ (s.judgePunch).link.receiver = s.link.receiver ∧
    (s.judgePunch).link.breakHeld = s.link.breakHeld ∧ (s.judgePunch).link.spacing = s.link.spacing ∧
    (s.judgePunch).link.availableStream = s.link.availableStream ∧
    (s.judgePunch).link.availableCommand = s.link.availableCommand ∧
    (s.judgePunch).link.returnedStream = s.link.returnedStream ∧
    (s.judgePunch).link.returnedCommand = s.link.returnedCommand ∧
    (s.judgePunch).link.transmitting = s.link.transmitting ∧
    (s.judgePunch).link.transmitterFreeAt = s.link.transmitterFreeAt ∧
    (s.judgePunch).alerts.counters = s.alerts.counters ∧ (s.judgePunch).alerts.estop = s.alerts.estop ∧
    (s.judgePunch).alerts.jam = s.alerts.jam := by
  unfold State.judgePunch
  repeat' split
  all_goals simp

/-- What `State.samplePunch` leaves alone. -/
@[simp] theorem State.samplePunch_keeps (x : PunchSample) (s : State) :
    (s.samplePunch x).1.inReset = s.inReset ∧ (s.samplePunch x).1.now = s.now ∧ (s.samplePunch x).1.link = s.link ∧
    (s.samplePunch x).1.store = s.store ∧ (s.samplePunch x).1.commands = s.commands ∧
    (s.samplePunch x).1.reader = s.reader ∧ (s.samplePunch x).1.orders = s.orders ∧
    (s.samplePunch x).1.exposure = s.exposure ∧ (s.samplePunch x).1.path = s.path ∧
    (s.samplePunch x).1.monitor = s.monitor ∧ (s.samplePunch x).1.sorter = s.sorter ∧
    (s.samplePunch x).1.price = s.price ∧ (s.samplePunch x).1.alerts = s.alerts ∧
    (s.samplePunch x).1.outputs = s.outputs ∧ (s.samplePunch x).1.freeTags = s.freeTags ∧
    (s.samplePunch x).1.pending = s.pending ∧ (s.samplePunch x).1.cutter.current = s.cutter.current ∧
    (s.samplePunch x).1.cutter.delta = s.cutter.delta ∧ (s.samplePunch x).1.cutter.cutList = s.cutter.cutList ∧
    (s.samplePunch x).1.cutter.progress = s.cutter.progress ∧
    (s.samplePunch x).1.cutter.consecutive = s.cutter.consecutive ∧
    (s.samplePunch x).1.cutter.missing = s.cutter.missing ∧ (s.samplePunch x).1.cutter.spurious = s.cutter.spurious ∧
    (s.samplePunch x).1.cutter.lastPurgeCut = s.cutter.lastPurgeCut := by
  unfold State.samplePunch
  simp

/-- What `State.fireAtStep` leaves alone. -/
@[simp] theorem State.fireAtStep_keeps (s : State) :
    (s.fireAtStep).inReset = s.inReset ∧ (s.fireAtStep).now = s.now ∧ (s.fireAtStep).link = s.link ∧
    (s.fireAtStep).store = s.store ∧ (s.fireAtStep).commands = s.commands ∧ (s.fireAtStep).reader = s.reader ∧
    (s.fireAtStep).orders = s.orders ∧ (s.fireAtStep).exposure = s.exposure ∧ (s.fireAtStep).path = s.path ∧
    (s.fireAtStep).monitor = s.monitor ∧ (s.fireAtStep).sorter = s.sorter ∧ (s.fireAtStep).price = s.price ∧
    (s.fireAtStep).alerts = s.alerts ∧ (s.fireAtStep).freeTags = s.freeTags ∧ (s.fireAtStep).pending = s.pending ∧
    (s.fireAtStep).cutter.current = s.cutter.current ∧ (s.fireAtStep).cutter.delta = s.cutter.delta ∧
    (s.fireAtStep).cutter.cutList = s.cutter.cutList ∧ (s.fireAtStep).cutter.consecutive = s.cutter.consecutive ∧
    (s.fireAtStep).cutter.missing = s.cutter.missing ∧ (s.fireAtStep).cutter.spurious = s.cutter.spurious ∧
    (s.fireAtStep).cutter.lastSample = s.cutter.lastSample ∧ (s.fireAtStep).cutter.qualified = s.cutter.qualified ∧
    (s.fireAtStep).cutter.lastPurgeCut = s.cutter.lastPurgeCut ∧ (s.fireAtStep).outputs.flap = s.outputs.flap ∧
    (s.fireAtStep).outputs.stepPulse = s.outputs.stepPulse ∧ (s.fireAtStep).outputs.punchPulse = s.outputs.punchPulse := by
  unfold State.fireAtStep
  split <;> simp

/-- What `State.cutterStep` leaves alone. -/
@[simp] theorem State.cutterStep_keeps (x : PunchSample) (s : State) :
    (s.cutterStep x).inReset = s.inReset ∧ (s.cutterStep x).now = s.now ∧ (s.cutterStep x).store = s.store ∧
    (s.cutterStep x).commands = s.commands ∧ (s.cutterStep x).reader = s.reader ∧
    (s.cutterStep x).orders = s.orders ∧ (s.cutterStep x).exposure = s.exposure ∧
    (s.cutterStep x).monitor = s.monitor ∧ (s.cutterStep x).sorter = s.sorter ∧ (s.cutterStep x).price = s.price ∧
    (s.cutterStep x).pending = s.pending ∧ (s.cutterStep x).path.run = s.path.run ∧
    (s.cutterStep x).path.haltCause = s.path.haltCause ∧ (s.cutterStep x).path.drainCause = s.path.drainCause ∧
    (s.cutterStep x).path.position = s.path.position ∧ (s.cutterStep x).path.dwell = s.path.dwell ∧
    (s.cutterStep x).path.params = s.path.params ∧ (s.cutterStep x).path.generation = s.path.generation ∧
    (s.cutterStep x).path.rampDue = s.path.rampDue ∧ (s.cutterStep x).outputs.flap = s.outputs.flap ∧
    (s.cutterStep x).outputs.stepPulse = s.outputs.stepPulse ∧
    (s.cutterStep x).outputs.punchPulse = s.outputs.punchPulse ∧ (s.cutterStep x).link.receiver = s.link.receiver ∧
    (s.cutterStep x).link.breakHeld = s.link.breakHeld ∧ (s.cutterStep x).link.spacing = s.link.spacing ∧
    (s.cutterStep x).link.availableStream = s.link.availableStream ∧
    (s.cutterStep x).link.availableCommand = s.link.availableCommand ∧
    (s.cutterStep x).link.returnedStream = s.link.returnedStream ∧
    (s.cutterStep x).link.returnedCommand = s.link.returnedCommand ∧
    (s.cutterStep x).link.transmitting = s.link.transmitting ∧
    (s.cutterStep x).link.transmitterFreeAt = s.link.transmitterFreeAt ∧
    (s.cutterStep x).alerts.counters = s.alerts.counters ∧ (s.cutterStep x).alerts.estop = s.alerts.estop ∧
    (s.cutterStep x).alerts.jam = s.alerts.jam := by
  unfold State.cutterStep
  dsimp only
  split <;> simp

/-- What `State.markLate` leaves alone. -/
@[simp] theorem State.markLate_keeps (b : Boundary) (s : State) :
    (s.markLate b).inReset = s.inReset ∧ (s.markLate b).now = s.now ∧ (s.markLate b).link = s.link ∧
    (s.markLate b).store = s.store ∧ (s.markLate b).commands = s.commands ∧ (s.markLate b).reader = s.reader ∧
    (s.markLate b).orders = s.orders ∧ (s.markLate b).exposure = s.exposure ∧ (s.markLate b).monitor = s.monitor ∧
    (s.markLate b).cutter = s.cutter ∧ (s.markLate b).sorter = s.sorter ∧ (s.markLate b).price = s.price ∧
    (s.markLate b).alerts = s.alerts ∧ (s.markLate b).outputs = s.outputs ∧ (s.markLate b).freeTags = s.freeTags ∧
    (s.markLate b).pending = s.pending ∧ (s.markLate b).path.run = s.path.run ∧
    (s.markLate b).path.haltCause = s.path.haltCause ∧ (s.markLate b).path.drainCause = s.path.drainCause ∧
    (s.markLate b).path.position = s.path.position ∧ (s.markLate b).path.dwell = s.path.dwell ∧
    (s.markLate b).path.params = s.path.params ∧ (s.markLate b).path.generation = s.path.generation ∧
    (s.markLate b).path.rampDue = s.path.rampDue := by
  unfold State.markLate
  split <;> simp

/-- What `State.fireLate` leaves alone. -/
@[simp] theorem State.fireLate_keeps (s : State) :
    (s.fireLate).inReset = s.inReset ∧ (s.fireLate).now = s.now ∧ (s.fireLate).link = s.link ∧
    (s.fireLate).store = s.store ∧ (s.fireLate).commands = s.commands ∧ (s.fireLate).reader = s.reader ∧
    (s.fireLate).orders = s.orders ∧ (s.fireLate).exposure = s.exposure ∧ (s.fireLate).monitor = s.monitor ∧
    (s.fireLate).sorter = s.sorter ∧ (s.fireLate).price = s.price ∧ (s.fireLate).alerts = s.alerts ∧
    (s.fireLate).freeTags = s.freeTags ∧ (s.fireLate).pending = s.pending ∧ (s.fireLate).path.run = s.path.run ∧
    (s.fireLate).path.haltCause = s.path.haltCause ∧ (s.fireLate).path.drainCause = s.path.drainCause ∧
    (s.fireLate).path.position = s.path.position ∧ (s.fireLate).path.dwell = s.path.dwell ∧
    (s.fireLate).path.params = s.path.params ∧ (s.fireLate).path.generation = s.path.generation ∧
    (s.fireLate).path.rampDue = s.path.rampDue ∧ (s.fireLate).cutter.current = s.cutter.current ∧
    (s.fireLate).cutter.delta = s.cutter.delta ∧ (s.fireLate).cutter.cutList = s.cutter.cutList ∧
    (s.fireLate).cutter.consecutive = s.cutter.consecutive ∧ (s.fireLate).cutter.missing = s.cutter.missing ∧
    (s.fireLate).cutter.spurious = s.cutter.spurious ∧ (s.fireLate).cutter.lastSample = s.cutter.lastSample ∧
    (s.fireLate).cutter.qualified = s.cutter.qualified ∧ (s.fireLate).cutter.lastPurgeCut = s.cutter.lastPurgeCut ∧
    (s.fireLate).outputs.flap = s.outputs.flap ∧ (s.fireLate).outputs.stepPulse = s.outputs.stepPulse ∧
    (s.fireLate).outputs.punchPulse = s.outputs.punchPulse := by
  unfold State.fireLate
  repeat' split
  all_goals simp

/-- What `State.sendGood` leaves alone. -/
@[simp] theorem State.sendGood_keeps (p : PrintRecord) (s : State) :
    (s.sendGood p).inReset = s.inReset ∧ (s.sendGood p).now = s.now ∧ (s.sendGood p).store = s.store ∧
    (s.sendGood p).commands = s.commands ∧ (s.sendGood p).exposure = s.exposure ∧
    (s.sendGood p).monitor = s.monitor ∧ (s.sendGood p).cutter = s.cutter ∧ (s.sendGood p).price = s.price ∧
    (s.sendGood p).pending = s.pending ∧ (s.sendGood p).link.receiver = s.link.receiver ∧
    (s.sendGood p).link.breakHeld = s.link.breakHeld ∧ (s.sendGood p).link.spacing = s.link.spacing ∧
    (s.sendGood p).link.availableStream = s.link.availableStream ∧
    (s.sendGood p).link.availableCommand = s.link.availableCommand ∧
    (s.sendGood p).link.returnedStream = s.link.returnedStream ∧
    (s.sendGood p).link.returnedCommand = s.link.returnedCommand ∧
    (s.sendGood p).link.transmitting = s.link.transmitting ∧
    (s.sendGood p).link.transmitterFreeAt = s.link.transmitterFreeAt ∧ (s.sendGood p).alerts.estop = s.alerts.estop ∧
    (s.sendGood p).alerts.jam = s.alerts.jam ∧ (s.sendGood p).path.run = s.path.run ∧
    (s.sendGood p).path.haltCause = s.path.haltCause ∧ (s.sendGood p).path.drainCause = s.path.drainCause ∧
    (s.sendGood p).path.position = s.path.position ∧ (s.sendGood p).path.dwell = s.path.dwell ∧
    (s.sendGood p).path.params = s.path.params ∧ (s.sendGood p).path.generation = s.path.generation ∧
    (s.sendGood p).path.rampDue = s.path.rampDue ∧ (s.sendGood p).sorter.windows = s.sorter.windows ∧
    (s.sendGood p).sorter.capacity = s.sorter.capacity ∧ (s.sendGood p).sorter.lamps = s.sorter.lamps ∧
    (s.sendGood p).sorter.generation = s.sorter.generation ∧ (s.sendGood p).sorter.dropInputs = s.sorter.dropInputs ∧
    (s.sendGood p).sorter.clearInputs = s.sorter.clearInputs ∧
    (s.sendGood p).outputs.stepPulse = s.outputs.stepPulse ∧
    (s.sendGood p).outputs.punchPulse = s.outputs.punchPulse ∧ (s.sendGood p).outputs.firePulse = s.outputs.firePulse := by
  have h := s.sortPrint_keeps p
  unfold State.sendGood
  split
  · rename_i e
    simp only [e] at h
    simp_all
  · rename_i e
    simp only [e] at h
    simp_all

/-- What `State.classify` leaves alone. -/
@[simp] theorem State.classify_keeps (g : Segment) (s : State) :
    (s.classify g).inReset = s.inReset ∧ (s.classify g).now = s.now ∧ (s.classify g).store = s.store ∧
    (s.classify g).commands = s.commands ∧ (s.classify g).exposure = s.exposure ∧
    (s.classify g).monitor = s.monitor ∧ (s.classify g).cutter = s.cutter ∧ (s.classify g).price = s.price ∧
    (s.classify g).pending = s.pending ∧ (s.classify g).link.receiver = s.link.receiver ∧
    (s.classify g).link.breakHeld = s.link.breakHeld ∧ (s.classify g).link.spacing = s.link.spacing ∧
    (s.classify g).link.availableStream = s.link.availableStream ∧
    (s.classify g).link.availableCommand = s.link.availableCommand ∧
    (s.classify g).link.returnedStream = s.link.returnedStream ∧
    (s.classify g).link.returnedCommand = s.link.returnedCommand ∧
    (s.classify g).link.transmitting = s.link.transmitting ∧
    (s.classify g).link.transmitterFreeAt = s.link.transmitterFreeAt ∧ (s.classify g).alerts.estop = s.alerts.estop ∧
    (s.classify g).alerts.jam = s.alerts.jam ∧ (s.classify g).path.run = s.path.run ∧
    (s.classify g).path.haltCause = s.path.haltCause ∧ (s.classify g).path.drainCause = s.path.drainCause ∧
    (s.classify g).path.position = s.path.position ∧ (s.classify g).path.dwell = s.path.dwell ∧
    (s.classify g).path.params = s.path.params ∧ (s.classify g).path.generation = s.path.generation ∧
    (s.classify g).path.rampDue = s.path.rampDue ∧ (s.classify g).sorter.windows = s.sorter.windows ∧
    (s.classify g).sorter.capacity = s.sorter.capacity ∧ (s.classify g).sorter.lamps = s.sorter.lamps ∧
    (s.classify g).sorter.generation = s.sorter.generation ∧ (s.classify g).sorter.dropInputs = s.sorter.dropInputs ∧
    (s.classify g).sorter.clearInputs = s.sorter.clearInputs ∧
    (s.classify g).outputs.stepPulse = s.outputs.stepPulse ∧
    (s.classify g).outputs.punchPulse = s.outputs.punchPulse ∧ (s.classify g).outputs.firePulse = s.outputs.firePulse := by
  unfold State.classify
  repeat' split
  all_goals simp

/-- What `State.freePiece` leaves alone. -/
@[simp] theorem State.freePiece_keeps (s : State) :
    (s.freePiece).inReset = s.inReset ∧ (s.freePiece).now = s.now ∧ (s.freePiece).store = s.store ∧
    (s.freePiece).commands = s.commands ∧ (s.freePiece).monitor = s.monitor ∧ (s.freePiece).cutter = s.cutter ∧
    (s.freePiece).price = s.price ∧ (s.freePiece).pending = s.pending ∧
    (s.freePiece).link.receiver = s.link.receiver ∧ (s.freePiece).link.breakHeld = s.link.breakHeld ∧
    (s.freePiece).link.spacing = s.link.spacing ∧ (s.freePiece).link.availableStream = s.link.availableStream ∧
    (s.freePiece).link.availableCommand = s.link.availableCommand ∧
    (s.freePiece).link.returnedStream = s.link.returnedStream ∧
    (s.freePiece).link.returnedCommand = s.link.returnedCommand ∧
    (s.freePiece).link.transmitting = s.link.transmitting ∧
    (s.freePiece).link.transmitterFreeAt = s.link.transmitterFreeAt ∧ (s.freePiece).alerts.estop = s.alerts.estop ∧
    (s.freePiece).alerts.jam = s.alerts.jam ∧ (s.freePiece).path.position = s.path.position ∧
    (s.freePiece).path.params = s.path.params ∧ (s.freePiece).path.generation = s.path.generation ∧
    (s.freePiece).sorter.windows = s.sorter.windows ∧ (s.freePiece).sorter.capacity = s.sorter.capacity ∧
    (s.freePiece).sorter.lamps = s.sorter.lamps ∧ (s.freePiece).sorter.generation = s.sorter.generation ∧
    (s.freePiece).sorter.dropInputs = s.sorter.dropInputs ∧ (s.freePiece).sorter.clearInputs = s.sorter.clearInputs ∧
    (s.freePiece).outputs.stepPulse = s.outputs.stepPulse ∧ (s.freePiece).outputs.punchPulse = s.outputs.punchPulse ∧
    (s.freePiece).outputs.firePulse = s.outputs.firePulse ∧ (s.freePiece).exposure.profiles = s.exposure.profiles ∧
    (s.freePiece).exposure.luts = s.exposure.luts ∧ (s.freePiece).exposure.thermal = s.exposure.thermal ∧
    (s.freePiece).exposure.sizes = s.exposure.sizes ∧ (s.freePiece).exposure.paper = s.exposure.paper ∧
    (s.freePiece).exposure.profileGeneration = s.exposure.profileGeneration ∧
    (s.freePiece).exposure.lutGeneration = s.exposure.lutGeneration ∧
    (s.freePiece).exposure.thermalGeneration = s.exposure.thermalGeneration ∧
    (s.freePiece).exposure.sizeGeneration = s.exposure.sizeGeneration ∧
    (s.freePiece).exposure.paperGeneration = s.exposure.paperGeneration ∧
    (s.freePiece).exposure.reload = s.exposure.reload ∧ (s.freePiece).exposure.stepDue = s.exposure.stepDue := by
  unfold State.freePiece
  split
  · simp
  · dsimp only
    split <;> simp

/-- What `State.noteHead` leaves alone. -/
@[simp] theorem State.noteHead_keeps (f : Notes → Notes) (s : State) :
    (s.noteHead f).inReset = s.inReset ∧ (s.noteHead f).now = s.now ∧ (s.noteHead f).link = s.link ∧
    (s.noteHead f).store = s.store ∧ (s.noteHead f).commands = s.commands ∧ (s.noteHead f).reader = s.reader ∧
    (s.noteHead f).orders = s.orders ∧ (s.noteHead f).exposure = s.exposure ∧ (s.noteHead f).monitor = s.monitor ∧
    (s.noteHead f).cutter = s.cutter ∧ (s.noteHead f).sorter = s.sorter ∧ (s.noteHead f).price = s.price ∧
    (s.noteHead f).alerts = s.alerts ∧ (s.noteHead f).outputs = s.outputs ∧ (s.noteHead f).freeTags = s.freeTags ∧
    (s.noteHead f).pending = s.pending ∧ (s.noteHead f).path.run = s.path.run ∧
    (s.noteHead f).path.haltCause = s.path.haltCause ∧ (s.noteHead f).path.drainCause = s.path.drainCause ∧
    (s.noteHead f).path.position = s.path.position ∧ (s.noteHead f).path.dwell = s.path.dwell ∧
    (s.noteHead f).path.params = s.path.params ∧ (s.noteHead f).path.generation = s.path.generation ∧
    (s.noteHead f).path.rampDue = s.path.rampDue := by
  unfold State.noteHead
  simp

/-- What `State.endStreamShort` leaves alone. -/
@[simp] theorem State.endStreamShort_keeps (s : State) :
    (s.endStreamShort).inReset = s.inReset ∧ (s.endStreamShort).now = s.now ∧ (s.endStreamShort).link = s.link ∧
    (s.endStreamShort).store = s.store ∧ (s.endStreamShort).commands = s.commands ∧
    (s.endStreamShort).orders = s.orders ∧ (s.endStreamShort).exposure = s.exposure ∧
    (s.endStreamShort).monitor = s.monitor ∧ (s.endStreamShort).cutter = s.cutter ∧
    (s.endStreamShort).sorter = s.sorter ∧ (s.endStreamShort).price = s.price ∧
    (s.endStreamShort).alerts = s.alerts ∧ (s.endStreamShort).outputs = s.outputs ∧
    (s.endStreamShort).freeTags = s.freeTags ∧ (s.endStreamShort).pending = s.pending ∧
    (s.endStreamShort).path.run = s.path.run ∧ (s.endStreamShort).path.haltCause = s.path.haltCause ∧
    (s.endStreamShort).path.drainCause = s.path.drainCause ∧ (s.endStreamShort).path.position = s.path.position ∧
    (s.endStreamShort).path.dwell = s.path.dwell ∧ (s.endStreamShort).path.params = s.path.params ∧
    (s.endStreamShort).path.generation = s.path.generation ∧ (s.endStreamShort).path.rampDue = s.path.rampDue ∧
    (s.endStreamShort).reader.staged = s.reader.staged ∧ (s.endStreamShort).reader.lastLine = s.reader.lastLine := by
  unfold State.endStreamShort
  simp

/-- What `State.endStreamImplicit` leaves alone. -/
@[simp] theorem State.endStreamImplicit_keeps (s : State) :
    (s.endStreamImplicit).inReset = s.inReset ∧ (s.endStreamImplicit).now = s.now ∧
    (s.endStreamImplicit).link = s.link ∧ (s.endStreamImplicit).store = s.store ∧
    (s.endStreamImplicit).commands = s.commands ∧ (s.endStreamImplicit).orders = s.orders ∧
    (s.endStreamImplicit).exposure = s.exposure ∧ (s.endStreamImplicit).monitor = s.monitor ∧
    (s.endStreamImplicit).cutter = s.cutter ∧ (s.endStreamImplicit).sorter = s.sorter ∧
    (s.endStreamImplicit).price = s.price ∧ (s.endStreamImplicit).alerts = s.alerts ∧
    (s.endStreamImplicit).outputs = s.outputs ∧ (s.endStreamImplicit).freeTags = s.freeTags ∧
    (s.endStreamImplicit).pending = s.pending ∧ (s.endStreamImplicit).path.run = s.path.run ∧
    (s.endStreamImplicit).path.haltCause = s.path.haltCause ∧
    (s.endStreamImplicit).path.drainCause = s.path.drainCause ∧
    (s.endStreamImplicit).path.position = s.path.position ∧ (s.endStreamImplicit).path.dwell = s.path.dwell ∧
    (s.endStreamImplicit).path.params = s.path.params ∧ (s.endStreamImplicit).path.generation = s.path.generation ∧
    (s.endStreamImplicit).path.rampDue = s.path.rampDue ∧ (s.endStreamImplicit).reader.staged = s.reader.staged ∧
    (s.endStreamImplicit).reader.lastLine = s.reader.lastLine := by
  unfold State.endStreamImplicit
  simp

/-- What `State.noteAwaited` leaves alone. -/
@[simp] theorem State.noteAwaited_keeps (f : Notes → Notes) (s : State) :
    (s.noteAwaited f).inReset = s.inReset ∧ (s.noteAwaited f).now = s.now ∧ (s.noteAwaited f).link = s.link ∧
    (s.noteAwaited f).store = s.store ∧ (s.noteAwaited f).commands = s.commands ∧
    (s.noteAwaited f).reader = s.reader ∧ (s.noteAwaited f).orders = s.orders ∧
    (s.noteAwaited f).exposure = s.exposure ∧ (s.noteAwaited f).monitor = s.monitor ∧
    (s.noteAwaited f).cutter = s.cutter ∧ (s.noteAwaited f).price = s.price ∧ (s.noteAwaited f).alerts = s.alerts ∧
    (s.noteAwaited f).outputs = s.outputs ∧ (s.noteAwaited f).freeTags = s.freeTags ∧
    (s.noteAwaited f).pending = s.pending ∧ (s.noteAwaited f).path.run = s.path.run ∧
    (s.noteAwaited f).path.haltCause = s.path.haltCause ∧ (s.noteAwaited f).path.drainCause = s.path.drainCause ∧
    (s.noteAwaited f).path.position = s.path.position ∧ (s.noteAwaited f).path.dwell = s.path.dwell ∧
    (s.noteAwaited f).path.params = s.path.params ∧ (s.noteAwaited f).path.generation = s.path.generation ∧
    (s.noteAwaited f).path.rampDue = s.path.rampDue ∧ (s.noteAwaited f).sorter.bins = s.sorter.bins ∧
    (s.noteAwaited f).sorter.tray = s.sorter.tray ∧ (s.noteAwaited f).sorter.windows = s.sorter.windows ∧
    (s.noteAwaited f).sorter.capacity = s.sorter.capacity ∧ (s.noteAwaited f).sorter.lamps = s.sorter.lamps ∧
    (s.noteAwaited f).sorter.generation = s.sorter.generation ∧
    (s.noteAwaited f).sorter.dropInputs = s.sorter.dropInputs ∧
    (s.noteAwaited f).sorter.clearInputs = s.sorter.clearInputs := by
  unfold State.noteAwaited
  split <;> simp

/-- What `State.toReading` leaves alone. -/
@[simp] theorem State.toReading_keeps (s : State) :
    (s.toReading).inReset = s.inReset ∧ (s.toReading).now = s.now ∧ (s.toReading).link = s.link ∧
    (s.toReading).store = s.store ∧ (s.toReading).commands = s.commands ∧ (s.toReading).orders = s.orders ∧
    (s.toReading).exposure = s.exposure ∧ (s.toReading).monitor = s.monitor ∧ (s.toReading).cutter = s.cutter ∧
    (s.toReading).price = s.price ∧ (s.toReading).alerts = s.alerts ∧ (s.toReading).outputs = s.outputs ∧
    (s.toReading).freeTags = s.freeTags ∧ (s.toReading).pending = s.pending ∧ (s.toReading).path.run = s.path.run ∧
    (s.toReading).path.haltCause = s.path.haltCause ∧ (s.toReading).path.drainCause = s.path.drainCause ∧
    (s.toReading).path.position = s.path.position ∧ (s.toReading).path.dwell = s.path.dwell ∧
    (s.toReading).path.params = s.path.params ∧ (s.toReading).path.generation = s.path.generation ∧
    (s.toReading).path.rampDue = s.path.rampDue ∧ (s.toReading).sorter.bins = s.sorter.bins ∧
    (s.toReading).sorter.tray = s.sorter.tray ∧ (s.toReading).sorter.windows = s.sorter.windows ∧
    (s.toReading).sorter.capacity = s.sorter.capacity ∧ (s.toReading).sorter.lamps = s.sorter.lamps ∧
    (s.toReading).sorter.generation = s.sorter.generation ∧ (s.toReading).sorter.dropInputs = s.sorter.dropInputs ∧
    (s.toReading).sorter.clearInputs = s.sorter.clearInputs ∧ (s.toReading).reader.staged = s.reader.staged ∧
    (s.toReading).reader.lastLine = s.reader.lastLine := by
  unfold State.toReading
  split <;> simp

/-- What `State.modifyPrint` leaves alone. -/
@[simp] theorem State.modifyPrint_keeps (f : PrintRecord → PrintRecord) (s : State) :
    (s.modifyPrint f).inReset = s.inReset ∧ (s.modifyPrint f).now = s.now ∧ (s.modifyPrint f).link = s.link ∧
    (s.modifyPrint f).store = s.store ∧ (s.modifyPrint f).commands = s.commands ∧
    (s.modifyPrint f).reader = s.reader ∧ (s.modifyPrint f).orders = s.orders ∧
    (s.modifyPrint f).exposure = s.exposure ∧ (s.modifyPrint f).monitor = s.monitor ∧
    (s.modifyPrint f).cutter = s.cutter ∧ (s.modifyPrint f).sorter = s.sorter ∧ (s.modifyPrint f).price = s.price ∧
    (s.modifyPrint f).alerts = s.alerts ∧ (s.modifyPrint f).outputs = s.outputs ∧
    (s.modifyPrint f).freeTags = s.freeTags ∧ (s.modifyPrint f).pending = s.pending ∧
    (s.modifyPrint f).path.run = s.path.run ∧ (s.modifyPrint f).path.haltCause = s.path.haltCause ∧
    (s.modifyPrint f).path.drainCause = s.path.drainCause ∧ (s.modifyPrint f).path.position = s.path.position ∧
    (s.modifyPrint f).path.dwell = s.path.dwell ∧ (s.modifyPrint f).path.params = s.path.params ∧
    (s.modifyPrint f).path.generation = s.path.generation ∧ (s.modifyPrint f).path.rampDue = s.path.rampDue := by
  unfold State.modifyPrint
  simp

/-- What `State.settleFront` leaves alone. -/
@[simp] theorem State.settleFront_keeps (s : State) :
    (s.settleFront).inReset = s.inReset ∧ (s.settleFront).now = s.now ∧ (s.settleFront).commands = s.commands ∧
    (s.settleFront).orders = s.orders ∧ (s.settleFront).exposure = s.exposure ∧ (s.settleFront).monitor = s.monitor ∧
    (s.settleFront).cutter = s.cutter ∧ (s.settleFront).sorter = s.sorter ∧ (s.settleFront).price = s.price ∧
    (s.settleFront).alerts = s.alerts ∧ (s.settleFront).outputs = s.outputs ∧ (s.settleFront).freeTags = s.freeTags ∧
    (s.settleFront).pending = s.pending ∧ (s.settleFront).path.run = s.path.run ∧
    (s.settleFront).path.haltCause = s.path.haltCause ∧ (s.settleFront).path.drainCause = s.path.drainCause ∧
    (s.settleFront).path.position = s.path.position ∧ (s.settleFront).path.dwell = s.path.dwell ∧
    (s.settleFront).path.params = s.path.params ∧ (s.settleFront).path.generation = s.path.generation ∧
    (s.settleFront).path.rampDue = s.path.rampDue ∧ (s.settleFront).reader.staged = s.reader.staged ∧
    (s.settleFront).reader.lastLine = s.reader.lastLine ∧ (s.settleFront).link.receiver = s.link.receiver ∧
    (s.settleFront).link.breakHeld = s.link.breakHeld ∧ (s.settleFront).link.spacing = s.link.spacing ∧
    (s.settleFront).link.availableStream = s.link.availableStream ∧
    (s.settleFront).link.availableCommand = s.link.availableCommand ∧
    (s.settleFront).link.returnedCommand = s.link.returnedCommand ∧ (s.settleFront).link.outbound = s.link.outbound ∧
    (s.settleFront).link.overflow = s.link.overflow ∧ (s.settleFront).link.dropped = s.link.dropped ∧
    (s.settleFront).link.transmitting = s.link.transmitting ∧
    (s.settleFront).link.transmitterFreeAt = s.link.transmitterFreeAt := by
  unfold State.settleFront
  repeat' split
  all_goals simp

/-- What `State.underrun` leaves alone. -/
@[simp] theorem State.underrun_keeps (p : PrintRecord) (s : State) :
    (s.underrun p).2.inReset = s.inReset ∧ (s.underrun p).2.now = s.now ∧ (s.underrun p).2.store = s.store ∧
    (s.underrun p).2.commands = s.commands ∧ (s.underrun p).2.reader = s.reader ∧
    (s.underrun p).2.orders = s.orders ∧ (s.underrun p).2.exposure = s.exposure ∧
    (s.underrun p).2.monitor = s.monitor ∧ (s.underrun p).2.cutter = s.cutter ∧ (s.underrun p).2.sorter = s.sorter ∧
    (s.underrun p).2.price = s.price ∧ (s.underrun p).2.outputs = s.outputs ∧ (s.underrun p).2.pending = s.pending ∧
    (s.underrun p).2.path.run = s.path.run ∧ (s.underrun p).2.path.haltCause = s.path.haltCause ∧
    (s.underrun p).2.path.drainCause = s.path.drainCause ∧ (s.underrun p).2.path.position = s.path.position ∧
    (s.underrun p).2.path.dwell = s.path.dwell ∧ (s.underrun p).2.path.params = s.path.params ∧
    (s.underrun p).2.path.generation = s.path.generation ∧ (s.underrun p).2.path.rampDue = s.path.rampDue ∧
    (s.underrun p).2.link.receiver = s.link.receiver ∧ (s.underrun p).2.link.breakHeld = s.link.breakHeld ∧
    (s.underrun p).2.link.spacing = s.link.spacing ∧ (s.underrun p).2.link.availableStream = s.link.availableStream ∧
    (s.underrun p).2.link.availableCommand = s.link.availableCommand ∧
    (s.underrun p).2.link.returnedStream = s.link.returnedStream ∧
    (s.underrun p).2.link.returnedCommand = s.link.returnedCommand ∧
    (s.underrun p).2.link.transmitting = s.link.transmitting ∧
    (s.underrun p).2.link.transmitterFreeAt = s.link.transmitterFreeAt ∧
    (s.underrun p).2.alerts.counters = s.alerts.counters ∧ (s.underrun p).2.alerts.estop = s.alerts.estop ∧
    (s.underrun p).2.alerts.jam = s.alerts.jam := by
  unfold State.underrun
  simp

/-- What `State.nextLine` leaves alone. -/
@[simp] theorem State.nextLine_keeps (p : PrintRecord) (x : LineSource) (s : State) :
    (s.nextLine p x).2.inReset = s.inReset ∧ (s.nextLine p x).2.now = s.now ∧
    (s.nextLine p x).2.commands = s.commands ∧ (s.nextLine p x).2.orders = s.orders ∧
    (s.nextLine p x).2.exposure = s.exposure ∧ (s.nextLine p x).2.monitor = s.monitor ∧
    (s.nextLine p x).2.cutter = s.cutter ∧ (s.nextLine p x).2.sorter = s.sorter ∧
    (s.nextLine p x).2.price = s.price ∧ (s.nextLine p x).2.outputs = s.outputs ∧
    (s.nextLine p x).2.pending = s.pending ∧ (s.nextLine p x).2.path.run = s.path.run ∧
    (s.nextLine p x).2.path.haltCause = s.path.haltCause ∧ (s.nextLine p x).2.path.drainCause = s.path.drainCause ∧
    (s.nextLine p x).2.path.position = s.path.position ∧ (s.nextLine p x).2.path.dwell = s.path.dwell ∧
    (s.nextLine p x).2.path.params = s.path.params ∧ (s.nextLine p x).2.path.generation = s.path.generation ∧
    (s.nextLine p x).2.path.rampDue = s.path.rampDue ∧ (s.nextLine p x).2.link.receiver = s.link.receiver ∧
    (s.nextLine p x).2.link.breakHeld = s.link.breakHeld ∧ (s.nextLine p x).2.link.spacing = s.link.spacing ∧
    (s.nextLine p x).2.link.availableStream = s.link.availableStream ∧
    (s.nextLine p x).2.link.availableCommand = s.link.availableCommand ∧
    (s.nextLine p x).2.link.returnedCommand = s.link.returnedCommand ∧
    (s.nextLine p x).2.link.transmitting = s.link.transmitting ∧
    (s.nextLine p x).2.link.transmitterFreeAt = s.link.transmitterFreeAt ∧
    (s.nextLine p x).2.alerts.counters = s.alerts.counters ∧ (s.nextLine p x).2.alerts.estop = s.alerts.estop ∧
    (s.nextLine p x).2.alerts.jam = s.alerts.jam ∧ (s.nextLine p x).2.reader.mode = s.reader.mode ∧
    (s.nextLine p x).2.reader.staged = s.reader.staged ∧ (s.nextLine p x).2.reader.source = s.reader.source ∧
    (s.nextLine p x).2.reader.awaited = s.reader.awaited := by
  unfold State.nextLine
  split
  · simp
  · simp
  · dsimp only
    split
    · split <;> simp
    · simp

/-- What `State.completePrint` leaves alone. -/
@[simp] theorem State.completePrint_keeps (s : State) :
    (s.completePrint).inReset = s.inReset ∧ (s.completePrint).now = s.now ∧ (s.completePrint).link = s.link ∧
    (s.completePrint).store = s.store ∧ (s.completePrint).commands = s.commands ∧
    (s.completePrint).orders = s.orders ∧ (s.completePrint).exposure = s.exposure ∧ (s.completePrint).path = s.path ∧
    (s.completePrint).monitor = s.monitor ∧ (s.completePrint).cutter = s.cutter ∧
    (s.completePrint).sorter = s.sorter ∧ (s.completePrint).price = s.price ∧ (s.completePrint).alerts = s.alerts ∧
    (s.completePrint).outputs = s.outputs ∧ (s.completePrint).freeTags = s.freeTags ∧
    (s.completePrint).pending = s.pending ∧ (s.completePrint).reader.staged = s.reader.staged := by
  unfold State.completePrint
  repeat' split
  all_goals simp

/-- What `State.exposeLine` leaves alone. -/
@[simp] theorem State.exposeLine_keeps (s : State) :
    (s.exposeLine).inReset = s.inReset ∧ (s.exposeLine).now = s.now ∧ (s.exposeLine).commands = s.commands ∧
    (s.exposeLine).orders = s.orders ∧ (s.exposeLine).monitor = s.monitor ∧ (s.exposeLine).cutter = s.cutter ∧
    (s.exposeLine).sorter = s.sorter ∧ (s.exposeLine).price = s.price ∧ (s.exposeLine).outputs = s.outputs ∧
    (s.exposeLine).pending = s.pending ∧ (s.exposeLine).path.run = s.path.run ∧
    (s.exposeLine).path.haltCause = s.path.haltCause ∧ (s.exposeLine).path.drainCause = s.path.drainCause ∧
    (s.exposeLine).path.position = s.path.position ∧ (s.exposeLine).path.dwell = s.path.dwell ∧
    (s.exposeLine).path.params = s.path.params ∧ (s.exposeLine).path.generation = s.path.generation ∧
    (s.exposeLine).path.rampDue = s.path.rampDue ∧ (s.exposeLine).link.receiver = s.link.receiver ∧
    (s.exposeLine).link.breakHeld = s.link.breakHeld ∧ (s.exposeLine).link.spacing = s.link.spacing ∧
    (s.exposeLine).link.availableStream = s.link.availableStream ∧
    (s.exposeLine).link.availableCommand = s.link.availableCommand ∧
    (s.exposeLine).link.returnedCommand = s.link.returnedCommand ∧
    (s.exposeLine).link.transmitting = s.link.transmitting ∧
    (s.exposeLine).link.transmitterFreeAt = s.link.transmitterFreeAt ∧
    (s.exposeLine).alerts.counters = s.alerts.counters ∧ (s.exposeLine).alerts.estop = s.alerts.estop ∧
    (s.exposeLine).alerts.jam = s.alerts.jam ∧ (s.exposeLine).reader.staged = s.reader.staged ∧
    (s.exposeLine).exposure.profiles = s.exposure.profiles ∧ (s.exposeLine).exposure.luts = s.exposure.luts ∧
    (s.exposeLine).exposure.thermal = s.exposure.thermal ∧ (s.exposeLine).exposure.sizes = s.exposure.sizes ∧
    (s.exposeLine).exposure.paper = s.exposure.paper ∧
    (s.exposeLine).exposure.profileGeneration = s.exposure.profileGeneration ∧
    (s.exposeLine).exposure.lutGeneration = s.exposure.lutGeneration ∧
    (s.exposeLine).exposure.thermalGeneration = s.exposure.thermalGeneration ∧
    (s.exposeLine).exposure.sizeGeneration = s.exposure.sizeGeneration ∧
    (s.exposeLine).exposure.paperGeneration = s.exposure.paperGeneration ∧
    (s.exposeLine).exposure.reload = s.exposure.reload ∧ (s.exposeLine).exposure.stepDue = s.exposure.stepDue := by
  unfold State.exposeLine
  split
  · simp
  · simp

/-- What `State.countStep` leaves alone. -/
@[simp] theorem State.countStep_keeps (s : State) :
    (s.countStep).inReset = s.inReset ∧ (s.countStep).now = s.now ∧ (s.countStep).link = s.link ∧
    (s.countStep).store = s.store ∧ (s.countStep).commands = s.commands ∧ (s.countStep).reader = s.reader ∧
    (s.countStep).orders = s.orders ∧ (s.countStep).exposure = s.exposure ∧ (s.countStep).path = s.path ∧
    (s.countStep).monitor = s.monitor ∧ (s.countStep).cutter = s.cutter ∧ (s.countStep).sorter = s.sorter ∧
    (s.countStep).price = s.price ∧ (s.countStep).outputs = s.outputs ∧ (s.countStep).freeTags = s.freeTags ∧
    (s.countStep).pending = s.pending ∧ (s.countStep).alerts.causes = s.alerts.causes ∧
    (s.countStep).alerts.estop = s.alerts.estop ∧ (s.countStep).alerts.jam = s.alerts.jam := by
  unfold State.countStep
  dsimp only
  repeat' split
  all_goals simp

/-- What `State.actOnTrip` leaves alone. -/
@[simp] theorem State.actOnTrip_keeps (i : Nat) (s : State) :
    (s.actOnTrip i).inReset = s.inReset ∧ (s.actOnTrip i).now = s.now ∧ (s.actOnTrip i).link = s.link ∧
    (s.actOnTrip i).store = s.store ∧ (s.actOnTrip i).commands = s.commands ∧ (s.actOnTrip i).reader = s.reader ∧
    (s.actOnTrip i).orders = s.orders ∧ (s.actOnTrip i).exposure = s.exposure ∧ (s.actOnTrip i).monitor = s.monitor ∧
    (s.actOnTrip i).cutter = s.cutter ∧ (s.actOnTrip i).sorter = s.sorter ∧ (s.actOnTrip i).price = s.price ∧
    (s.actOnTrip i).alerts = s.alerts ∧ (s.actOnTrip i).outputs = s.outputs ∧ (s.actOnTrip i).freeTags = s.freeTags ∧
    (s.actOnTrip i).pending = s.pending ∧ (s.actOnTrip i).path.run = s.path.run ∧
    (s.actOnTrip i).path.haltCause = s.path.haltCause ∧ (s.actOnTrip i).path.drainCause = s.path.drainCause ∧
    (s.actOnTrip i).path.position = s.path.position ∧ (s.actOnTrip i).path.dwell = s.path.dwell ∧
    (s.actOnTrip i).path.params = s.path.params ∧ (s.actOnTrip i).path.generation = s.path.generation ∧
    (s.actOnTrip i).path.rampDue = s.path.rampDue := by
  unfold State.actOnTrip
  repeat' split
  all_goals simp

/-- What `State.judgeChannel` leaves alone. -/
@[simp] theorem State.judgeChannel_keeps (v : Int) (s : State) :
    (s.judgeChannel v).inReset = s.inReset ∧ (s.judgeChannel v).now = s.now ∧ (s.judgeChannel v).store = s.store ∧
    (s.judgeChannel v).commands = s.commands ∧ (s.judgeChannel v).reader = s.reader ∧
    (s.judgeChannel v).orders = s.orders ∧ (s.judgeChannel v).exposure = s.exposure ∧
    (s.judgeChannel v).cutter = s.cutter ∧ (s.judgeChannel v).sorter = s.sorter ∧
    (s.judgeChannel v).price = s.price ∧ (s.judgeChannel v).outputs = s.outputs ∧
    (s.judgeChannel v).pending = s.pending ∧ (s.judgeChannel v).monitor.converting = s.monitor.converting ∧
    (s.judgeChannel v).monitor.conversionDue = s.monitor.conversionDue ∧
    (s.judgeChannel v).monitor.generation = s.monitor.generation ∧ (s.judgeChannel v).path.run = s.path.run ∧
    (s.judgeChannel v).path.haltCause = s.path.haltCause ∧ (s.judgeChannel v).path.drainCause = s.path.drainCause ∧
    (s.judgeChannel v).path.position = s.path.position ∧ (s.judgeChannel v).path.dwell = s.path.dwell ∧
    (s.judgeChannel v).path.params = s.path.params ∧ (s.judgeChannel v).path.generation = s.path.generation ∧
    (s.judgeChannel v).path.rampDue = s.path.rampDue ∧ (s.judgeChannel v).link.receiver = s.link.receiver ∧
    (s.judgeChannel v).link.breakHeld = s.link.breakHeld ∧ (s.judgeChannel v).link.spacing = s.link.spacing ∧
    (s.judgeChannel v).link.availableStream = s.link.availableStream ∧
    (s.judgeChannel v).link.availableCommand = s.link.availableCommand ∧
    (s.judgeChannel v).link.returnedStream = s.link.returnedStream ∧
    (s.judgeChannel v).link.returnedCommand = s.link.returnedCommand ∧
    (s.judgeChannel v).link.transmitting = s.link.transmitting ∧
    (s.judgeChannel v).link.transmitterFreeAt = s.link.transmitterFreeAt ∧
    (s.judgeChannel v).alerts.counters = s.alerts.counters ∧ (s.judgeChannel v).alerts.estop = s.alerts.estop ∧
    (s.judgeChannel v).alerts.jam = s.alerts.jam := by
  unfold State.judgeChannel
  dsimp only
  split
  · simp
  · split
    · split <;> simp
    · split <;> simp

/-- What `State.clearCause` leaves alone. -/
@[simp] theorem State.clearCause_keeps (c : Cause) (s : State) :
    (s.clearCause c).inReset = s.inReset ∧ (s.clearCause c).now = s.now ∧ (s.clearCause c).link = s.link ∧
    (s.clearCause c).store = s.store ∧ (s.clearCause c).commands = s.commands ∧ (s.clearCause c).reader = s.reader ∧
    (s.clearCause c).orders = s.orders ∧ (s.clearCause c).exposure = s.exposure ∧ (s.clearCause c).path = s.path ∧
    (s.clearCause c).monitor = s.monitor ∧ (s.clearCause c).cutter = s.cutter ∧ (s.clearCause c).sorter = s.sorter ∧
    (s.clearCause c).price = s.price ∧ (s.clearCause c).outputs = s.outputs ∧
    (s.clearCause c).freeTags = s.freeTags ∧ (s.clearCause c).pending = s.pending ∧
    (s.clearCause c).alerts.counters = s.alerts.counters ∧ (s.clearCause c).alerts.estop = s.alerts.estop ∧
    (s.clearCause c).alerts.jam = s.alerts.jam := by
  unfold State.clearCause
  simp

/-- What `State.armChannel` leaves alone. -/
@[simp] theorem State.armChannel_keeps (c : Cause) (s : State) :
    (s.armChannel c).inReset = s.inReset ∧ (s.armChannel c).now = s.now ∧ (s.armChannel c).link = s.link ∧
    (s.armChannel c).store = s.store ∧ (s.armChannel c).commands = s.commands ∧ (s.armChannel c).reader = s.reader ∧
    (s.armChannel c).orders = s.orders ∧ (s.armChannel c).exposure = s.exposure ∧ (s.armChannel c).path = s.path ∧
    (s.armChannel c).cutter = s.cutter ∧ (s.armChannel c).sorter = s.sorter ∧ (s.armChannel c).price = s.price ∧
    (s.armChannel c).alerts = s.alerts ∧ (s.armChannel c).outputs = s.outputs ∧
    (s.armChannel c).freeTags = s.freeTags ∧ (s.armChannel c).pending = s.pending ∧
    (s.armChannel c).monitor.converting = s.monitor.converting ∧
    (s.armChannel c).monitor.conversionDue = s.monitor.conversionDue ∧
    (s.armChannel c).monitor.generation = s.monitor.generation := by
  unfold State.armChannel
  split <;> simp

/-- What `State.clearCauses` leaves alone. -/
@[simp] theorem State.clearCauses_keeps (l : List Cause) (s : State) :
    (s.clearCauses l).inReset = s.inReset ∧ (s.clearCauses l).now = s.now ∧ (s.clearCauses l).link = s.link ∧
    (s.clearCauses l).store = s.store ∧ (s.clearCauses l).commands = s.commands ∧
    (s.clearCauses l).reader = s.reader ∧ (s.clearCauses l).orders = s.orders ∧
    (s.clearCauses l).exposure = s.exposure ∧ (s.clearCauses l).path = s.path ∧ (s.clearCauses l).cutter = s.cutter ∧
    (s.clearCauses l).sorter = s.sorter ∧ (s.clearCauses l).price = s.price ∧ (s.clearCauses l).outputs = s.outputs ∧
    (s.clearCauses l).freeTags = s.freeTags ∧ (s.clearCauses l).pending = s.pending ∧
    (s.clearCauses l).alerts.counters = s.alerts.counters ∧ (s.clearCauses l).alerts.estop = s.alerts.estop ∧
    (s.clearCauses l).alerts.jam = s.alerts.jam ∧ (s.clearCauses l).monitor.converting = s.monitor.converting ∧
    (s.clearCauses l).monitor.conversionDue = s.monitor.conversionDue ∧
    (s.clearCauses l).monitor.generation = s.monitor.generation := by
  unfold State.clearCauses
  induction l generalizing s with
  | nil => simp
  | cons a l ih => have h := ih ((s.clearCause a).armChannel a); simp_all

/-- What `State.raiseLevels` leaves alone. -/
@[simp] theorem State.raiseLevels_keeps (l : List Cause) (s : State) :
    (s.raiseLevels l).inReset = s.inReset ∧ (s.raiseLevels l).now = s.now ∧ (s.raiseLevels l).store = s.store ∧
    (s.raiseLevels l).commands = s.commands ∧ (s.raiseLevels l).reader = s.reader ∧
    (s.raiseLevels l).orders = s.orders ∧ (s.raiseLevels l).exposure = s.exposure ∧ (s.raiseLevels l).path = s.path ∧
    (s.raiseLevels l).monitor = s.monitor ∧ (s.raiseLevels l).cutter = s.cutter ∧
    (s.raiseLevels l).sorter = s.sorter ∧ (s.raiseLevels l).price = s.price ∧ (s.raiseLevels l).outputs = s.outputs ∧
    (s.raiseLevels l).pending = s.pending ∧ (s.raiseLevels l).link.receiver = s.link.receiver ∧
    (s.raiseLevels l).link.breakHeld = s.link.breakHeld ∧ (s.raiseLevels l).link.spacing = s.link.spacing ∧
    (s.raiseLevels l).link.availableStream = s.link.availableStream ∧
    (s.raiseLevels l).link.availableCommand = s.link.availableCommand ∧
    (s.raiseLevels l).link.returnedStream = s.link.returnedStream ∧
    (s.raiseLevels l).link.returnedCommand = s.link.returnedCommand ∧
    (s.raiseLevels l).link.transmitting = s.link.transmitting ∧
    (s.raiseLevels l).link.transmitterFreeAt = s.link.transmitterFreeAt ∧
    (s.raiseLevels l).alerts.counters = s.alerts.counters ∧ (s.raiseLevels l).alerts.estop = s.alerts.estop ∧
    (s.raiseLevels l).alerts.jam = s.alerts.jam := by
  unfold State.raiseLevels
  induction l generalizing s with
  | nil => simp
  | cons a l ih =>
    simp only [List.foldl_cons]
    split
    · have h := ih (s.raise a); simp_all
    · exact ih s

/-- What `State.reportCauses` leaves alone. -/
@[simp] theorem State.reportCauses_keeps (l : List Cause) (s : State) :
    (s.reportCauses l).inReset = s.inReset ∧ (s.reportCauses l).now = s.now ∧ (s.reportCauses l).store = s.store ∧
    (s.reportCauses l).commands = s.commands ∧ (s.reportCauses l).reader = s.reader ∧
    (s.reportCauses l).orders = s.orders ∧ (s.reportCauses l).exposure = s.exposure ∧
    (s.reportCauses l).path = s.path ∧ (s.reportCauses l).monitor = s.monitor ∧
    (s.reportCauses l).cutter = s.cutter ∧ (s.reportCauses l).sorter = s.sorter ∧
    (s.reportCauses l).price = s.price ∧ (s.reportCauses l).outputs = s.outputs ∧
    (s.reportCauses l).pending = s.pending ∧ (s.reportCauses l).link.receiver = s.link.receiver ∧
    (s.reportCauses l).link.breakHeld = s.link.breakHeld ∧ (s.reportCauses l).link.spacing = s.link.spacing ∧
    (s.reportCauses l).link.availableStream = s.link.availableStream ∧
    (s.reportCauses l).link.availableCommand = s.link.availableCommand ∧
    (s.reportCauses l).link.returnedStream = s.link.returnedStream ∧
    (s.reportCauses l).link.returnedCommand = s.link.returnedCommand ∧
    (s.reportCauses l).link.transmitting = s.link.transmitting ∧
    (s.reportCauses l).link.transmitterFreeAt = s.link.transmitterFreeAt ∧
    (s.reportCauses l).alerts.counters = s.alerts.counters ∧ (s.reportCauses l).alerts.estop = s.alerts.estop ∧
    (s.reportCauses l).alerts.jam = s.alerts.jam := by
  unfold State.reportCauses
  induction l generalizing s with
  | nil => simp
  | cons a l ih => have h := ih (s.reportCause a); simp_all

/-- What `State.setStopLevel` leaves alone. -/
@[simp] theorem State.setStopLevel_keeps (i : StopInput) (b : Bool) (s : State) :
    (s.setStopLevel i b).inReset = s.inReset ∧ (s.setStopLevel i b).now = s.now ∧
    (s.setStopLevel i b).link = s.link ∧ (s.setStopLevel i b).store = s.store ∧
    (s.setStopLevel i b).commands = s.commands ∧ (s.setStopLevel i b).reader = s.reader ∧
    (s.setStopLevel i b).orders = s.orders ∧ (s.setStopLevel i b).exposure = s.exposure ∧
    (s.setStopLevel i b).path = s.path ∧ (s.setStopLevel i b).monitor = s.monitor ∧
    (s.setStopLevel i b).cutter = s.cutter ∧ (s.setStopLevel i b).sorter = s.sorter ∧
    (s.setStopLevel i b).price = s.price ∧ (s.setStopLevel i b).outputs = s.outputs ∧
    (s.setStopLevel i b).freeTags = s.freeTags ∧ (s.setStopLevel i b).pending = s.pending ∧
    (s.setStopLevel i b).alerts.causes = s.alerts.causes ∧ (s.setStopLevel i b).alerts.counters = s.alerts.counters := by
  cases i <;> simp [State.setStopLevel]

/-- What `State.useCredit` leaves alone. -/
@[simp] theorem State.useCredit_keeps (k : InKind) (s : State) :
    (s.useCredit k).inReset = s.inReset ∧ (s.useCredit k).now = s.now ∧ (s.useCredit k).store = s.store ∧
    (s.useCredit k).commands = s.commands ∧ (s.useCredit k).reader = s.reader ∧ (s.useCredit k).orders = s.orders ∧
    (s.useCredit k).exposure = s.exposure ∧ (s.useCredit k).path = s.path ∧ (s.useCredit k).monitor = s.monitor ∧
    (s.useCredit k).cutter = s.cutter ∧ (s.useCredit k).sorter = s.sorter ∧ (s.useCredit k).price = s.price ∧
    (s.useCredit k).alerts = s.alerts ∧ (s.useCredit k).outputs = s.outputs ∧ (s.useCredit k).freeTags = s.freeTags ∧
    (s.useCredit k).pending = s.pending ∧ (s.useCredit k).link.receiver = s.link.receiver ∧
    (s.useCredit k).link.breakHeld = s.link.breakHeld ∧ (s.useCredit k).link.spacing = s.link.spacing ∧
    (s.useCredit k).link.returnedStream = s.link.returnedStream ∧
    (s.useCredit k).link.returnedCommand = s.link.returnedCommand ∧ (s.useCredit k).link.outbound = s.link.outbound ∧
    (s.useCredit k).link.overflow = s.link.overflow ∧ (s.useCredit k).link.dropped = s.link.dropped ∧
    (s.useCredit k).link.transmitting = s.link.transmitting ∧
    (s.useCredit k).link.transmitterFreeAt = s.link.transmitterFreeAt := by
  unfold State.useCredit
  split <;> simp

/-- What `State.returnCredit` leaves alone. -/
@[simp] theorem State.returnCredit_keeps (k : InKind) (s : State) :
    (s.returnCredit k).inReset = s.inReset ∧ (s.returnCredit k).now = s.now ∧ (s.returnCredit k).store = s.store ∧
    (s.returnCredit k).commands = s.commands ∧ (s.returnCredit k).reader = s.reader ∧
    (s.returnCredit k).orders = s.orders ∧ (s.returnCredit k).exposure = s.exposure ∧
    (s.returnCredit k).path = s.path ∧ (s.returnCredit k).monitor = s.monitor ∧
    (s.returnCredit k).cutter = s.cutter ∧ (s.returnCredit k).sorter = s.sorter ∧
    (s.returnCredit k).price = s.price ∧ (s.returnCredit k).alerts = s.alerts ∧
    (s.returnCredit k).outputs = s.outputs ∧ (s.returnCredit k).freeTags = s.freeTags ∧
    (s.returnCredit k).pending = s.pending ∧ (s.returnCredit k).link.receiver = s.link.receiver ∧
    (s.returnCredit k).link.breakHeld = s.link.breakHeld ∧ (s.returnCredit k).link.spacing = s.link.spacing ∧
    (s.returnCredit k).link.availableStream = s.link.availableStream ∧
    (s.returnCredit k).link.availableCommand = s.link.availableCommand ∧
    (s.returnCredit k).link.outbound = s.link.outbound ∧ (s.returnCredit k).link.overflow = s.link.overflow ∧
    (s.returnCredit k).link.dropped = s.link.dropped ∧ (s.returnCredit k).link.transmitting = s.link.transmitting ∧
    (s.returnCredit k).link.transmitterFreeAt = s.link.transmitterFreeAt := by
  unfold State.returnCredit
  split <;> simp

/-- What `State.failFrame` leaves alone. -/
@[simp] theorem State.failFrame_keeps (k : Byte) (s : State) :
    (s.failFrame k).inReset = s.inReset ∧ (s.failFrame k).now = s.now ∧ (s.failFrame k).store = s.store ∧
    (s.failFrame k).commands = s.commands ∧ (s.failFrame k).reader = s.reader ∧ (s.failFrame k).orders = s.orders ∧
    (s.failFrame k).exposure = s.exposure ∧ (s.failFrame k).path = s.path ∧ (s.failFrame k).monitor = s.monitor ∧
    (s.failFrame k).cutter = s.cutter ∧ (s.failFrame k).sorter = s.sorter ∧ (s.failFrame k).price = s.price ∧
    (s.failFrame k).outputs = s.outputs ∧ (s.failFrame k).pending = s.pending ∧
    (s.failFrame k).link.receiver = s.link.receiver ∧ (s.failFrame k).link.breakHeld = s.link.breakHeld ∧
    (s.failFrame k).link.spacing = s.link.spacing ∧ (s.failFrame k).link.transmitting = s.link.transmitting ∧
    (s.failFrame k).link.transmitterFreeAt = s.link.transmitterFreeAt ∧
    (s.failFrame k).alerts.estop = s.alerts.estop ∧ (s.failFrame k).alerts.jam = s.alerts.jam := by
  unfold State.failFrame
  dsimp only
  repeat' split
  all_goals simp

/-- What `State.admitFrame` leaves alone. -/
@[simp] theorem State.admitFrame_keeps (f : InFrame) (s : State) :
    (s.admitFrame f).inReset = s.inReset ∧ (s.admitFrame f).now = s.now ∧ (s.admitFrame f).reader = s.reader ∧
    (s.admitFrame f).orders = s.orders ∧ (s.admitFrame f).exposure = s.exposure ∧ (s.admitFrame f).path = s.path ∧
    (s.admitFrame f).monitor = s.monitor ∧ (s.admitFrame f).cutter = s.cutter ∧ (s.admitFrame f).sorter = s.sorter ∧
    (s.admitFrame f).price = s.price ∧ (s.admitFrame f).outputs = s.outputs ∧ (s.admitFrame f).pending = s.pending ∧
    (s.admitFrame f).link.receiver = s.link.receiver ∧ (s.admitFrame f).link.breakHeld = s.link.breakHeld ∧
    (s.admitFrame f).link.spacing = s.link.spacing ∧ (s.admitFrame f).link.returnedStream = s.link.returnedStream ∧
    (s.admitFrame f).link.returnedCommand = s.link.returnedCommand ∧
    (s.admitFrame f).link.transmitting = s.link.transmitting ∧
    (s.admitFrame f).link.transmitterFreeAt = s.link.transmitterFreeAt ∧
    (s.admitFrame f).alerts.counters = s.alerts.counters ∧ (s.admitFrame f).alerts.estop = s.alerts.estop ∧
    (s.admitFrame f).alerts.jam = s.alerts.jam := by
  unfold State.admitFrame
  repeat' split
  all_goals simp

/-- What `State.judgeFrame` leaves alone. -/
@[simp] theorem State.judgeFrame_keeps (k t : Byte) (n : Nat) (l : List Byte) (s : State) :
    (s.judgeFrame k t n l).inReset = s.inReset ∧ (s.judgeFrame k t n l).now = s.now ∧
    (s.judgeFrame k t n l).reader = s.reader ∧ (s.judgeFrame k t n l).orders = s.orders ∧
    (s.judgeFrame k t n l).exposure = s.exposure ∧ (s.judgeFrame k t n l).path = s.path ∧
    (s.judgeFrame k t n l).monitor = s.monitor ∧ (s.judgeFrame k t n l).cutter = s.cutter ∧
    (s.judgeFrame k t n l).sorter = s.sorter ∧ (s.judgeFrame k t n l).price = s.price ∧
    (s.judgeFrame k t n l).outputs = s.outputs ∧ (s.judgeFrame k t n l).pending = s.pending ∧
    (s.judgeFrame k t n l).link.receiver = s.link.receiver ∧
    (s.judgeFrame k t n l).link.breakHeld = s.link.breakHeld ∧ (s.judgeFrame k t n l).link.spacing = s.link.spacing ∧
    (s.judgeFrame k t n l).link.transmitting = s.link.transmitting ∧
    (s.judgeFrame k t n l).link.transmitterFreeAt = s.link.transmitterFreeAt ∧
    (s.judgeFrame k t n l).alerts.estop = s.alerts.estop ∧ (s.judgeFrame k t n l).alerts.jam = s.alerts.jam := by
  unfold State.judgeFrame
  dsimp only
  repeat' split
  all_goals simp

/-- What `State.beginFrame` leaves alone. -/
@[simp] theorem State.beginFrame_keeps (f : OutFrame) (s : State) :
    (s.beginFrame f).inReset = s.inReset ∧ (s.beginFrame f).store = s.store ∧
    (s.beginFrame f).commands = s.commands ∧ (s.beginFrame f).reader = s.reader ∧
    (s.beginFrame f).orders = s.orders ∧ (s.beginFrame f).exposure = s.exposure ∧ (s.beginFrame f).path = s.path ∧
    (s.beginFrame f).monitor = s.monitor ∧ (s.beginFrame f).cutter = s.cutter ∧ (s.beginFrame f).sorter = s.sorter ∧
    (s.beginFrame f).price = s.price ∧ (s.beginFrame f).alerts = s.alerts ∧ (s.beginFrame f).outputs = s.outputs ∧
    (s.beginFrame f).freeTags = s.freeTags ∧ (s.beginFrame f).pending = s.pending ∧
    (s.beginFrame f).link.receiver = s.link.receiver ∧ (s.beginFrame f).link.breakHeld = s.link.breakHeld ∧
    (s.beginFrame f).link.spacing = s.link.spacing ∧ (s.beginFrame f).link.availableStream = s.link.availableStream ∧
    (s.beginFrame f).link.availableCommand = s.link.availableCommand ∧
    (s.beginFrame f).link.returnedStream = s.link.returnedStream ∧
    (s.beginFrame f).link.returnedCommand = s.link.returnedCommand ∧
    (s.beginFrame f).link.outbound = s.link.outbound ∧ (s.beginFrame f).link.overflow = s.link.overflow ∧
    (s.beginFrame f).link.dropped = s.link.dropped := by
  unfold State.beginFrame
  simp

/-- What `State.sendCredit` leaves alone. -/
@[simp] theorem State.sendCredit_keeps (s : State) :
    (s.sendCredit).inReset = s.inReset ∧ (s.sendCredit).store = s.store ∧ (s.sendCredit).commands = s.commands ∧
    (s.sendCredit).reader = s.reader ∧ (s.sendCredit).orders = s.orders ∧ (s.sendCredit).exposure = s.exposure ∧
    (s.sendCredit).path = s.path ∧ (s.sendCredit).monitor = s.monitor ∧ (s.sendCredit).cutter = s.cutter ∧
    (s.sendCredit).sorter = s.sorter ∧ (s.sendCredit).price = s.price ∧ (s.sendCredit).alerts = s.alerts ∧
    (s.sendCredit).outputs = s.outputs ∧ (s.sendCredit).freeTags = s.freeTags ∧ (s.sendCredit).pending = s.pending ∧
    (s.sendCredit).link.receiver = s.link.receiver ∧ (s.sendCredit).link.breakHeld = s.link.breakHeld ∧
    (s.sendCredit).link.spacing = s.link.spacing ∧ (s.sendCredit).link.outbound = s.link.outbound ∧
    (s.sendCredit).link.overflow = s.link.overflow ∧ (s.sendCredit).link.dropped = s.link.dropped := by
  unfold State.sendCredit
  split <;> simp

/-- What `State.transmit` leaves alone. -/
@[simp] theorem State.transmit_keeps (s : State) :
    (s.transmit).inReset = s.inReset ∧ (s.transmit).store = s.store ∧ (s.transmit).commands = s.commands ∧
    (s.transmit).reader = s.reader ∧ (s.transmit).orders = s.orders ∧ (s.transmit).exposure = s.exposure ∧
    (s.transmit).path = s.path ∧ (s.transmit).monitor = s.monitor ∧ (s.transmit).cutter = s.cutter ∧
    (s.transmit).sorter = s.sorter ∧ (s.transmit).price = s.price ∧ (s.transmit).outputs = s.outputs ∧
    (s.transmit).pending = s.pending ∧ (s.transmit).link.receiver = s.link.receiver ∧
    (s.transmit).link.breakHeld = s.link.breakHeld ∧ (s.transmit).link.spacing = s.link.spacing ∧
    (s.transmit).link.availableStream = s.link.availableStream ∧
    (s.transmit).link.availableCommand = s.link.availableCommand ∧
    (s.transmit).link.returnedStream = s.link.returnedStream ∧
    (s.transmit).link.returnedCommand = s.link.returnedCommand ∧ (s.transmit).alerts.counters = s.alerts.counters ∧
    (s.transmit).alerts.estop = s.alerts.estop ∧ (s.transmit).alerts.jam = s.alerts.jam := by
  unfold State.transmit
  dsimp only
  repeat' split
  all_goals simp

/-- What `State.resetLink` leaves alone. -/
@[simp] theorem State.resetLink_keeps (s : State) :
    (s.resetLink).inReset = s.inReset ∧ (s.resetLink).now = s.now ∧ (s.resetLink).reader = s.reader ∧
    (s.resetLink).orders = s.orders ∧ (s.resetLink).exposure = s.exposure ∧ (s.resetLink).path = s.path ∧
    (s.resetLink).monitor = s.monitor ∧ (s.resetLink).cutter = s.cutter ∧ (s.resetLink).sorter = s.sorter ∧
    (s.resetLink).price = s.price ∧ (s.resetLink).alerts = s.alerts ∧ (s.resetLink).outputs = s.outputs ∧
    (s.resetLink).freeTags = s.freeTags ∧ (s.resetLink).pending = s.pending ∧
    (s.resetLink).link.dropped = s.link.dropped ∧ (s.resetLink).link.transmitting = s.link.transmitting ∧
    (s.resetLink).link.transmitterFreeAt = s.link.transmitterFreeAt := by
  unfold State.resetLink
  simp

/-- What `State.resetReader` leaves alone. -/
@[simp] theorem State.resetReader_keeps (s : State) :
    (s.resetReader).inReset = s.inReset ∧ (s.resetReader).now = s.now ∧ (s.resetReader).store = s.store ∧
    (s.resetReader).commands = s.commands ∧ (s.resetReader).exposure = s.exposure ∧
    (s.resetReader).monitor = s.monitor ∧ (s.resetReader).cutter = s.cutter ∧ (s.resetReader).price = s.price ∧
    (s.resetReader).outputs = s.outputs ∧ (s.resetReader).pending = s.pending ∧
    (s.resetReader).link.receiver = s.link.receiver ∧ (s.resetReader).link.breakHeld = s.link.breakHeld ∧
    (s.resetReader).link.spacing = s.link.spacing ∧ (s.resetReader).link.availableStream = s.link.availableStream ∧
    (s.resetReader).link.availableCommand = s.link.availableCommand ∧
    (s.resetReader).link.returnedStream = s.link.returnedStream ∧
    (s.resetReader).link.returnedCommand = s.link.returnedCommand ∧
    (s.resetReader).link.transmitting = s.link.transmitting ∧
    (s.resetReader).link.transmitterFreeAt = s.link.transmitterFreeAt ∧
    (s.resetReader).alerts.estop = s.alerts.estop ∧ (s.resetReader).alerts.jam = s.alerts.jam ∧
    (s.resetReader).path.run = s.path.run ∧ (s.resetReader).path.haltCause = s.path.haltCause ∧
    (s.resetReader).path.drainCause = s.path.drainCause ∧ (s.resetReader).path.position = s.path.position ∧
    (s.resetReader).path.dwell = s.path.dwell ∧ (s.resetReader).path.params = s.path.params ∧
    (s.resetReader).path.generation = s.path.generation ∧ (s.resetReader).path.rampDue = s.path.rampDue ∧
    (s.resetReader).sorter.tray = s.sorter.tray ∧ (s.resetReader).sorter.queue = s.sorter.queue ∧
    (s.resetReader).sorter.windows = s.sorter.windows ∧ (s.resetReader).sorter.capacity = s.sorter.capacity ∧
    (s.resetReader).sorter.lamps = s.sorter.lamps ∧ (s.resetReader).sorter.generation = s.sorter.generation ∧
    (s.resetReader).sorter.dropInputs = s.sorter.dropInputs ∧
    (s.resetReader).sorter.clearInputs = s.sorter.clearInputs := by
  unfold State.resetReader
  split <;> simp

/-- What `State.refuseQuery` leaves alone. -/
@[simp] theorem State.refuseQuery_keeps (f : InFrame) (r : StatusResult) (s : State) :
    (s.refuseQuery f r).inReset = s.inReset ∧ (s.refuseQuery f r).now = s.now ∧ (s.refuseQuery f r).store = s.store ∧
    (s.refuseQuery f r).reader = s.reader ∧ (s.refuseQuery f r).orders = s.orders ∧
    (s.refuseQuery f r).exposure = s.exposure ∧ (s.refuseQuery f r).path = s.path ∧
    (s.refuseQuery f r).monitor = s.monitor ∧ (s.refuseQuery f r).cutter = s.cutter ∧
    (s.refuseQuery f r).sorter = s.sorter ∧ (s.refuseQuery f r).price = s.price ∧
    (s.refuseQuery f r).alerts = s.alerts ∧ (s.refuseQuery f r).outputs = s.outputs ∧
    (s.refuseQuery f r).freeTags = s.freeTags ∧ (s.refuseQuery f r).pending = s.pending ∧
    (s.refuseQuery f r).link.receiver = s.link.receiver ∧ (s.refuseQuery f r).link.breakHeld = s.link.breakHeld ∧
    (s.refuseQuery f r).link.spacing = s.link.spacing ∧
    (s.refuseQuery f r).link.availableStream = s.link.availableStream ∧
    (s.refuseQuery f r).link.availableCommand = s.link.availableCommand ∧
    (s.refuseQuery f r).link.returnedStream = s.link.returnedStream ∧
    (s.refuseQuery f r).link.transmitting = s.link.transmitting ∧
    (s.refuseQuery f r).link.transmitterFreeAt = s.link.transmitterFreeAt := by
  unfold State.refuseQuery
  simp

/-- What `State.replyQuery` leaves alone. -/
@[simp] theorem State.replyQuery_keeps (f : InFrame) (l : List Byte) (s : State) :
    (s.replyQuery f l).inReset = s.inReset ∧ (s.replyQuery f l).now = s.now ∧ (s.replyQuery f l).store = s.store ∧
    (s.replyQuery f l).reader = s.reader ∧ (s.replyQuery f l).orders = s.orders ∧
    (s.replyQuery f l).exposure = s.exposure ∧ (s.replyQuery f l).path = s.path ∧
    (s.replyQuery f l).monitor = s.monitor ∧ (s.replyQuery f l).cutter = s.cutter ∧
    (s.replyQuery f l).sorter = s.sorter ∧ (s.replyQuery f l).price = s.price ∧
    (s.replyQuery f l).alerts = s.alerts ∧ (s.replyQuery f l).outputs = s.outputs ∧
    (s.replyQuery f l).freeTags = s.freeTags ∧ (s.replyQuery f l).pending = s.pending ∧
    (s.replyQuery f l).link.receiver = s.link.receiver ∧ (s.replyQuery f l).link.breakHeld = s.link.breakHeld ∧
    (s.replyQuery f l).link.spacing = s.link.spacing ∧
    (s.replyQuery f l).link.availableStream = s.link.availableStream ∧
    (s.replyQuery f l).link.availableCommand = s.link.availableCommand ∧
    (s.replyQuery f l).link.returnedStream = s.link.returnedStream ∧
    (s.replyQuery f l).link.transmitting = s.link.transmitting ∧
    (s.replyQuery f l).link.transmitterFreeAt = s.link.transmitterFreeAt := by
  unfold State.replyQuery
  simp

end Sys2Proof.Machine
end

