-- ==== Sys2Proof/Laws/Records.lean ====
section
/-!
SUPPORT. Reading back what was written: the records of orders, bins, causes, counters and segments after an update of one of
them, and how the saturating counts and the changes of a list's newest element act.
-/

namespace Sys2Proof.Machine

/-! ### Lists -/

/-- The change of the newest element touches that element alone. -/
@[simp] theorem modifyLast_append {α : Type} (f : α → α) (l : List α) (a : α) :
    modifyLast f (l ++ [a]) = l ++ [f a] := by
  induction l with
  | nil => rfl
  | cons b l ih =>
    cases l with
    | nil => rfl
    | cons c l => simp only [List.cons_append] at ih ⊢; simp [modifyLast, ih]

@[simp] theorem modifyLast_nil {α : Type} (f : α → α) : modifyLast f [] = [] := rfl

@[simp] theorem length_modifyLast {α : Type} (f : α → α) (l : List α) : (modifyLast f l).length = l.length := by
  induction l with
  | nil => rfl
  | cons b l ih =>
    cases l with
    | nil => rfl
    | cons c l => simp_all [modifyLast]

/-- What a map does not see, a change of the newest element that keeps it does not change. -/
theorem map_modifyLast {α β : Type} (g : α → β) (f : α → α) (h : ∀ a, g (f a) = g a) (l : List α) :
    (modifyLast f l).map g = l.map g := by
  induction l with
  | nil => rfl
  | cons b l ih =>
    cases l with
    | nil => simp [modifyLast, h]
    | cons c l => simp only [modifyLast, List.map_cons] at ih ⊢; rw [ih]

/-- A saturating count stays within its limit. -/
theorem saturate_le {limit n : Nat} (h : n ≤ limit) : saturate limit n ≤ limit := by
  unfold saturate; split <;> omega

/-! ### Segments -/

/-- The head segment of a path queue that is written out. -/
@[simp] theorem State.headSegment_of_queue {s : State} {queue : List Segment} {g : Segment}
    (h : s.path.queue = queue ++ [g]) : s.headSegment = some g := by simp [State.headSegment, h]

/-- A change of records that keeps kind, start, length and planned length keeps the layout of the path. -/
theorem State.pathLayout_mapSegments {f : Segment → Segment} (h : ∀ g, (f g).layout = g.layout) (s : State) :
    (s.mapSegments f).pathLayout = s.pathLayout := by
  simp [State.pathLayout, Function.comp_def, h]

theorem State.pathLayout_modifyHead {f : Segment → Segment} (h : ∀ g, (f g).layout = g.layout) (s : State) :
    (s.modifyHead f).pathLayout = s.pathLayout := by
  simp [State.pathLayout, map_modifyLast _ f h]

/-! ### Orders -/

/-- A slot matches a number when it holds the order of that number. -/
theorem matchOrder_eq_some {number : Nat} {o : Option Order} {r : Order} :
    matchOrder number o = some r ↔ o = some r ∧ r.number = number := by
  cases o with
  | none => simp [matchOrder]
  | some q =>
    simp only [matchOrder, Option.some.injEq]
    split
    · exact ⟨fun e => by simp_all, fun e => by simp_all⟩
    · exact ⟨fun e => by simp_all, fun ⟨e, k⟩ => by subst e; simp_all⟩

theorem State.findOrder_number {number : Nat} {r : Order} {s : State} (h : s.findOrder number = some r) :
    r.number = number := by
  obtain ⟨o, -, h⟩ := List.exists_of_findSome?_eq_some h
  exact (matchOrder_eq_some.mp h).2

/-- The order of a number after the update of that order's record. -/
theorem State.findOrder_updateOrder {number : Nat} {f : Order → Order} (h : ∀ r, (f r).number = r.number) (s : State) :
    (s.updateOrder number f).findOrder number = (s.findOrder number).map f := by
  simp only [State.findOrder, State.updateOrder_orders]
  induction s.orders with
  | nil => rfl
  | cons o l ih =>
    simp only [List.map_cons, List.findSome?_cons]
    cases o with
    | none => simpa [matchOrder] using ih
    | some r =>
      by_cases e : r.number = number
      · simp [matchOrder, e, h]
      · simpa [matchOrder, e] using ih

/-- The order of another number is not touched by the update. -/
theorem State.findOrder_updateOrder_of_ne {number other : Nat} {f : Order → Order} (h : ∀ r, (f r).number = r.number)
    (ne : other ≠ number) (s : State) : (s.updateOrder number f).findOrder other = s.findOrder other := by
  simp only [State.findOrder, State.updateOrder_orders]
  induction s.orders with
  | nil => rfl
  | cons o l ih =>
    simp only [List.map_cons, List.findSome?_cons]
    cases o with
    | none => simpa [matchOrder] using ih
    | some r =>
      by_cases e : r.number = number
      · have : r.number ≠ other := fun k => ne (k.symm.trans e)
        simpa [matchOrder, e, h, this, ne.symm] using ih
      · by_cases k : r.number = other
        · simp [matchOrder, k, ne]
        · simpa [matchOrder, e, k] using ih

@[simp] theorem State.length_updateOrder (number : Nat) (f : Order → Order) (s : State) :
    (s.updateOrder number f).orders.length = s.orders.length := by simp

/-! ### Bins -/

/-- The record of a bin after its update. -/
theorem State.bin_updateBin (n : Nat) (f : Bin → Bin) (s : State) : (s.updateBin n f).bin n = (s.bin n).map f := by
  by_cases h : n = 0 <;> simp [State.updateBin, State.bin, h]

/-- The record of another bin is not touched. -/
theorem State.bin_updateBin_of_ne {n m : Nat} (h : m ≠ n) (f : Bin → Bin) (s : State) :
    (s.updateBin n f).bin m = s.bin m := by
  by_cases hn : n = 0
  · simp [State.updateBin, hn]
  · by_cases hm : m = 0
    · simp [State.bin, hm]
    · have : n - 1 ≠ m - 1 := by omega
      simp [State.updateBin, State.bin, hn, hm, this]

/-! ### Causes and counters -/

/-- Each cause has its own record. -/
theorem Cause.code_injective {a b : Cause} (h : a.code = b.code) : a = b := by cases a <;> cases b <;> first | rfl | cases h

theorem Cause.code_lt (c : Cause) : c.code < 20 := by cases c <;> decide

/-- The record of a cause after it has been set. -/
theorem State.cause_setCause {c : Cause} {s : State} (h : s.alerts.causes.length = 20) (r : CauseRecord) :
    (s.setCause c r).cause c = r := by
  simp [State.cause, List.getD_eq_getElem?_getD, h, c.code_lt]

theorem State.cause_setCause_of_ne {c d : Cause} (ne : d ≠ c) (r : CauseRecord) (s : State) :
    (s.setCause c r).cause d = s.cause d := by
  have : c.code ≠ d.code := fun h => ne (Cause.code_injective h).symm
  simp [State.cause, List.getD_eq_getElem?_getD, this]

/-- A raise touches the record of its own cause alone. -/
theorem State.cause_raise_of_ne {c d : Cause} (ne : d ≠ c) (s : State) : (s.raise c).cause d = s.cause d := by
  have keep (k : OutKind) (p : List Byte) (s : State) : (s.report k p).cause d = s.cause d := by simp [State.cause]
  unfold State.raise State.reportCause
  dsimp only
  split <;> simp [keep, State.cause_setCause_of_ne ne]

/-- A raise keeps the number of cause records. -/
@[simp] theorem State.length_causes_raise (c : Cause) (s : State) :
    (s.raise c).alerts.causes.length = s.alerts.causes.length := by
  unfold State.raise State.reportCause
  dsimp only
  split <;> simp

/-- A cause that has been raised is pending. -/
theorem State.pending_raise (c : Cause) {s : State} (h : s.alerts.causes.length = 20) :
    ((s.raise c).cause c).pending = true := by
  have keep (k : OutKind) (p : List Byte) (s : State) : (s.report k p).cause c = s.cause c := by simp [State.cause]
  unfold State.raise State.reportCause
  dsimp only
  split
  · rw [keep, State.cause_setCause (by simp [h]), State.cause_setCause h]
  · rw [State.cause_setCause h]

/-- Each production counter has its own place. -/
theorem Counter.place_injective {a b : Counter} (h : a.place = b.place) : a = b := by
  cases a with
  | rejected r =>
    cases b with
    | rejected q => cases r <;> cases q <;> first | rfl | (simp [Counter.place, RejectReason.code] at h)
    | _ => cases r <;> simp [Counter.place, RejectReason.code] at h
  | _ =>
    cases b with
    | rejected q => cases q <;> simp [Counter.place, RejectReason.code] at h
    | _ => first | rfl | (simp [Counter.place] at h)

/-- A counter after its increment. -/
theorem State.counter_bump {c : Counter} {s : State} (h : c.place < s.alerts.counters.length) :
    (s.bump c).counter c = saturate 4294967295 (s.counter c) := by
  simp [State.counter, List.getD_eq_getElem?_getD, h]

theorem State.counter_bump_of_ne {c d : Counter} (ne : d ≠ c) (s : State) : (s.bump c).counter d = s.counter d := by
  have : c.place ≠ d.place := fun h => ne (Counter.place_injective h).symm
  simp [State.counter, List.getD_eq_getElem?_getD, this]

end Sys2Proof.Machine
end

