-- ==== Sys2Proof/Laws/Fronts.lean ====
section
/-!
SUPPORT. How a command comes to act: out of reset, on the frame at the front of its store, and what answering that frame
leaves.
-/

namespace Sys2Proof.Machine

/-- Out of reset an event acts. -/
theorem State.event_of_not_inReset {f : State → State} {s : State} (h : s.inReset = false) : s.event f = .next (f s) := by
  simp [State.event, h]

/-- In reset it does nothing. -/
theorem State.event_of_inReset {f : State → State} {s : State} (h : s.inReset = true) : s.event f = .next s := by
  simp [State.event, h]

/-- A command for the Command Queue acts on the frame of its kind at the front. -/
theorem State.onImmediate_front {kind : InKind} {act : InFrame → State → State} {f : InFrame} {rest : List InFrame}
    {s : State} (h : CommandFront kind f rest s) : s.onImmediate kind act = act f s := by
  simp [State.onImmediate, h.2.1, h.2.2]

/-- It has no effect on a front of another kind. -/
theorem State.onImmediate_of_ne {kind : InKind} {act : InFrame → State → State} {f : InFrame} {rest : List InFrame}
    {s : State} (h : s.commands = f :: rest) (ne : f.kind ≠ kind) : s.onImmediate kind act = s := by
  simp [State.onImmediate, h, ne]

/-- A command for the Print Store acts, in READING, on the frame of its kind at the front. -/
theorem State.onSequenced_reading {kind : InKind} {act : InFrame → State → State} {f : InFrame} {rest : List InFrame}
    {s : State} (h : StoreFront kind f rest s) (m : s.reader.mode = .reading) : s.onSequenced kind act = act f s := by
  simp [State.onSequenced, h.2.1, h.2.2, m, State.toReading]

/-- In STAGED the frame waits. -/
theorem State.onSequenced_staged {kind : InKind} {act : InFrame → State → State} {s : State}
    (m : s.reader.mode = .staged) : s.onSequenced kind act = s := by
  unfold State.onSequenced; split <;> simp [m]

/-- The removal of the frame at the front of the Command Queue. -/
theorem State.removeImmediate_cons {g : InFrame} {rest : List InFrame} {s : State} (h : s.commands = g :: rest) :
    s.removeImmediate =
      { s with commands := rest, link := { s.link with returnedCommand := s.link.returnedCommand + 1 } } := by
  unfold State.removeImmediate; rw [h]

/-- The removal of the frame at the front of the Print Store. -/
theorem State.removeSequenced_cons {g : InFrame} {rest : List InFrame} {s : State} (h : s.store = g :: rest) :
    s.removeSequenced = { s with store := rest, link := { s.link with returnedStream := s.link.returnedStream + 1 } } := by
  unfold State.removeSequenced; rw [h]

/-- The answer to the frame at the front of the Command Queue, and the frame's removal, in whichever order. -/
theorem State.removeImmediate_answer {f g : InFrame} {rest : List InFrame} {s : State} (h : s.commands = g :: rest)
    (r : StatusResult) : (s.answer f r).removeImmediate = answeredCommand f r s := by
  rw [State.removeImmediate_cons (rest := rest) (g := g) (by simpa using h)]
  by_cases n : s.link.outbound.length < 64 <;> simp [State.answer, State.queueFrame, answeredCommand, h, n]

/-- The answer to the frame at the front of the Print Store, and the frame's removal, in whichever order. -/
theorem State.removeSequenced_answer {f g : InFrame} {rest : List InFrame} {s : State} (h : s.store = g :: rest)
    (r : StatusResult) : (s.answer f r).removeSequenced = answeredStore f r s := by
  rw [State.removeSequenced_cons (rest := rest) (g := g) (by simpa using h)]
  by_cases n : s.link.outbound.length < 64 <;> simp [State.answer, State.queueFrame, answeredStore, h, n]

/-- The REPLY and the STATUS of a QUERY at the front, and the query's removal. -/
theorem State.replyQuery_front {f g : InFrame} {rest : List InFrame} {s : State} (h : s.commands = g :: rest)
    (contents : List Byte) : s.replyQuery f contents = repliedQuery f (f.payload.take 1 ++ contents) s := by
  unfold State.replyQuery
  rw [State.removeImmediate_cons (rest := rest) (g := g) (by simpa using h)]
  by_cases n : s.link.outbound.length < 64 <;> by_cases m : s.link.outbound.length + 1 < 64 <;>
    simp [State.answer, State.queueFrame, repliedQuery, replyFrame, h, n, m]

/-- The refusal of a QUERY at the front. -/
theorem State.refuseQuery_front {f g : InFrame} {rest : List InFrame} {s : State} (h : s.commands = g :: rest)
    (r : StatusResult) : s.refuseQuery f r = answeredCommand f r s := State.removeImmediate_answer h r

end Sys2Proof.Machine
end

