-- ==== Sys2Proof/Laws/Equations.lean ====
section
/-!
SUPPORT. What an operation does, said once: a raise beside other changes, the end of an order, the loss of the oldest belt entry, the
engine's taking of an order, the event that the part takes next, what the samplers post, and steps that move the web.
-/

namespace Sys2Proof.Machine

/-! ### Raises -/

/-- A raise changes the cause records, the outbound queue and the count of free tags alone. -/
theorem State.raise_eq (c : Cause) (s : State) :
    s.raise c = { s with alerts := (s.raise c).alerts, link := (s.raise c).link, freeTags := (s.raise c).freeTags } := by
  unfold State.raise State.reportCause State.report State.queueFrame State.setCause
  dsimp only
  repeat' split
  all_goals rfl

/-- A raise and another content of the Order Table, in whichever order. -/
theorem State.raise_withOrders (c : Cause) (s : State) (orders : List (Option Order)) :
    ({ s with orders := orders } : State).raise c = { s.raise c with orders := orders } := by
  unfold State.raise State.reportCause State.report State.queueFrame State.setCause State.cause
  dsimp only
  repeat' split
  all_goals rfl

/-- A raise and another content of the Sorter Unit, in whichever order. -/
theorem State.raise_withSorter (c : Cause) (s : State) (sorter : SorterUnit) :
    ({ s with sorter := sorter } : State).raise c = { s.raise c with sorter := sorter } := by
  unfold State.raise State.reportCause State.report State.queueFrame State.setCause State.cause
  dsimp only
  repeat' split
  all_goals rfl

/-- A raise and another content of the Path Unit, in whichever order. -/
theorem State.raise_withPath (c : Cause) (s : State) (path : PathUnit) :
    ({ s with path := path } : State).raise c = { s.raise c with path := path } := by
  unfold State.raise State.reportCause State.report State.queueFrame State.setCause State.cause
  dsimp only
  repeat' split
  all_goals rfl

/-! ### Causes reported one after another -/

/-- What a report leaves of the link rests on the link and the count of free tags alone. -/
theorem State.report_link_congr {k : OutKind} {payload : List Byte} {a b : State} (link : a.link = b.link)
    (tags : a.freeTags = b.freeTags) : (a.report k payload).link = (b.report k payload).link := by
  unfold State.report State.queueFrame
  dsimp only
  rw [link, tags]
  split <;> rfl

/-- A report takes one free tag. -/
@[simp] theorem State.report_freeTags (k : OutKind) (payload : List Byte) (s : State) :
    (s.report k payload).freeTags = s.freeTags + 1 := by
  unfold State.report State.queueFrame
  dsimp only
  split <;> rfl

/-- The same of reports one after another. -/
theorem State.foldl_report_congr {α : Type} {k : OutKind} {payload : α → List Byte} (l : List α) {a b : State}
    (link : a.link = b.link) (tags : a.freeTags = b.freeTags) :
    (l.foldl (fun u c => u.report k (payload c)) a).link = (l.foldl (fun u c => u.report k (payload c)) b).link ∧
      (l.foldl (fun u c => u.report k (payload c)) a).freeTags =
        (l.foldl (fun u c => u.report k (payload c)) b).freeTags := by
  induction l generalizing a b with
  | nil => exact ⟨link, tags⟩
  | cons c l ih => exact ih (State.report_link_congr link tags) (by simp [tags])

/-- Reporting a cause: its ALERT frame, if it is enabled, pending and not reported. -/
theorem State.reportCause_link (c : Cause) (s : State) :
    (s.reportCause c).link =
        (if (s.cause c).enabled ∧ (s.cause c).pending ∧ ¬ (s.cause c).reported then
          (s.report .alert (alertPayload c (s.cause c).count)).link else s.link) ∧
      (s.reportCause c).freeTags =
        (if (s.cause c).enabled ∧ (s.cause c).pending ∧ ¬ (s.cause c).reported then s.freeTags + 1 else s.freeTags) := by
  unfold State.reportCause
  dsimp only
  split
  · exact ⟨State.report_link_congr rfl rfl, State.report_freeTags _ _ _⟩
  · exact ⟨rfl, rfl⟩

/-- Reporting a cause: its record becomes reported under the same condition, and no other record changes. -/
theorem State.cause_reportCause (c d : Cause) {s : State} (h : s.alerts.causes.length = 20) :
    (s.reportCause c).cause d =
      if d = c then
        { s.cause c with reported := (s.cause c).reported || ((s.cause c).enabled && (s.cause c).pending) }
      else s.cause d := by
  have keep : ∀ (u : State) (p : List Byte), (u.report .alert p).cause d = u.cause d := fun u p => by simp [State.cause]
  unfold State.reportCause
  dsimp only
  split
  · rename_i hr
    rw [keep]
    by_cases e : d = c
    · subst e
      rw [State.cause_setCause h, if_pos rfl]
      simp [hr.1, hr.2.1]
    · rw [State.cause_setCause_of_ne e, if_neg e]
  · rename_i hr
    by_cases e : d = c
    · subst e
      rw [if_pos rfl]
      rcases hs : s.cause d with ⟨e, p, r, n⟩
      rw [hs] at hr
      cases e <;> cases p <;> cases r <;> simp_all
    · rw [if_neg e]

/-- There are twenty cause records still. -/
@[simp] theorem State.length_causes_reportCause (c : Cause) (s : State) :
    (s.reportCause c).alerts.causes.length = s.alerts.causes.length := by
  unfold State.reportCause
  dsimp only
  split <;> simp

/-- The causes have the numbers 0 to 19, in this order. -/
theorem allCauses_codes : allCauses.map Cause.code = List.range 20 := by decide

theorem allCauses_nodup : allCauses.Nodup := by decide

theorem mem_allCauses (c : Cause) : c ∈ allCauses := by cases c <;> decide

/-- Causes that are reported one after another: each record by itself. -/
theorem State.cause_reportCauses (l : List Cause) (c : Cause) {s : State} (h : s.alerts.causes.length = 20) :
    (s.reportCauses l).cause c =
      if c ∈ l then
        { s.cause c with reported := (s.cause c).reported || ((s.cause c).enabled && (s.cause c).pending) }
      else s.cause c := by
  induction l generalizing s with
  | nil => simp [State.reportCauses]
  | cons d l ih =>
    rw [show s.reportCauses (d :: l) = (s.reportCause d).reportCauses l from rfl, ih (by simpa using h),
      State.cause_reportCause d c h]
    by_cases e : c = d
    · subst e
      by_cases m : c ∈ l <;> simp [m]
    · by_cases m : c ∈ l <;> simp [m, e]

/-- Causes that are reported one after another: one ALERT frame each, in their order, for those to be reported. -/
theorem State.reportCauses_link (l : List Cause) (nodup : l.Nodup) {s : State} (h : s.alerts.causes.length = 20) :
    let told := (l.filter fun c => (s.cause c).enabled && (s.cause c).pending && !(s.cause c).reported).foldl
      (fun u c => u.report .alert (alertPayload c (s.cause c).count)) s
    (s.reportCauses l).link = told.link ∧ (s.reportCauses l).freeTags = told.freeTags := by
  intro told
  induction l generalizing s with
  | nil => exact ⟨rfl, rfl⟩
  | cons d l ih =>
    obtain ⟨fresh, nodup⟩ := List.nodup_cons.1 nodup
    have same : ∀ c ∈ l, (s.reportCause d).cause c = s.cause c := fun c m => by
      rw [State.cause_reportCause d c h, if_neg (fun e : c = d => fresh (e ▸ m))]
    have step := ih nodup (s := s.reportCause d) (by simpa using h)
    simp only at step
    rw [List.filter_congr fun c m => by rw [same c m],
      List.foldl_ext _ (fun u c => u.report .alert (alertPayload c (s.cause c).count)) _ fun u c m => by
        rw [same c (List.mem_filter.1 m).1]] at step
    rw [show s.reportCauses (d :: l) = (s.reportCause d).reportCauses l from rfl, step.1, step.2]
    have front := State.reportCause_link d s
    simp only [told, List.filter_cons]
    by_cases e : (s.cause d).enabled ∧ (s.cause d).pending ∧ ¬ (s.cause d).reported
    · rw [if_pos e, if_pos e] at front
      rw [if_pos (by simpa [and_assoc] using e), List.foldl_cons]
      exact State.foldl_report_congr _ front.1 (by rw [front.2, State.report_freeTags])
    · rw [if_neg e, if_neg e] at front
      rw [if_neg (by simpa [and_assoc] using e)]
      exact State.foldl_report_congr _ front.1 front.2

/-- A raise, exactly: the record counts the occurrence, is pending, and is reported if it is enabled; no other changes. -/
theorem State.cause_raise (c d : Cause) {s : State} (h : s.alerts.causes.length = 20) :
    (s.raise c).cause d =
      if d = c then
        { s.cause c with
          count := saturate 255 (s.cause c).count, pending := true, reported := (s.cause c).reported || (s.cause c).enabled }
      else s.cause d := by
  unfold State.raise
  dsimp only
  rw [State.cause_reportCause c d (by simpa using h)]
  by_cases e : d = c
  · simp [e, State.cause_setCause h]
  · simp [e, State.cause_setCause_of_ne e]

/-- A raise, exactly: its ALERT frame, with the count that it leaves, if the cause is enabled and not reported. -/
theorem State.raise_link (c : Cause) {s : State} (h : s.alerts.causes.length = 20) :
    (s.raise c).link =
        (if (s.cause c).enabled ∧ ¬ (s.cause c).reported then
          (s.report .alert (alertPayload c (saturate 255 (s.cause c).count))).link else s.link) ∧
      (s.raise c).freeTags =
        (if (s.cause c).enabled ∧ ¬ (s.cause c).reported then s.freeTags + 1 else s.freeTags) := by
  unfold State.raise
  dsimp only
  have := State.reportCause_link c (s.setCause c { s.cause c with count := saturate 255 (s.cause c).count, pending := true })
  rw [State.cause_setCause h] at this
  simp only [true_and] at this
  rw [this.1, this.2]
  refine ⟨?_, rfl⟩
  split
  · exact State.report_link_congr rfl rfl
  · rfl

/-- The conditions of the level causes rest on what no raise changes. -/
@[simp] theorem State.levelHolds_raise (c d : Cause) (s : State) : (s.raise c).levelHolds d = s.levelHolds d := by
  cases d <;> simp [State.levelHolds]

/-- Level causes that are raised again one after another: each record by itself. -/
theorem State.cause_raiseLevels (l : List Cause) (nodup : l.Nodup) (c : Cause) {s : State}
    (h : s.alerts.causes.length = 20) :
    (s.raiseLevels l).cause c =
      if c ∈ l ∧ s.levelHolds c = true then
        { s.cause c with
          count := saturate 255 (s.cause c).count, pending := true, reported := (s.cause c).reported || (s.cause c).enabled }
      else s.cause c := by
  induction l generalizing s with
  | nil => simp [State.raiseLevels]
  | cons d l ih =>
    obtain ⟨fresh, nodup⟩ := List.nodup_cons.1 nodup
    rw [show s.raiseLevels (d :: l) = (if s.levelHolds d then s.raise d else s).raiseLevels l from rfl]
    by_cases holds : s.levelHolds d = true
    · rw [if_pos holds, ih nodup (by simpa using h), State.cause_raise d c h, State.levelHolds_raise]
      by_cases e : c = d
      · subst e; simp [fresh, holds]
      · simp [e]
    · rw [if_neg holds, ih nodup h]
      by_cases e : c = d
      · subst e; simp [holds]
      · simp [e]

/-- Level causes that are raised again one after another: one ALERT frame each, in their order, for those to be reported. -/
theorem State.raiseLevels_link (l : List Cause) (nodup : l.Nodup) {s : State} (h : s.alerts.causes.length = 20) :
    let told := (l.filter fun c => s.levelHolds c && (s.cause c).enabled && !(s.cause c).reported).foldl
      (fun u c => u.report .alert (alertPayload c (saturate 255 (s.cause c).count))) s
    (s.raiseLevels l).link = told.link ∧ (s.raiseLevels l).freeTags = told.freeTags := by
  intro told
  induction l generalizing s with
  | nil => exact ⟨rfl, rfl⟩
  | cons d l ih =>
    obtain ⟨fresh, nodup⟩ := List.nodup_cons.1 nodup
    rw [show s.raiseLevels (d :: l) = (if s.levelHolds d then s.raise d else s).raiseLevels l from rfl]
    simp only [told, List.filter_cons]
    by_cases holds : s.levelHolds d = true
    · have same : ∀ c ∈ l, (s.raise d).cause c = s.cause c := fun c m =>
        State.cause_raise_of_ne (fun e : c = d => fresh (e ▸ m)) s
      have step := ih nodup (s := s.raise d) (by simpa using h)
      simp only [State.levelHolds_raise] at step
      rw [List.filter_congr fun c m => by rw [same c m],
        List.foldl_ext _ (fun u c => u.report .alert (alertPayload c (saturate 255 (s.cause c).count))) _ fun u c m => by
          rw [same c (List.mem_filter.1 m).1]] at step
      rw [if_pos holds, step.1, step.2]
      have front := State.raise_link d h
      by_cases e : (s.cause d).enabled ∧ ¬ (s.cause d).reported
      · rw [if_pos e, if_pos e] at front
        rw [if_pos (by simpa [holds] using e), List.foldl_cons]
        exact State.foldl_report_congr _ front.1 (by rw [front.2, State.report_freeTags])
      · rw [if_neg e, if_neg e] at front
        rw [if_neg (by simpa [holds] using e)]
        exact State.foldl_report_congr _ front.1 front.2
    · rw [if_neg holds, if_neg (by simp [holds])]
      exact ih nodup h

/-! ### A step -/

/-- What a boundary's choice leaves as it was, before the segment that it begins: the web, the cutter, the outputs, the time, the
monitor, and every cause but PAPER_LOW. -/
structure AtChoice (s u : State) : Prop where
  queue : u.path.queue = s.path.queue
  position : u.path.position = s.path.position
  params : u.path.params = s.path.params
  cutter : u.cutter = s.cutter
  outputs : u.outputs = s.outputs
  now : u.now = s.now
  monitor : u.monitor = s.monitor
  cause : ∀ c, c ≠ .paperLow → u.cause c = s.cause c

/-- A choice in RUNNING begins a segment, or no step is issued. -/
theorem State.chooseRunning_cases (s : State) :
    (∃ kind planned print u, s.chooseRunning = (State.beginSegment kind planned print u, true) ∧ AtChoice s u) ∨
      ∃ u, s.chooseRunning = (u, false) := by
  have drain : (∃ kind planned print u, s.drainForPaper = (State.beginSegment kind planned print u, true) ∧ AtChoice s u) ∨
      ∃ u, s.drainForPaper = (u, false) := by
    unfold State.drainForPaper
    dsimp only
    split
    · exact .inl ⟨_, _, _, _, rfl, by simp, by simp, by simp, by simp, by simp, by simp, by simp,
        fun c ne => State.cause_raise_of_ne ne _⟩
    · exact .inr ⟨_, rfl⟩
  unfold State.chooseRunning
  split
  · split
    · exact .inl ⟨_, _, _, _, rfl, rfl, rfl, rfl, rfl, rfl, rfl, rfl, fun _ _ => rfl⟩
    · exact drain
  · split
    · exact .inl ⟨_, _, _, _, rfl, rfl, rfl, rfl, rfl, rfl, rfl, rfl, fun _ _ => rfl⟩
    · exact drain

/-- A step that falls due is issued inside a segment, or at a boundary behind a segment that begins, or not at all. -/
theorem State.fallsDue_cases (s : State) :
    (s.fallsDue = (s, true) ∧ s.atBoundary = false) ∨
      (s.atBoundary = true ∧
        ∃ kind planned print u, s.fallsDue = (State.beginSegment kind planned print u, true) ∧ AtChoice s u) ∨
      ∃ u, s.fallsDue = (u, false) := by
  unfold State.fallsDue
  split
  · rename_i boundary
    split
    · exact .inr (.inr ⟨_, rfl⟩)
    · split
      · exact .inr (.inr ⟨_, rfl⟩)
      · split
        · exact .inr (.inr ⟨_, rfl⟩)
        · unfold State.chooseSegment
          split
          · split
            · exact .inr (.inl ⟨boundary, _, _, _, _, rfl, rfl, rfl, rfl, rfl, rfl, rfl, rfl, fun _ _ => rfl⟩)
            · rcases State.chooseRunning_cases { s with path := { s.path with run := .running } } with
                ⟨kind, planned, print, u, e, h⟩ | h
              · exact .inr (.inl ⟨boundary, kind, planned, print, u, e, h.queue, h.position, h.params, h.cutter, h.outputs,
                  h.now, h.monitor, h.cause⟩)
              · exact .inr (.inr h)
          · rcases s.chooseRunning_cases with ⟨kind, planned, print, u, e, h⟩ | h
            · exact .inr (.inl ⟨boundary, kind, planned, print, u, e, h⟩)
            · exact .inr (.inr h)
          · exact .inr (.inl ⟨boundary, _, _, _, _, rfl, rfl, rfl, rfl, rfl, rfl, rfl, rfl, fun _ _ => rfl⟩)
          · exact .inr (.inr ⟨_, rfl⟩)
          · exact .inr (.inr ⟨_, rfl⟩)
  · rename_i inside
    split
    · exact .inr (.inr ⟨_, rfl⟩)
    · exact .inl ⟨rfl, by simpa using inside⟩

/-- A step that moves the web: it was issued, inside a segment or behind one that begins. -/
theorem execStep_moves {sample : PunchSample} {s t : State} (inReset : s.inReset = false)
    (h : execStep sample s = .next t) (moved : t.path.position = s.path.position + 1) :
    let due : State := { s with now := max s.now s.exposure.stepDue }
    (s.atBoundary = false ∧ t = due.issueStep sample) ∨
      (s.atBoundary = true ∧ ∃ kind planned print u,
        t = (State.beginSegment kind planned print u).issueStep sample ∧ AtChoice due u) := by
  intro due
  rw [execStep, State.event_of_not_inReset inReset] at h
  injection h with h
  subst h
  unfold State.takeStep at moved ⊢
  split at moved
  · rename_i stepping
    rw [if_pos stepping]
    have keep : due.fallsDue.1.path.position = s.path.position := by simp [due]
    rcases due.fallsDue_cases with ⟨e, inside⟩ | ⟨boundary, kind, planned, print, u, e, same⟩ | ⟨u, e⟩
    · exact .inl ⟨inside, by simp only; rw [show State.fallsDue _ = _ from e]; rfl⟩
    · exact .inr ⟨boundary, kind, planned, print, u, by simp only; rw [show State.fallsDue _ = _ from e]; rfl, same⟩
    · simp only [show State.fallsDue { s with now := max s.now s.exposure.stepDue } = _ from e] at moved
      rw [e] at keep
      simp at moved keep
      omega
  · omega

/-! ### Masks and bands -/

/-- A base and mask hit a key when the two agree in every bit of the mask. -/
theorem maskHits_iff (key base mask : Nat) :
    maskHits key base mask = true ↔ ∀ i, mask.testBit i = true → key.testBit i = base.testBit i := by
  unfold maskHits
  rw [beq_iff_eq]
  refine ⟨fun h i hi => ?_, fun h => Nat.eq_of_testBit_eq fun i => ?_⟩
  · simpa [Nat.testBit_and, hi] using congrArg (fun n => n.testBit i) h
  · rw [Nat.testBit_and, Nat.testBit_and]
    cases hm : mask.testBit i
    · simp
    · rw [h i hm]

/-- There are 16 bands. -/
theorem ThermalTable.band_le (t : ThermalTable) (reading : Int) : t.band reading ≤ 15 := by
  unfold ThermalTable.band
  omega

/-! ### The end of an order -/

@[simp] theorem Order.deliver_number (p : PrintRecord) (r : Order) : (r.deliver p).number = r.number := by
  unfold Order.deliver Order.tally; dsimp only; repeat' split
  all_goals rfl

@[simp] theorem Order.deliver_state (p : PrintRecord) (r : Order) : (r.deliver p).state = r.state := by
  unfold Order.deliver Order.tally; dsimp only; repeat' split
  all_goals rfl

@[simp] theorem Order.deliver_flags (p : PrintRecord) (r : Order) : (r.deliver p).flags = r.flags := by
  unfold Order.deliver Order.tally; dsimp only; repeat' split
  all_goals rfl

@[simp] theorem Order.deliver_bins (p : PrintRecord) (r : Order) : (r.deliver p).bins = r.bins := by
  unfold Order.deliver Order.tally; dsimp only; repeat' split
  all_goals rfl

@[simp] theorem Order.deliver_inFlight (p : PrintRecord) (r : Order) : (r.deliver p).inFlight = r.inFlight - 1 := by
  unfold Order.deliver Order.tally; dsimp only; repeat' split
  all_goals rfl

@[simp] theorem Order.deliver_delivered (p : PrintRecord) (r : Order) : (r.deliver p).delivered = r.delivered + 1 := by
  unfold Order.deliver Order.tally; dsimp only; repeat' split
  all_goals rfl

/-- An order that is not being wound down, or has a print in flight, does not end. -/
theorem State.endIfDrained_stays {number : Nat} {r : Order} {s : State} (h : s.findOrder number = some r)
    (stays : r.state.windingDown = none ∨ 0 < r.inFlight) : s.endIfDrained number = s := by
  unfold State.endIfDrained
  rw [h]
  dsimp only
  rcases stays with hn | hn
  · rw [hn]
  · cases r.state.windingDown with
    | none => rfl
    | some _ => dsimp only; rw [if_neg (by omega)]

/-- An order that is wound down and has nothing in flight ends: its ORDER DONE, its slot and its bins. -/
theorem State.endIfDrained_ends {number : Nat} {r : Order} {fate : OrderFate} {s : State} (h : s.findOrder number = some r)
    (winding : r.state.windingDown = some fate) (drained : r.inFlight = 0) :
    s.endIfDrained number =
      { s.report .orderDone
          (bytesOf 1 fate.code ++ bytesOf 3 r.number ++ bytesOf 2 r.delivered ++ bytesOf 4 0 ++ bytesOf 4 0 ++ bytesOf 4 0 ++
            bytesOf 2 r.unpriced ++ bytesOfSet (r.flags.members false false) ++ bytesOfList (bytesOf 1) r.bins ++
            bytesOf 2 s.price.priceGeneration ++ bytesOf 2 s.price.promoGeneration) with
        orders := (s.orders.map fun o => if o.map Order.number = some number then none else o)
        sorter := { s.sorter with bins := (s.sorter.bins.map fun b =>
          if b.owner = some number then { b with ownerLive := false } else b) } } := by
  have slots : (fun o : Option Order => if (matchOrder number o).isSome then none else o) =
      (fun o => if (o.map Order.number) = some number then none else o) := by
    funext o
    cases o with
    | none => simp [matchOrder]
    | some q => by_cases e : q.number = number <;> simp [matchOrder, e]
  have bins : (fun b : Bin => if b.owner = some number ∧ b.ownerLive then { b with ownerLive := false } else b) =
      (fun b => if b.owner = some number then { b with ownerLive := false } else b) := by
    funext b
    by_cases e : b.owner = some number
    · cases hb : b.ownerLive <;> simp [e]
      cases b
      simp_all
    · simp [e]
  unfold State.endIfDrained
  simp only [h, winding, drained, ↓reduceIte, State.freeOrder, orderDonePayload, State.mapBins, slots, bins]
  simp

/-! ### The belt -/

/-- The loss of the oldest entry: it leaves the queue, its print is rejected LOST, and SORT_LOST is raised. -/
theorem State.loseOldest_cons {e : SortEntry} {rest : List SortEntry} {s : State} (h : s.sorter.queue = e :: rest) :
    s.loseOldest =
      State.raise .sortLost
        (State.rejectPrint e.print [.lost]
          (State.dropPending e.target { s with sorter := { s.sorter with queue := rest } })) := by
  unfold State.loseOldest State.popSorter
  rw [h]

/-- The queue that it leaves. -/
theorem State.loseOldest_queue {e : SortEntry} {rest : List SortEntry} {s : State} (h : s.sorter.queue = e :: rest) :
    s.loseOldest.sorter.queue = rest := by
  rw [State.loseOldest_cons h]
  cases e.target <;> simp [State.dropPending]

/-! ### The engine -/

/-- An idle engine with an empty pricing queue stays idle. -/
theorem State.engineTake_nil {s : State} (h : s.price.queue = []) : s.engineTake = s := by
  unfold State.engineTake
  rw [h]
  split <;> simp_all

/-- An idle engine takes the oldest slot, and its pricing completes within 1 ms. -/
theorem State.engineTake_cons {slot : Nat} {rest : List Nat} {s : State} (idle : s.price.engine = none)
    (h : s.price.queue = slot :: rest) :
    ∃ due, s.now ≤ due ∧ due ≤ s.now + 1000 ∧
      s.engineTake = { s with price := { s.price with queue := rest, engine := some { slot := slot, due := due } } } := by
  unfold State.engineTake
  rw [idle, h]
  exact ⟨_, by omega, by omega, rfl⟩

/-! ### What the part does of itself -/

/-- The first timed event whose time has come is taken next. -/
theorem State.nextCommand_cons {pins : Pins} {c : Instr} {rest : List Instr} {s : State} (h : s.dueEvents pins = c :: rest) :
    s.nextCommand pins = some c := by
  unfold State.nextCommand
  rw [h]

/-- Where no time has come, the part does what it does at once. -/
theorem State.nextCommand_nil {pins : Pins} {s : State} (h : s.dueEvents pins = []) : s.nextCommand pins = s.atOnce := by
  unfold State.nextCommand
  rw [h]

/-- The sampled inputs, one by one. -/
theorem sampleAll_getElem? {samples : List Bool} {inputs : List Qualifier} {i : Nat} {q : Qualifier} (h : inputs[i]? = some q) :
    (sampleAll samples inputs)[i]? = some (q.sample (samples.getD i false)) := by
  simp [sampleAll, h]

/-- The places whose qualified level has risen. -/
theorem mem_risen (before after : List Qualifier) (n : Nat) :
    n ∈ risen before after ↔
      ∃ i q r, n = i + 1 ∧ before[i]? = some q ∧ after[i]? = some r ∧ q.level = false ∧ r.level = true := by
  unfold risen
  rw [List.mem_filterMap]
  constructor
  · rintro ⟨i, -, h⟩
    cases hb : before[i]? with
    | none => simp [hb] at h
    | some q =>
      cases ha : after[i]? with
      | none => simp [hb, ha] at h
      | some r =>
        simp [hb, ha] at h
        exact ⟨i, q, r, h.2.symm, hb, ha, h.1.1, h.1.2⟩
  · rintro ⟨i, q, r, rfl, hb, ha, h1, h2⟩
    exact ⟨i, List.mem_range.2 (List.getElem?_eq_some_iff.1 ha).1, by simp [hb, ha, h1, h2]⟩

/-- The event that a stop input's samples post. -/
theorem mem_stopEvent (input : StopInput) (q : Qualifier) (c : Instr) :
    c ∈ stopEvent input q ↔ c = .estopJamInput input q.last ∧ 3 ≤ q.agreeing ∧ q.last ≠ q.level := by
  unfold stopEvent Qualifier.qualifies
  split <;> simp_all

end Sys2Proof.Machine
end

