-- ==== Sys2Proof/Laws/Layout.lean ====
section
/-!
SUPPORT. The operations that change only flags, notes and leading-boundary states of the path's records keep its layout: the
kinds, starts, lengths and planned lengths of the path queue, in their order.
-/

namespace Sys2Proof.Machine

/-! ### Changes of one record -/

@[simp] theorem Segment.cancelOf_layout (n : Nat) (g : Segment) : (g.cancelOf n).layout = g.layout := by
  unfold Segment.cancelOf
  repeat' split
  all_goals rfl

@[simp] theorem Segment.flagAborted_layout (g : Segment) : g.flagAborted.layout = g.layout := rfl
@[simp] theorem Segment.flagChem_layout (g : Segment) : g.flagChem.layout = g.layout := rfl
@[simp] theorem Segment.flagDwell_layout (g : Segment) : g.flagDwell.layout = g.layout := rfl
@[simp] theorem Segment.flagMiscut_layout (g : Segment) : g.flagMiscut.layout = g.layout := rfl

/-- Operations that do not touch the path at all keep its layout. -/
theorem State.pathLayout_congr {s t : State} (h : t.path.queue = s.path.queue) : t.pathLayout = s.pathLayout := by
  simp [State.pathLayout, h]

/-- An operation on a state's other units leaves the layout that its path has. -/
theorem State.pathLayout_trans {s t u : State} (h : t.path = u.path) (k : u.pathLayout = s.pathLayout) :
    t.pathLayout = s.pathLayout :=
  (State.pathLayout_congr (congrArg PathUnit.queue h)).trans k

/-- The kinds in the path queue, and so whether it holds a PRINT segment, follow from its layout. -/
theorem State.hasPrint_of_layout {s t : State} (h : t.pathLayout = s.pathLayout) : t.hasPrint = s.hasPrint := by
  have key (u : State) : u.hasPrint = u.pathLayout.any fun l => l.1 == .print := by
    simp [State.hasPrint, State.pathLayout, Segment.layout, Function.comp_def]
  rw [key, key, h]

/-! ### Orders and the reader -/

@[simp] theorem State.report_layout (k : OutKind) (p : List Byte) (s : State) :
    (s.report k p).pathLayout = s.pathLayout := State.pathLayout_congr (by simp)

@[simp] theorem State.raise_layout (c : Cause) (s : State) :
    (s.raise c).pathLayout = s.pathLayout := State.pathLayout_congr (by simp)

@[simp] theorem State.bump_layout (c : Counter) (s : State) :
    (s.bump c).pathLayout = s.pathLayout := State.pathLayout_congr (by simp)

@[simp] theorem State.updateOrder_layout (n : Nat) (f : Order → Order) (s : State) :
    (s.updateOrder n f).pathLayout = s.pathLayout := State.pathLayout_congr (by simp)

@[simp] theorem State.mapBins_layout (f : Bin → Bin) (s : State) :
    (s.mapBins f).pathLayout = s.pathLayout := State.pathLayout_congr (by simp)

@[simp] theorem State.endIfDrained_layout (n : Nat) (s : State) :
    (s.endIfDrained n).pathLayout = s.pathLayout := State.pathLayout_congr (by simp)

@[simp] theorem State.discardStagedOf_layout (n : Nat) (s : State) :
    (s.discardStagedOf n).pathLayout = s.pathLayout := State.pathLayout_congr (by simp)

@[simp] theorem State.reportDiscard_layout (p : PrintRecord) (r : RejectReason) (s : State) :
    (s.reportDiscard p r).pathLayout = s.pathLayout := State.pathLayout_congr (by simp)

@[simp] theorem State.countReasons_layout (l : List RejectReason) (s : State) :
    (s.countReasons l).pathLayout = s.pathLayout := State.pathLayout_congr (by simp)

@[simp] theorem State.removeSequenced_layout (s : State) :
    (s.removeSequenced).pathLayout = s.pathLayout := State.pathLayout_congr (by simp)

@[simp] theorem State.windDown_layout (n : Nat) (next : OrderState) (s : State) :
    (s.windDown n next).pathLayout = s.pathLayout := by
  simp [State.windDown, State.pathLayout_mapSegments]

@[simp] theorem State.reject_layout (order index attempt : Nat) (s : State) :
    (s.reject order index attempt).pathLayout = s.pathLayout := by
  unfold State.reject
  dsimp only
  repeat' split
  all_goals simp

@[simp] theorem State.discardStaged_layout (r : RejectReason) (m : ReaderMode) (s : State) :
    (s.discardStaged r m).pathLayout = s.pathLayout := by
  unfold State.discardStaged
  split
  · rfl
  · simp only [State.reject_layout, State.reportDiscard_layout]; rfl

@[simp] theorem State.rejectPrint_layout (p : PrintRecord) (l : List RejectReason) (s : State) :
    (s.rejectPrint p l).pathLayout = s.pathLayout := by
  unfold State.rejectPrint
  simp

@[simp] theorem State.noteHead_layout (f : Notes → Notes) (s : State) :
    (s.noteHead f).pathLayout = s.pathLayout :=
  State.pathLayout_modifyHead (f := fun g => { g with print := g.print.map fun p => { p with notes := f p.notes } })
    (fun _ => rfl) s

@[simp] theorem State.endStreamShort_layout (s : State) :
    (s.endStreamShort).pathLayout = s.pathLayout := by
  have h := State.pathLayout_modifyHead (f := fun g => { g with flags := { g.flags with short := true } }) (fun _ => rfl)
    (s.noteHead fun n => { n with short := true })
  rw [State.noteHead_layout] at h
  exact h

@[simp] theorem State.endStreamImplicit_layout (s : State) :
    (s.endStreamImplicit).pathLayout = s.pathLayout := by
  unfold State.endStreamImplicit
  simp

@[simp] theorem State.noteAwaited_layout (f : Notes → Notes) (s : State) :
    (s.noteAwaited f).pathLayout = s.pathLayout := by
  unfold State.noteAwaited
  split
  · rfl
  · rename_i key _
    exact State.pathLayout_mapSegments
      (f := fun g => { g with print := g.print.map fun p => if p.key = key then { p with notes := f p.notes } else p })
      (fun _ => rfl) s

@[simp] theorem State.enterReading_layout (s : State) :
    (s.enterReading).pathLayout = s.pathLayout := State.pathLayout_congr (by simp)

@[simp] theorem State.toReading_layout (s : State) :
    (s.toReading).pathLayout = s.pathLayout := by
  unfold State.toReading
  split <;> simp

@[simp] theorem State.endExposure_layout (s : State) :
    (s.endExposure).pathLayout = s.pathLayout := by
  unfold State.endExposure
  split
  · exact State.pathLayout_modifyHead (f := Segment.flagAborted) (fun _ => rfl) _
  · rfl

/-! ### The cutter -/

@[simp] theorem State.setLead_layout (a : Int) (l : LeadState) (s : State) :
    (s.setLead a l).pathLayout = s.pathLayout := State.pathLayout_mapSegments (fun g => by split <;> rfl) s

@[simp] theorem State.markMiscut_layout (a : Int) (s : State) :
    (s.mapAdjacent a Segment.flagMiscut).pathLayout = s.pathLayout := State.pathLayout_mapSegments (fun g => by split <;> rfl) s

@[simp] theorem State.fixCut_layout (b : Boundary) (c : Int) (s : State) :
    (s.fixCut b c).pathLayout = s.pathLayout := State.pathLayout_congr (by simp)

@[simp] theorem State.scheduleCutPoint_layout (j : Nat) (e : Int) (s : State) :
    (s.scheduleCutPoint j e).pathLayout = s.pathLayout := rfl

@[simp] theorem State.declareMissing_layout (a e : Int) (s : State) :
    (s.declareMissing a e).pathLayout = s.pathLayout := by
  have k : ((s.setLead a .predicted).mapAdjacent a Segment.flagMiscut).pathLayout = s.pathLayout := by simp
  unfold State.declareMissing
  dsimp only
  split
  · exact State.pathLayout_trans (by simp) k
  · exact State.pathLayout_trans (by simp) k

@[simp] theorem State.testBoundaries_layout (fuel : Nat) (s : State) :
    ((s.testBoundaries fuel).1).pathLayout = s.pathLayout := by
  induction fuel generalizing s with
  | zero => rfl
  | succ n ih =>
    unfold State.testBoundaries
    repeat' split
    all_goals first
      | rfl
      | exact ih _
      | exact (ih _).trans (State.scheduleCutPoint_layout _ _ s)
      | exact (ih _).trans (State.declareMissing_layout _ _ s)

@[simp] theorem State.scheduleReached_layout (fuel : Nat) (s : State) :
    (s.scheduleReached fuel).pathLayout = s.pathLayout := State.pathLayout_congr (by simp)

@[simp] theorem State.reformCutPoints_layout (s : State) :
    s.reformCutPoints.pathLayout = s.pathLayout := State.pathLayout_congr (by simp)

@[simp] theorem State.matchPunch_layout (a e : Int) (s : State) :
    (s.matchPunch a e).pathLayout = s.pathLayout := by
  exact State.pathLayout_trans (by simp [State.matchPunch]) (State.setLead_layout a .registered s)

@[simp] theorem State.judgePunch_layout (s : State) :
    (s.judgePunch).pathLayout = s.pathLayout := by
  have h (t : State) (c : CutterUnit) : ({ t with cutter := c } : State).pathLayout = t.pathLayout := rfl
  unfold State.judgePunch
  repeat' split
  all_goals simp [State.spuriousPunch, h]

@[simp] theorem State.fireAtStep_layout (s : State) :
    (s.fireAtStep).pathLayout = s.pathLayout := State.pathLayout_congr (by simp)

@[simp] theorem State.cutterStep_layout (x : PunchSample) (s : State) :
    (s.cutterStep x).pathLayout = s.pathLayout := by
  have h : (s.samplePunch x).1.pathLayout = s.pathLayout := rfl
  unfold State.cutterStep
  dsimp only
  split <;> simp [h]

@[simp] theorem State.markLate_layout (b : Boundary) (s : State) :
    (s.markLate b).pathLayout = s.pathLayout := by
  unfold State.markLate
  split <;> simp

@[simp] theorem State.fireLate_layout (s : State) :
    (s.fireLate).pathLayout = s.pathLayout := by
  have h (t : State) : t.fire.pathLayout = t.pathLayout := rfl
  unfold State.fireLate
  repeat' split
  all_goals simp [h]

/-! ### Steps, the zone and the monitor -/

@[simp] theorem State.markChem_layout (s : State) :
    (s.markZone Segment.flagChem).pathLayout = s.pathLayout := State.pathLayout_mapSegments (fun g => by split <;> rfl) s

@[simp] theorem State.markDwell_layout (s : State) :
    (s.markZone Segment.flagDwell).pathLayout = s.pathLayout := State.pathLayout_mapSegments (fun g => by split <;> rfl) s

@[simp] theorem State.markZoneEntry_layout (s : State) :
    (s.markZoneEntry).pathLayout = s.pathLayout := by
  unfold State.markZoneEntry
  split
  · exact State.pathLayout_mapSegments (fun g => by split <;> rfl) s
  · rfl

@[simp] theorem State.actOnTrip_layout (i : Nat) (s : State) :
    (s.actOnTrip i).pathLayout = s.pathLayout := by
  unfold State.actOnTrip
  repeat' split
  all_goals simp

@[simp] theorem State.setChannel_layout (i : Nat) (c : Channel) (s : State) :
    (s.setChannel i c).pathLayout = s.pathLayout := State.pathLayout_congr (by simp)

@[simp] theorem State.judgeChannel_layout (v : Int) (s : State) :
    (s.judgeChannel v).pathLayout = s.pathLayout := by
  unfold State.judgeChannel
  dsimp only
  repeat' split
  all_goals simp

@[simp] theorem State.modifyPrint_layout (f : PrintRecord → PrintRecord) (s : State) :
    (s.modifyPrint f).pathLayout = s.pathLayout :=
  State.pathLayout_modifyHead (f := fun g => { g with print := g.print.map f }) (fun _ => rfl) s

@[simp] theorem State.settleFront_layout (s : State) :
    (s.settleFront).pathLayout = s.pathLayout := by
  unfold State.settleFront
  repeat' split
  all_goals simp

@[simp] theorem State.underrun_layout (p : PrintRecord) (s : State) :
    ((s.underrun p).2).pathLayout = s.pathLayout := by
  have h (t : State) : (t.modifyHead fun g => { g with flags := { g.flags with underrun := true } }).pathLayout =
      t.pathLayout :=
    State.pathLayout_modifyHead (f := fun g => { g with flags := { g.flags with underrun := true } }) (fun _ => rfl) t
  simp [State.underrun, h]

@[simp] theorem State.nextLine_layout (p : PrintRecord) (x : LineSource) (s : State) :
    ((s.nextLine p x).2).pathLayout = s.pathLayout := by
  unfold State.nextLine
  split
  · rfl
  · simp
  · dsimp only
    split
    · exact (State.removeSequenced_layout _).trans (State.modifyPrint_layout _ s)
    · exact State.pathLayout_trans (u := (s.underrun p).2) rfl (by simp)

@[simp] theorem State.completePrint_layout (s : State) :
    (s.completePrint).pathLayout = s.pathLayout := State.pathLayout_congr (by simp)

@[simp] theorem State.exposeLine_layout (s : State) :
    (s.exposeLine).pathLayout = s.pathLayout := by
  unfold State.exposeLine
  split
  · rename_i source p _ _
    dsimp only
    rw [State.completePrint_layout, State.modifyPrint_layout]
    exact State.pathLayout_trans (u := (s.nextLine p source).2) rfl (by simp)
  · rfl

@[simp] theorem State.countStep_layout (s : State) :
    (s.countStep).pathLayout = s.pathLayout := State.pathLayout_congr (by simp)

/-! ### The sorter -/

@[simp] theorem State.popSorter_layout (s : State) :
    (s.popSorter).pathLayout = s.pathLayout := State.pathLayout_congr (by simp)

@[simp] theorem State.loseOldest_layout (s : State) :
    (s.loseOldest).pathLayout = s.pathLayout := by
  unfold State.loseOldest
  split <;> simp

@[simp] theorem State.deliverOldest_layout (s : State) :
    (s.deliverOldest).pathLayout = s.pathLayout := State.pathLayout_congr (by simp)

@[simp] theorem State.misdeliver_layout (t : Target) (s : State) :
    (s.misdeliver t).pathLayout = s.pathLayout := State.pathLayout_congr (by simp)

@[simp] theorem State.markStray_layout (t : Target) (e : Option Nat) (s : State) :
    (s.markStray t e).pathLayout = s.pathLayout := State.pathLayout_congr (by simp)

@[simp] theorem State.judgeDrop_layout (t : Target) (s : State) :
    (s.judgeDrop t).pathLayout = s.pathLayout := by
  unfold State.judgeDrop
  repeat' split
  all_goals simp

@[simp] theorem State.expireOldest_layout (fuel : Nat) (s : State) :
    (s.expireOldest fuel).pathLayout = s.pathLayout := by
  induction fuel generalizing s with
  | zero => rfl
  | succ n ih =>
    unfold State.expireOldest
    repeat' split
    · rw [ih, State.loseOldest_layout]
    all_goals rfl

@[simp] theorem State.expire_layout (s : State) :
    (s.expire).pathLayout = s.pathLayout := State.expireOldest_layout _ s

@[simp] theorem State.setFlap_layout (f : Flap) (s : State) :
    (s.setFlap f).pathLayout = s.pathLayout := State.pathLayout_congr (by simp)

@[simp] theorem State.sendGood_layout (p : PrintRecord) (s : State) :
    (s.sendGood p).pathLayout = s.pathLayout := by
  have h := (s.sortPrint_keeps p)
  have k : (s.sortPrint p).2.pathLayout = s.pathLayout := State.pathLayout_congr (by simp)
  unfold State.sendGood
  split
  all_goals rename_i e; simp only [e] at k; simp [k]

@[simp] theorem State.classify_layout (g : Segment) (s : State) :
    (s.classify g).pathLayout = s.pathLayout := by
  unfold State.classify
  repeat' split
  all_goals simp

end Sys2Proof.Machine
end

