-- ==== Sys2Proof/Tests/Slice0.lean ====
section
/-!
SUPPORT. Tests: the checks of WellFormed refuse what they should, the manual's own worked examples come out as it prints them,
and every statement that has hypotheses has a witness that meets them. Each theorem's docstring names its source.
-/

namespace Sys2Proof.Machine.Tests

/-! ### Helpers -/

/-- An inbound frame with tag 7. -/
def frame (kind : InKind) (payload : List Byte) : InFrame := { kind := kind, tag := 7, payload := payload }

/-- The reset state with a frame at the front of the Print Store. -/
def stored (kind : InKind) (payload : List Byte) : State := { State.reset with store := [frame kind payload] }

/-- The reset state with a frame at the front of the Command Queue. -/
def queued (kind : InKind) (payload : List Byte) : State := { State.reset with commands := [frame kind payload] }

/-- The same state with the reader in another mode. -/
def inMode (mode : ReaderMode) (s : State) : State := { s with reader := { s.reader with mode := mode } }

/-- The same state with the run in another state. -/
def inRun (run : RunState) (s : State) : State := { s with path := { s.path with run := run } }

/-- Order 5, EXPRESS from a kiosk, announced with 2 prints, in the given state. -/
def order (state : OrderState) : Order := { Order.new 5 .kiosk .express none (some 2) with state := state }

/-- The same state with one order in slot 3. -/
def holding (r : Order) (s : State) : State := { s with orders := s.orders.set 3 (some r) }

/-- Print 1 of order 5: size code 4, 1,500 lines. -/
def aPrint : PrintRecord :=
  PrintRecord.ofHeader { order := 5, index := 1, remake := false, size := 4, wanted := .glossy, charge := true } 1 1500 .glossy 0 152

/-- A segment of 1,500 planned lines that starts at web position 0, with the given length fed. -/
def segment (kind : SegmentKind) (length : Nat) (print : Option PrintRecord) : Segment :=
  { kind := kind, start := 0, length := length, planned := 1500, print := print, flags := {}, lead := .pending }

/-- The reset state behind the given path queue. -/
def onPath (queue : List Segment) (s : State) : State := { s with path := { s.path with queue := queue } }

/-- The same state with this much paper of a loaded roll left. -/
def withPaper (remaining : Nat) (s : State) : State :=
  { s with exposure := { s.exposure with paper := { s.exposure.paper with loaded := true, remaining := remaining } } }

/-- The same state with another link port. -/
def withLink (f : LinkPort → LinkPort) (s : State) : State := { s with link := f s.link }

/-- A boundary cut list entry. -/
def entry (boundary : Boundary) (cutAt : Int) (retry : Bool) : CutEntry :=
  { boundary := boundary, cutAt := cutAt, retry := retry }

/-- The same state with a cut list, and the oldest entry's cut in progress or not. -/
def cutting (progress : Option CutProgress) (cuts : List CutEntry) (s : State) : State :=
  { s with cutter := { s.cutter with progress := progress, cutList := cuts } }

/-- The same state with another record for bin 1. -/
def withBin (b : Bin) (s : State) : State := s.updateBin 1 fun _ => b

/-- A bin record. -/
def bin (state : BinState) (owner : Option Nat) (live : Bool) (count pending : Nat) : Bin :=
  { state := state, owner := owner, ownerLive := live, ownerClass := .standard, count := count, pending := pending, stray := 0 }

/-- A sorter queue entry with a deadline. -/
def sortEntry (target : Target) (deadline : Nat) : SortEntry :=
  { print := aPrint, target := target, leftAt := 0, deadline := deadline }

/-- The same state with this sorter queue. -/
def withBelt (queue : List SortEntry) (s : State) : State := { s with sorter := { s.sorter with queue := queue } }

/-- A state's part that a step has left, where the step goes on. -/
def after {α : Type} (f : State → α) (o : Host.Outcome State Fault Refusal) : Option α :=
  match o with
  | .next s => some (f s)
  | .fault _ | .refused _ => none

/-- The same state with a print exposing. -/
def exposingIn (s : State) : State := { s with reader := { s.reader with source := some .margin } }

/-! ### WellFormed -/

/-- A frame of no bytes is no arrival (R162). -/
theorem test_wellformed_refuses_no_bytes : (Instr.frameArrival []).wellFormed = false := by decide

/-- There are bins 1 to 24, and the tray as place 25 (R126, R172). -/
theorem test_wellformed_refuses_places :
    (Instr.drop 0).wellFormed = false ∧ (Instr.drop 26).wellFormed = false ∧ (Instr.binClear 0).wellFormed = false ∧
      (Instr.binClear 25).wellFormed = false := by decide

/-- A length of 11,600 is not over the limit (R162). -/
theorem test_wellformed_refuses_allowed_length :
    (Instr.lengthOverLimit 0x14 0 11600).wellFormed = false ∧ (Instr.lengthOverLimit 0x14 0 11601).wellFormed = true := by
  decide

/-- The opcode table gives no row bits, so no word spells a command. -/
theorem test_no_word_spells_a_command : decodeTableWord 32 0 = none ∧ (State.reset.withFetchWord 32 0).pending = [] := by
  decide

/-! ### The manual's worked examples -/

/-- Chapter 04, "one pixel of one line": the on-times 397, 227 and 12 µs, none clipped, at P = 3,000 µs and duty 1/2. -/
theorem test_pixel_example :
    exposureWindow 3000 2 = 500 ∧ onTime [2730] 4710 1060 500 12 0 = (397, false) ∧
      onTime [1904] 4096 998 500 12 0 = (227, false) ∧ onTime [37] 3500 1131 500 12 0 = (12, false) := by decide

/-- Chapter 04, "at the limits": clipped at both stages, at B alone, at C alone, and a wide window. -/
theorem test_clipping_example :
    onTime [4095] 8191 1279 500 12 0 = (500, true) ∧ (stageThermal 4095 1024).2 = false ∧
      (stageThermal 3500 1279) = (4095, true) ∧ stageWindow 1 500 = 0 ∧ stageWindow 4095 6666 = 6664 := by decide

/-- Chapter 04, "choosing the thermal values": band of a reading at base 60 and width 8; 55 and 200 are clamped. -/
theorem test_thermal_band_example :
    let t : ThermalTable := { base := 60, width := 8, bands := [] }
    t.band 55 = 0 ∧ t.band 60 = 0 ∧ t.band 68 = 1 ∧ t.band 200 = 15 := by decide

/-- Chapter 01, "forming the order key", as chapters 07 and 08 use it: keys 9, 41, 24 and 2. -/
theorem test_order_key_example :
    let key (source : Source) (cls : ServiceClass) (group : Option Nat) : Nat :=
      { Order.new 1 source cls none none with group := group }.key
    key .counter .express (some 1) = 9 ∧ key .online .express (some 1) = 41 ∧ key .kiosk .express (some 0) = 24 ∧
      key .counter .standard (some 2) = 2 := by decide

/-- Chapter 07, "finding the range": the four windows of the example. -/
theorem test_bin_range_example :
    let windows : List Window := [⟨true, 32, 48, 17, 24⟩, ⟨true, 8, 12, 1, 4⟩, ⟨false, 3, 3, 21, 24⟩, ⟨true, 0, 0, 5, 16⟩]
    binRange windows 41 = (17, 24) ∧ binRange windows 24 = (1, 4) ∧ binRange windows 2 = (5, 16) ∧
      binRange (windows.take 3) 2 = (1, 24) := by decide

/-- The price engine of chapter 08's first example. -/
def engine : PriceEngine :=
  { PriceEngine.reset with
    rows := (PriceEngine.reset.rows.set 3 { loaded := true, glossy := 35, lustre := 38, breaks := [⟨25, 20⟩, ⟨100, 35⟩] }).set 7
      { loaded := true, glossy := 420, lustre := 450, breaks := [] }
    surcharges := [0, 5, 10, 0]
    promotions := PriceEngine.reset.promotions.set 2
      { code := 4021, enabled := true, kind := .percent, percent := 15, amount := 0, size := 0, prints := 0, cap := 200,
        base := 8, mask := 12 } }

/-- The order of chapter 08's first example. -/
def expressOrder : Order :=
  { Order.new 71450 .counter .express (some 4021) none with
    tallies := [⟨3, .glossy, 36⟩, ⟨7, .lustre, 2⟩], group := some 1, delivered := 38, bins := [2] }

/-- Chapter 08, "pricing an express order": subtotal 2,288, discount 200, total 2,088, and the two variants. -/
theorem test_pricing_example :
    engine.bill expressOrder = ⟨2288, 200, 2088, 0, false, false⟩ ∧
      { engine with promotions := PriceEngine.reset.promotions }.bill expressOrder = ⟨2288, 0, 2288, 0, true, false⟩ ∧
      engine.bill { expressOrder with cls := .standard } = ⟨1908, 0, 1908, 0, false, true⟩ := by decide

/-- The engine and order of "free prints, lowest price first", with n free prints of size 4. -/
def freeBill (n : Nat) : OrderBill :=
  { PriceEngine.reset with
    rows := (PriceEngine.reset.rows.set 4 { loaded := true, glossy := 60, lustre := 55, breaks := [⟨10, 10⟩] }).set 2
      { loaded := true, glossy := 30, lustre := 0, breaks := [⟨25, 15⟩] }
    promotions := PriceEngine.reset.promotions.set 0
      { code := 9, enabled := true, kind := .freePrints, percent := 0, amount := 0, size := 4, prints := n, cap := 0, base := 0,
        mask := 0 } }.bill
    { Order.new 1 .counter .standard (some 9) none with
      tallies := [⟨4, .glossy, 12⟩, ⟨4, .lustre, 5⟩, ⟨2, .glossy, 30⟩] }

/-- Chapter 08, "free prints, lowest price first": 432 and 1,271 with n = 8, 813 and 890 with n = 15. -/
theorem test_free_prints_example :
    freeBill 8 = ⟨1703, 432, 1271, 0, false, false⟩ ∧ freeBill 15 = ⟨1703, 813, 890, 0, false, false⟩ := by decide

/-- Chapter 06, "the purge after a full reset": exp 720 for the first cut point, 35,520 for the thirtieth, and no more. -/
theorem test_purge_example :
    State.reset.expectedAt (.cutPoint 1) = some 720 ∧ State.reset.expectedAt (.cutPoint 30) = some 35520 ∧
      State.reset.nextBoundary (.cutPoint 29) = some (.cutPoint 30) ∧ State.reset.nextBoundary (.cutPoint 30) = none := by
  decide

/-- Chapter 06, "following a drift": B1 expected at 235,760 and punched at 235,766 is cut at 236,006, and δ becomes 6. -/
theorem test_drift_example :
    let s := { onPath [{ segment .print 1500 (some aPrint) with start := 200000 }] State.reset with
      path := { State.reset.path with position := 235766, queue := [{ segment .print 1500 (some aPrint) with start := 200000 }] }
      cutter := { State.reset.cutter with current := some (.record 200000) } }
    s.judgePunch.cutter.delta = 6 ∧ s.judgePunch.cutter.cutList = [entry (.record 200000) 236006 false] ∧
      s.judgePunch.path.queue.map Segment.lead = [.registered] := by decide

/-- Chapter 02, "a developer trip with prints upstream", at web position 100,000: B and E overlap the zone, A and F do not. -/
theorem test_zone_example :
    let at100 (start : Int) : Bool := ({ segment .print 1500 none with start := start } : Segment).overlaps 6000 24000 100000
    at100 74400 = false ∧ at100 75900 = true ∧ at100 94000 = true ∧ at100 95500 = false := by decide

/-- Chapter 05, "a developer excursion in COMPARATOR mode": 81 as the fourth outside reading trips, 79 does not recover, 78
does. -/
theorem test_developer_example :
    let c := { Channel.reset .dev with exceed := 3, armed := false }
    (c.judge 81).trips = true ∧ (c.judge 81).raises = true ∧ ((c.judge 81).channel.judge 79).channel.state = .tripped ∧
      ((c.judge 81).channel.judge 78).channel.state = .normal := by decide

/-- R135: a lamp with carrier code 4 and the 1 Hz phase is lit for 500 ms of every second; with 4 Hz and 1 Hz, for 125 ms of
each of the first two quarters. -/
theorem test_lamp_example :
    let slow : LampPattern := ⟨4, false, false, true, false⟩
    let both : LampPattern := ⟨4, true, false, true, false⟩
    slow.lit 499999 = true ∧ slow.lit 500000 = false ∧ both.lit 124999 = true ∧ both.lit 125000 = false ∧
      both.lit 374999 = true ∧ both.lit 375000 = false ∧ both.lit 500000 = false := by decide

/-- The check of R161's parameters (polynomial 0x1021, initial value all ones, nothing inverted or reflected) over the digits
1 to 9 is the published check value 0x29B1 of that code. -/
theorem test_frame_check_value :
    frameCheck [0x31, 0x32, 0x33, 0x34, 0x35, 0x36, 0x37, 0x38, 0x39] = 0x29B1#16 := by decide +kernel

/-! ### One step of a command -/

/-- R165: the first frame after a full reset is CREDIT with the increments 48 and 16, kind 41 hex. -/
theorem test_first_credit :
    after (fun s => (s.link.availableStream, s.link.availableCommand, s.link.transmitting.map fun f => f.bytes.take 7))
      (exec .credit State.reset) = some (48, 16, some [0xA5, 0x41, 0, 0, 2, 48, 16]) := by decide

/-- R4: order 5 (KIOSK, EXPRESS, no promotion, announced 2) takes slot 0 of an empty table. -/
theorem test_order_open :
    after (fun s => (s.orders[0]?, s.store, s.link.returnedStream, s.link.outbound.map OutFrame.payload))
      (exec .orderOpen (stored .orderOpen [0, 0, 5, 1, 2, 0, 0, 0, 2])) =
    some (some (some (order .opened)), [], 49, [[0x11, 0]]) := by decide

/-- R167, R171: an ORDER CLOSE of wrong length is answered RANGE, result 2. -/
theorem test_order_close_wrong_length :
    after (fun s => (s.link.outbound.map OutFrame.payload)) (exec .orderClose (stored .orderClose [0])) =
      some [[0x12, 2]] := by decide

/-- R5, R51: a header of an order that is not live is refused UNKNOWN_ORDER, and its frames are discarded. -/
theorem test_header_unknown_order :
    after (fun s => (s.reader.mode, s.link.outbound.map OutFrame.payload, s.counter .refused))
      (exec .printHeader (stored .printHeader [0, 0, 5, 0, 1, 0, 4, 0, 0])) =
    some (.discarding, [[0, 0, 0, 5, 0, 1, 0, 0]], 1) := by decide

/-- R79: a PAPER LOAD of 152 mm lustre paper, profile 1, 100,000 lines. -/
theorem test_paper_load :
    after (fun s => (s.exposure.paper, s.exposure.paperGeneration))
      (exec .paperLoad (stored .paperLoad [0, 152, 1, 1, 1, 134, 160])) =
    some (⟨true, 152, .lustre, 1, 100000⟩, 1) := by decide

/-- R29: a RUN START with no paper is refused NO_PAPER, result 7, and with R + U lines is accepted. -/
theorem test_run_start :
    after (fun s => (s.path.run, s.link.outbound.map OutFrame.payload)) (exec .runStart (queued .runStart [])) =
        some (.idle, [[0x21, 7]]) ∧
      after (fun s => (s.path.run, s.link.outbound.map OutFrame.payload))
        (exec .runStart (withPaper 37440 (queued .runStart []))) = some (.starting, [[0x21, 0]]) := by decide

/-- R31, R98: the first step of a run begins the RAMP at the web position and fires the punch. -/
theorem test_ramp_begins :
    let s := { withPaper 37440 State.reset with path := { State.reset.path with run := .starting, rampDue := true } }
    after (fun t => (t.path.position, t.path.queue.map Segment.kind, t.outputs.punchPulse)) (exec (.step .paper) s) =
        some (1, [.purge, .ramp], 2) ∧
      after (fun t => t.path.queue.map fun g => (g.start, g.length, g.planned)) (exec (.step .paper) s) =
        some [(-36240, 36240, 36240), (0, 1, 1200)] := by decide

/-- R112: a cut-done with no cut in progress is only counted. -/
theorem test_late_cut_done : after (State.counter .lateCutDone) (exec .cutDone State.reset) = some 1 := by decide

/-- R130: a drop with an empty belt is a stray: the bin is HELD and its stray count is 1. -/
theorem test_stray_drop :
    after (fun s => (s.bin 24).map fun b => (b.state, b.stray)) (exec (.drop 24) State.reset) = some (some (.held, 1)) := by
  decide

/-- There is no place 26 (R126). -/
theorem test_no_such_drop : exec (.drop 26) State.reset = .fault (.noSuchInput 26) := by rfl

/-- R131: where a drop and the oldest entry's deadline fall together and the drop is taken first, the expiry does not happen: the
second entry, whose deadline lies ahead, is not lost. -/
theorem test_drop_voids_the_deadline :
    let s := withBelt [sortEntry (.bin 24) 10, sortEntry (.bin 2) 50] { State.reset with now := 10 }
    ∀ pins, s.nextCommand pins = some .deliveryDeadline ∧
      after (fun t => (t.sorter.queue, t.nextCommand pins)) (exec (.drop 24) s) =
        some ([sortEntry (.bin 2) 50], some .credit) := by
  exact fun _ => ⟨rfl, rfl⟩

/-- R132: a clear frees a HELD bin that nothing holds, as every bin is after a full reset. -/
theorem test_bin_clear : after (fun s => (s.bin 24).map Bin.state) (exec (.binClear 24) State.reset) = some (some .free) := by
  decide

/-- R84: a conversion above full scale reads 240 (HEAD_R is converted first). -/
theorem test_conversion_clamps :
    after (fun s => (s.monitor.channels.map Channel.reading, s.monitor.converting)) (exec (.conversion 300) State.reset) =
      some ([240, 0, 0, 0], 1) := by decide

/-- R158, R33: an emergency stop halts a running web for ESTOP. -/
theorem test_estop_halts :
    after (fun s => (s.path.run, s.path.haltCause, s.alerts.estop.level))
      (exec (.estopJamInput .estop true) (inRun .running State.reset)) = some (.halted, some .estop, true) := by decide

/-- R174: QUERY TABLE of the paper record (kind 5): generation 0, one entry, start 0, one returned. -/
theorem test_query_table :
    after (fun s => s.link.outbound.map OutFrame.payload) (exec .queryTable (queued .query [6, 5, 0, 1])) =
      some [[6, 5, 0, 0, 1, 0, 1, 0, 0, 89, 0, 0, 0, 0, 0], [0x2C, 0]] := by decide

/-- R162, R164: an empty RUN END frame with its check, byte by byte, reaches the Command Queue. -/
theorem test_frame_arrival :
    after (fun s => (s.commands, s.link.availableCommand))
      (exec (.frameArrival (frameBytes 0x22 7 [])) (withLink (fun l => { l with availableCommand := 1 }) State.reset)) =
    some ([frame .runEnd []], 0) := by decide +kernel

/-- Chapter 06, "the purge after a full reset": cut point 1 at −35,040 with exp = 720; then a record boundary at 0, whose exp is
35,760 (R101), which has no index; and no boundary (R117, R172). -/
theorem test_boundary_bytes :
    let watching (b : Option Boundary) : State := { State.reset with cutter := { State.reset.cutter with current := b } }
    State.reset.boundaryBytes = [1, 1, 0, 0, 0, 1, 255, 255, 255, 255, 119, 32, 0, 0, 0, 0, 2, 208] ∧
      (watching (some (.record 0))).boundaryBytes = [1, 0, 0, 0, 0, 0, 0, 0, 0, 0, 0, 0, 0, 0, 0, 0, 139, 176] ∧
      (watching none).boundaryBytes = List.replicate 18 0 := by decide

/-! ### Witnesses: concrete states and operands that meet the hypotheses of each statement, clause by clause -/

theorem witness_StepTakesFrontCommand :
    ({ State.reset with pending := [.trayClear, .credit] } : State).pending = Instr.trayClear :: [.credit] := rfl

/-- In reset; a CREDIT frame due at once; nothing to do but to let time pass; and each timed event due, with those before it not. -/
theorem witness_StepIdlesByItself :
    let quiet := withLink (fun l => { l with returnedStream := 0, returnedCommand := 0 }) State.reset
    let priced := { quiet with price := { quiet.price with engine := some ⟨3, 0⟩ } }
    let lost := withBelt [sortEntry .tray 0] priced
    let dwelt := { lost with path := { lost.path with dwell := .running 0 } }
    let cut := cutting (some ⟨0, 0⟩) [] dwelt
    let converted := { cut with monitor := { cut.monitor with conversionDue := 0 } }
    (State.reset.pending = [] ∧ ({ State.reset with inReset := true } : State).inReset = true) ∧
      (State.reset.inReset = false ∧ State.reset.nextCommand (Config.pinsAt State.reset.now) = some .credit) ∧
      quiet.nextCommand (Config.pinsAt quiet.now) = none ∧
      (quiet.stepping = false ∧ ¬ quiet.monitor.conversionDue ≤ quiet.now ∧ quiet.cutter.progress = none ∧
        quiet.path.dwell = .stopped ∧ quiet.sorter.queue = [] ∧ quiet.price.engine = none) ∧
      (priced.price.engine = some ⟨3, 0⟩ ∧ 0 ≤ priced.now ∧ priced.sorter.queue = []) ∧
      (lost.sorter.queue = sortEntry .tray 0 :: [] ∧ lost.path.dwell = .stopped) ∧
      (dwelt.path.dwell = .running 0 ∧ dwelt.cutter.progress = none) ∧
      (cut.cutter.progress = some ⟨0, 0⟩ ∧ ¬ cut.monitor.conversionDue ≤ cut.now) ∧
      (converted.monitor.conversionDue ≤ converted.now ∧ converted.stepping = false) ∧
      ((inRun .running converted).stepping = true ∧ (inRun .running converted).exposure.stepDue ≤ 0) :=
  ⟨by decide, ⟨rfl, rfl⟩, rfl, by decide, by decide, by decide, by decide, by decide, by decide, by decide⟩

/-- A frame at the front of the store that the reader acts on, and one that waits in each way; one at the front of the Command
Queue that an owner acts on, a QUERY of a kind and of none, and a PRICE LOAD that waits; with both empty, the transmitter free and
not, a CREDIT frame due and none, and an outbound frame and none. -/
theorem witness_StepIdlesByItself_at_once :
    let quiet := withLink (fun l => { l with returnedStream := 0, returnedCommand := 0 }) State.reset
    let waiting (kind : InKind) (s : State) : Prop := s.store.head? = some (frame kind [])
    (waiting .line (stored .line []) ∧ State.reset.reader.mode = .reading ∧ State.reset.reader.source.isSome = false ∧
        (InKind.line, Instr.line) ∈ [(InKind.orderOpen, Instr.orderOpen), (.line, .line)]) ∧
      (waiting .line (inMode .staged (stored .line [])) ∧ waiting .line (inMode .feeding (stored .line [])) ∧
        waiting .lutLoad (exposingIn (stored .lutLoad [])) ∧
        (exposingIn (stored .lutLoad [])).reader.mode = .reading ∧
        (exposingIn (stored .lutLoad [])).reader.source.isSome = true) ∧
      (State.reset.store = [] ∧ (queued .runEnd []).commands.head? = some (frame .runEnd []) ∧
        (queued .query [8]).commands.head? = some (frame .query [8]) ∧ fieldOrZero [8] 0 1 - 1 = 7 ∧
        fieldOrZero [9] 0 1 - 1 = 8 ∧
        (let s := queued .priceLoad []
         { s with price := { s.price with engine := some ⟨3, 0⟩ } }.price.engine.isSome = true)) ∧
      (quiet.store = [] ∧ quiet.commands = [] ∧ quiet.link.transmitterFreeAt ≤ quiet.now ∧
        0 < State.reset.link.returnedStream ∧ ¬ (0 < quiet.link.returnedStream ∨ 0 < quiet.link.returnedCommand) ∧
        quiet.link.outbound = [] ∧
        (withLink (fun l => { l with outbound := [⟨.status, 0, []⟩] }) quiet).link.outbound ≠ [] ∧
        (let s := withLink (fun l => { l with transmitterFreeAt := 1 }) quiet
         s.now < s.link.transmitterFreeAt)) := by decide

theorem witness_CommandsCompleteOrAreNamed :
    ((Instr.drop 1).wellFormed = true ∧ (Instr.drop 25).wellFormed = true ∧ (Instr.binClear 24).wellFormed = true) ∧
      ((Instr.drop 0).wellFormed = false ∧ (Instr.drop 26).wellFormed = false) ∧
      ((Instr.binClear 0).wellFormed = false ∧ (Instr.binClear 25).wellFormed = false) ∧
      (({ State.reset with inReset := true } : State).inReset = true ∧ Instr.trayClear.wellFormed = true ∧
        Instr.trayClear ≠ .fullReset ∧ Instr.trayClear ≠ .resetPinRelease) := by decide

theorem witness_FullResetClearsTheMachine :
    ({ State.reset with inReset := true } : State).inReset = true ∧ State.reset.inReset = false := by decide

/-- Each of the five modes, with a staged print in STAGED, and a break that goes on and one that does not. -/
theorem witness_BreakResetsTheLink :
    State.reset.inReset = false ∧ State.reset.reader.mode = .reading ∧ (inMode .feeding State.reset).reader.mode = .feeding ∧
      (inMode .awaitingEnd State.reset).reader.mode = .awaitingEnd ∧
      (inMode .discarding State.reset).reader.mode = .discarding ∧
      (let s := { State.reset with reader := { State.reset.reader with mode := .staged, staged := some aPrint } }
       s.reader.mode = .staged ∧ s.reader.staged = some aPrint) ∧
      (withLink (fun l => { l with breakHeld := true }) State.reset).link.breakHeld = true ∧
      State.reset.link.breakHeld = false := by decide

/-- The last credit of each group, no credit of each group, and the longest payload. -/
theorem witness_GoodFrameIsStored :
    (State.reset.inReset = false ∧ State.reset.link.breakHeld = false ∧ State.reset.link.receiver = .hunting) ∧
      (InKind.line.sequenced = true ∧ 1 ≤ (withLink (fun l => { l with availableStream := 1 }) State.reset).link.availableStream) ∧
      (InKind.query.sequenced = false ∧
        1 ≤ (withLink (fun l => { l with availableCommand := 1 }) State.reset).link.availableCommand) ∧
      ((if InKind.line.sequenced then State.reset.link.availableStream else State.reset.link.availableCommand) = 0 ∧
        (if InKind.query.sequenced then State.reset.link.availableStream else State.reset.link.availableCommand) = 0) := by
  decide

theorem witness_GoodFrameIsStored_longest : (List.replicate 11600 (0 : Byte)).length ≤ 11600 := by
  rw [List.length_replicate]

/-- A wrong check, a kind that is none, and the least length over the limit. -/
theorem witness_FailedFrameKeepsItsCredit :
    (State.reset.inReset = false ∧ State.reset.link.breakHeld = false ∧ State.reset.link.receiver = .hunting) ∧
      (([] : List Byte).length ≤ 11600 ∧ 65535 < 65536 ∧ 65535 ≠ (frameCheck ([0x11, 0] ++ bytesOf 2 0 ++ [])).toNat) ∧
      InKind.ofCode 0x10 = none ∧ 11600 < (11601 : BitVec 16).toNat := by decide +kernel

/-- A queue one short of full and a full one; credit to return and none; an overflow mark clear and set. -/
theorem witness_TransmitterBeginsFrames :
    let f : OutFrame := { kind := .status, tag := 0, payload := [] }
    let idle (mark : Bool) : State :=
      withLink (fun l => { l with returnedStream := 0, returnedCommand := 0, outbound := [f], overflow := mark }) State.reset
    (withLink (fun l => { l with outbound := List.replicate 63 f }) State.reset).link.outbound.length < 64 ∧
      64 ≤ (withLink (fun l => { l with outbound := List.replicate 64 f }) State.reset).link.outbound.length ∧
      0 < State.reset.link.returnedStream ∧
      ((idle false).inReset = false ∧ (idle false).link.outbound = f :: [] ∧ (idle false).link.returnedStream = 0 ∧
        (idle false).link.returnedCommand = 0 ∧ (idle false).link.overflow = false ∧ (idle true).link.overflow = true) ∧
      (withLink (fun l => { l with outbound := [f] }) State.reset).link.outbound = f :: [] := by decide

theorem witness_RaiseCountsAndReports : State.reset.alerts.causes.length = 20 := by decide

theorem witness_FieldsReadBack :
    255 < 256 ^ 1 ∧ (0 < 2 ∧ 1 < 2) ∧ ([0, 5] : List Byte).length < 1 + 2 ∧
      (0 < 1 ∧ -(256 ^ 1 / 2 : Nat) ≤ (-128 : Int) ∧ (127 : Int) < (256 ^ 1 / 2 : Nat)) ∧
      InKind.ofCode 0x2C = some .query := by decide

/-! Orders -/

/-- Each refusal of an ORDER OPEN, and slot 0 free. -/
theorem witness_OrderOpenTakesAFreeSlot :
    let good : List Byte := [0, 0, 5, 3, 3, 0, 0, 3, 231]
    let s := stored .orderOpen good
    (StoreFront .orderOpen (frame .orderOpen good) [] s ∧ s.reader.mode = .reading) ∧
      (999 < field [0, 0, 5, 1, 2, 0, 0, 3, 232] 7 2 ∧ 3 < field [0, 0, 5, 4, 2, 0, 0, 0, 2] 3 1 ∧
        field [0, 0, 0, 1, 2, 0, 0, 0, 2] 0 3 = 0) ∧
      (good.length = 9 ∧ field good 0 3 ≠ 0 ∧ Source.ofCode (field good 3 1) = some .trade ∧
        ServiceClass.ofCode (field good 4 1) = some .bulk ∧ field good 7 2 ≤ 999) ∧
      ((holding (order .opened) s).findOrder 5).isSome = true ∧
      (let full := { s with orders := List.replicate 32 (some { order .opened with number := 6 }) }
       full.findOrder 5 = none ∧ ∀ o ∈ full.orders, o ≠ none) ∧
      (s.findOrder 5 = none ∧ s.orders[0]? = some none ∧ ∀ earlier < 0, s.orders[earlier]? ≠ some none) :=
  ⟨⟨⟨rfl, rfl, rfl⟩, rfl⟩, by decide, by decide, by decide, by decide, by decide⟩

/-- Wrong length, an unknown order, an order that is not OPEN and one that is; the completion test failing, and passing with the
engine busy and idle. -/
theorem witness_OrderCloseMakesTheCompletionTest :
    let close : List Byte := [0, 0, 5]
    let s := stored .orderClose close
    let done : Order := { order .closed with expected := some 0 }
    (StoreFront .orderClose (frame .orderClose close) [] s ∧ s.reader.mode = .reading ∧ close.length = 3 ∧
      ([0, 0] : List Byte).length ≠ 3 ∧ s.findOrder (field close 0 3) = none) ∧
      ((holding (order .closed) s).findOrder (field close 0 3) = some (order .closed) ∧ (order .closed).state ≠ .opened) ∧
      ((holding (order .opened) s).findOrder (field close 0 3) = some (order .opened) ∧ (order .opened).state = .opened) ∧
      ((holding done s).findOrder 5 = some done ∧ (holding done s).slotOf 5 = some 3 ∧ (order .closed).expected ≠ some 0 ∧
        done.state = .closed ∧ done.expected = some done.delivered ∧ done.inFlight = 0 ∧ done.remakes = []) ∧
      (let busy := { holding done s with price := { s.price with engine := some ⟨0, 0⟩ } }
       busy.findOrder 5 = some done ∧ busy.price.engine.isSome = true) ∧
      ((holding done s).price.engine = none ∧ (holding done s).price.queue = []) :=
  ⟨⟨⟨rfl, rfl, rfl⟩, rfl, by decide, by decide, by decide⟩, by decide, by decide, by decide, by decide, by decide⟩

theorem witness_OrderLedgerBalances :
    let r : Order := { order .opened with sent := 3, delivered := 1, inFlight := 1, remakes := [⟨2, 2⟩] }
    r.sent = r.delivered + r.inFlight + r.remakes.length ∧ (∃ e ∈ r.remakes, e.index = 2) ∧ 0 < r.inFlight := by decide

/-- The last attempt that A_max = 3 allows and the one before it; a list of 15 entries and one of 16. -/
theorem witness_RejectionAsksForARemake :
    let room : Order := { order .closed with inFlight := 1, remakes := List.replicate 15 ⟨9, 2⟩ }
    let full : Order := { room with remakes := List.replicate 16 ⟨9, 2⟩ }
    ((holding room State.reset).findOrder 5 = some room ∧ room.state = .closed) ∧
      (2 + 1 ≤ State.reset.path.params.aMax ∧ room.remakes.length < 16) ∧ State.reset.path.params.aMax < 3 + 1 ∧
      (holding full State.reset).findOrder 5 = some full ∧ 16 ≤ full.remakes.length := by decide

theorem witness_WindingDownOrderEnds :
    let two : Order := { order .cancelling with inFlight := 2 }
    let one : Order := { order .failing with inFlight := 1 }
    ((holding two State.reset).findOrder 5 = some two ∧ two.state = .cancelling ∧ 1 < two.inFlight) ∧
      ((holding one State.reset).findOrder 5 = some one ∧ one.state = .failing ∧ one.inFlight ≤ 1) := by decide

/-- An ORDER CANCEL for an order in each state, and one with prints in flight and with none, that has a staged print or has not. -/
theorem witness_OrderCancelByState :
    let s := queued .orderCancel [0, 0, 5]
    let flying (n : Nat) : Order := { order .opened with inFlight := n }
    let staged := { s with reader := { s.reader with mode := .staged, staged := some aPrint } }
    (CommandFront .orderCancel (frame .orderCancel [0, 0, 5]) [] s ∧ ([0, 5] : List Byte).length ≠ 3 ∧
      s.findOrder 5 = none) ∧
      ((holding (order .pricing) s).findOrder 5 = some (order .pricing) ∧
        (holding (order .cancelling) s).findOrder 5 = some (order .cancelling) ∧
        (holding (order .failing) s).findOrder 5 = some (order .failing) ∧
        (holding (order .opened) s).findOrder 5 = some (order .opened) ∧
        (holding (order .closed) s).findOrder 5 = some (order .closed)) ∧
      ((holding (flying 1) s).findOrder 5 = some (flying 1) ∧ s.reader.staged = none ∧ 0 < (flying 1).inFlight ∧
        (holding (flying 0) s).findOrder 5 = some (flying 0) ∧ (flying 0).inFlight = 0) ∧
      (staged.reader.staged = some aPrint ∧ aPrint.order = 5 ∧ (flying 1).inFlight ≤ 1 ∧
        (holding (flying 2) staged).findOrder 5 = some (flying 2) ∧ 1 < (flying 2).inFlight) :=
  ⟨⟨⟨rfl, rfl, rfl⟩, by decide, by decide⟩, by decide, by decide, by decide⟩

/-! The Store Reader -/

/-- An ORDER OPEN at the front in each mode but READING. -/
theorem witness_OtherFramesEndTheStream :
    let f := frame .orderOpen []
    let s := stored .orderOpen []
    (InKind.orderOpen.readerCommand = some .orderOpen ∧ InKind.orderOpen ≠ .line ∧ InKind.orderOpen ≠ .printEnd ∧
      StoreFront .orderOpen f [] s) ∧
      (StoreFront .orderOpen f [] (inMode .staged s) ∧ (inMode .staged s).reader.mode = .staged) ∧
      (StoreFront .orderOpen f [] (inMode .discarding s) ∧ (inMode .discarding s).reader.mode = .discarding) ∧
      (let fed := inMode .feeding (onPath [segment .print 10 (some aPrint)] s)
       StoreFront .orderOpen f [] fed ∧ fed.reader.mode = .feeding ∧
         fed.path.queue = [] ++ [segment .print 10 (some aPrint)]) ∧
      (let waiting := { s with reader := { s.reader with mode := .awaitingEnd, awaited := some aPrint.key } }
       StoreFront .orderOpen f [] waiting ∧ waiting.reader.mode = .awaitingEnd ∧
         waiting.reader.awaited = some aPrint.key) :=
  ⟨⟨rfl, by decide, by decide, rfl, rfl, rfl⟩, ⟨⟨rfl, rfl, rfl⟩, rfl⟩, ⟨⟨rfl, rfl, rfl⟩, rfl⟩,
    ⟨⟨rfl, rfl, rfl⟩, rfl, rfl⟩, ⟨rfl, rfl, rfl⟩, rfl, rfl⟩

/-- A state whose paper, size 4 and profile 0 let a print of 1,500 lines pass. -/
def printable (s : State) : State :=
  { s with exposure := { s.exposure with
      sizes := s.exposure.sizes.set 4 ⟨true, 89, 1500, 1⟩
      profiles := s.exposure.profiles.set 0 ⟨true, ⟨4096, 4096, 4096⟩, 0, 3, 0⟩
      luts := List.replicate 12 ⟨true, []⟩
      paper := ⟨true, 89, .glossy, 0, 100000⟩ } }

/-- The header of print `index` of order 5, size 4. -/
def header (index : Byte) (remake : Byte) : List Byte := [0, 0, 5, 0, index, remake, 4, 0, 0]

/-- Each step of the header check reached by its own order and tables. -/
theorem witness_RefusedHeaderIsReported :
    let s := stored .printHeader (header 1 0)
    let h (index : Nat) (remake : Bool) : Header := ⟨5, index, remake, 4, .glossy, true⟩
    (StoreFront .printHeader (frame .printHeader (header 1 0)) [] s ∧ s.reader.mode = .reading) ∧
      s.findOrder 5 = none ∧
      ((holding (order .closed) s).findOrder 5 = some (order .closed) ∧ (order .closed).state ≠ .opened) ∧
      ((order .opened).state = .opened ∧ 2 ≠ (order .opened).sent + 1) ∧
      (let r : Order := { order .opened with announced := some 0 }
       (holding r s).findOrder 5 = some r ∧ 1 = r.sent + 1 ∧ 1 ≤ 999 ∧ r.announced = some r.sent) ∧
      (let r : Order := { order .opened with sent := 999 }
       (holding r s).findOrder 5 = some r ∧ 1000 = r.sent + 1 ∧ 999 < 1000) ∧
      ((h 1 true).remake = true ∧ ∀ e ∈ (order .opened).remakes, e.index ≠ 1) ∧
      ((h 1 false).remake = false ∧ 1 = (order .opened).sent + 1 ∧ (order .opened).announced ≠ some (order .opened).sent) ∧
      (let r : Order := { order .closed with remakes := [⟨1, 2⟩] }
       (holding r s).findOrder 5 = some r ∧ ∃ e ∈ r.remakes, e.index = 1) ∧
      (([0] : List Byte).length ≠ 9 ∧ 1 < field (header 1 2) 5 1) ∧
      (field (header 1 0) 5 1 ≤ 1 ∧ s.refuseHeader (parseHeader (header 1 0)) = some .unknownOrder) :=
  ⟨⟨⟨rfl, rfl, rfl⟩, rfl⟩, by decide, by decide, by decide, by decide, by decide, by decide, by decide, by decide, by decide,
    by decide⟩

/-- An original and a remake that are accepted. -/
theorem witness_AcceptedHeaderIsStaged :
    let r : Order := { order .opened with remakes := [⟨7, 3⟩] }
    let s (f : List Byte) : State := printable (holding r (stored .printHeader f))
    (StoreFront .printHeader (frame .printHeader (header 1 0)) [] (s (header 1 0)) ∧
      (s (header 1 0)).reader.mode = .reading) ∧
      ((header 1 0).length = 9 ∧ field (header 1 0) 5 1 ≤ 1 ∧
        (s (header 1 0)).refuseHeader (parseHeader (header 1 0)) = none ∧
        (s (header 1 0)).findOrder (field (header 1 0) 0 3) = some r ∧
        (s (header 1 0)).exposure.sizes[field (header 1 0) 6 1]? = some ⟨true, 89, 1500, 1⟩) ∧
      (field (header 7 1) 5 1 ≤ 1 ∧ (s (header 7 1)).refuseHeader (parseHeader (header 7 1)) = none) :=
  ⟨⟨⟨rfl, rfl, rfl⟩, rfl⟩, by decide, by decide⟩

/-- A LINE and a PRINT END at the front in each mode. -/
theorem witness_LineAndPrintEndByMode :
    let waiting (s : State) : State := { s with reader := { s.reader with mode := .awaitingEnd, awaited := some aPrint.key } }
    let fed := inMode .feeding (onPath [segment .print 10 (some aPrint)] (stored .printEnd []))
    (∀ mode, StoreFront .line (frame .line []) [] (inMode mode (stored .line [])) ∧
      (inMode mode (stored .line [])).reader.mode = mode) ∧
      (StoreFront .line (frame .line []) [] (waiting (stored .line [])) ∧
        (waiting (stored .line [])).reader.awaited = some aPrint.key) ∧
      (∀ mode, StoreFront .printEnd (frame .printEnd []) [] (inMode mode (stored .printEnd []))) ∧
      (StoreFront .printEnd (frame .printEnd []) [] fed ∧ fed.path.queue = [] ++ [segment .print 10 (some aPrint)]) :=
  ⟨fun _ => ⟨⟨rfl, rfl, rfl⟩, rfl⟩, ⟨⟨rfl, rfl, rfl⟩, rfl⟩, fun _ => ⟨rfl, rfl, rfl⟩, ⟨rfl, rfl, rfl⟩, rfl⟩

/-! The loads -/

/-- The payload of a PROFILE LOAD of slot 3 with every field at its greatest value in range. -/
def profilePayload : List Byte := [3] ++ bytesOf 2 8191 ++ bytesOf 2 8191 ++ bytesOf 2 8191 ++ [31, 3, 255]

/-- The payload of a LUT LOAD of slot 3, colour B, all entries 4,095. -/
def lutPayload : List Byte := [3, 2] ++ (List.replicate 256 4095).flatMap (bytesOf 2)

/-- The payload of a THERMAL LOAD at base −40, width 16, all values 1,279. -/
def thermalPayload : List Byte := bytesOfInt 2 (-40) ++ [16] ++ (List.replicate 48 1279).flatMap (bytesOf 2)

/-- The payload of a SIZE LOAD of code 15, 305 mm, 6,000 lines, group 3. -/
def sizePayload : List Byte := [15] ++ bytesOf 2 305 ++ bytesOf 2 6000 ++ [3]

/-- A PAPER LOAD with the run moving, with each field out of range, and at the greatest values. -/
theorem witness_ExposureLoadsReplaceTheirTables_paper :
    let good : List Byte := bytesOf 2 305 ++ [1, 3] ++ bytesOf 3 4000000
    let s := stored .paperLoad good
    (StoreFront .paperLoad (frame .paperLoad good) [] s ∧ s.reader.mode = .reading) ∧
      ((inRun .halted s).path.run ≠ .idle ∧ s.path.run = .idle) ∧
      (90 ∉ [89, 102, 127, 152, 203, 210, 254, 305] ∧ 1 < field [0, 89, 2, 0, 0, 0, 0] 2 1 ∧
        3 < field [0, 89, 0, 4, 0, 0, 0] 3 1 ∧ 4000000 < field ([0, 89, 0, 0] ++ bytesOf 3 4000001) 4 3) ∧
      (good.length = 7 ∧ field good 0 2 ∈ [89, 102, 127, 152, 203, 210, 254, 305] ∧ field good 2 1 ≤ 1 ∧ field good 3 1 ≤ 3 ∧
        field good 4 3 ≤ 4000000) :=
  ⟨⟨⟨rfl, rfl, rfl⟩, rfl⟩, by decide, by decide, by decide⟩

/-- Each exposure load at the front, exposing and not, refused and accepted. -/
theorem witness_ExposureLoadsReplaceTheirTables_tables :
    (StoreFront .profileLoad (frame .profileLoad profilePayload) [] (stored .profileLoad profilePayload) ∧
      StoreFront .lutLoad (frame .lutLoad lutPayload) [] (stored .lutLoad lutPayload) ∧
      StoreFront .thermalLoad (frame .thermalLoad thermalPayload) [] (stored .thermalLoad thermalPayload) ∧
      StoreFront .sizeLoad (frame .sizeLoad sizePayload) [] (stored .sizeLoad sizePayload)) ∧
      (State.reset.reader.mode = .reading ∧ State.reset.reader.source = none ∧
        (exposingIn State.reset).reader.source.isSome = true) ∧
      (parseProfileLoad [] = none ∧
        parseProfileLoad profilePayload = some (3, ⟨true, ⟨8191, 8191, 8191⟩, 31, 3, 255⟩)) ∧
      (parseThermalLoad [] = none ∧ (parseThermalLoad thermalPayload).isSome = true) ∧
      (parseSizeLoad [] = none ∧ parseSizeLoad sizePayload = some (15, ⟨true, 305, 6000, 3⟩)) :=
  ⟨⟨⟨rfl, rfl, rfl⟩, ⟨rfl, rfl, rfl⟩, ⟨rfl, rfl, rfl⟩, rfl, rfl, rfl⟩, by decide, by decide, by decide +kernel, by decide⟩

theorem witness_ExposureLoadsReplaceTheirTables_lut :
    parseLutLoad [] = none ∧ parseLutLoad lutPayload = some (11, List.replicate 256 4095) := by decide +kernel

/-- R106: cut point 1 of the reset's PURGE record is reached once d_s is 1,200 and a waste unit 600: exp is -840, and cut points 1
and 2 are scheduled within the load; cut point 3 lies ahead, at 360. -/
theorem test_runparam_load_schedules :
    let p := { RunParams.default with dSensor := 1200, wasteUnit := 600 }
    after (fun s => (s.cutter.cutList, s.cutter.current, s.cutter.lastPurgeCut))
        (exec .runparamLoad (stored .runparamLoad p.bytes)) =
      some ([entry (.cutPoint 1) 360 false, entry (.cutPoint 2) 960 false], some (.cutPoint 3), some 960) := by decide +kernel

/-- A RUNPARAM LOAD with the run moving, out of range, of the defaults; a record boundary and a cut point under watch. -/
theorem witness_RunparamLoadReplacesTheParameters :
    let good := RunParams.default.bytes
    let s := stored .runparamLoad good
    (StoreFront .runparamLoad (frame .runparamLoad good) [] s ∧ s.reader.mode = .reading ∧ s.path.run = .idle) ∧
      (inRun .running s).path.run ≠ .idle ∧
      (¬ 900 ≤ (parseRunParams (bytesOf 2 899 ++ good.drop 2)).linePeriod) ∧
      (good.length = 23 ∧ parseRunParams good = RunParams.default ∧ RunParams.default.valid = true) ∧
      (s.cutter.current = some (.cutPoint 1) ∧
        ∀ j : Fin 40, ({ s.cutter with current := some (.record 0) } : CutterUnit).current ≠ some (.cutPoint j)) ∧
      (s.purgeRecord = some (Segment.purge (-36240) 36240) ∧ 0 < s.path.params.wasteUnit ∧ s.cutter.lastPurgeCut = none) ∧
      (({ s with cutter := { s.cutter with lastPurgeCut := some 960 } } : State).resumeIndex = 2 ∧ 30 * 1200 < 36240 ∧
        36240 ≤ 31 * 1200) ∧
      (let reached : State := { s with path := { s.path with position := 720 } }
       reached.purgeRecord = some (Segment.purge (-36240) 36240) ∧ ((s.path.position : Nat) : Int) < 960 - s.path.params.dSensor ∧
         (960 : Int) - reached.path.params.dSensor ≤ reached.path.position ∧
         (s.scheduleReached s.boundaryFuel).cutter.current = some (.cutPoint 1)) :=
  ⟨⟨⟨rfl, rfl, rfl⟩, rfl, rfl⟩, by decide, by decide, by decide, by decide, by decide, by decide, by decide +kernel⟩

/-- The greatest paper record and the default parameters; tables that the other loads carry, and payloads that they refuse, are in
witness_ExposureLoadsReplaceTheirTables and witness_OwnersLoadTheirTables. -/
theorem witness_TableEntriesReadBack :
    let p : Paper := ⟨true, 305, .lustre, 3, 4000000⟩
    let s := stored .paperLoad p.bytes.tail
    (StoreFront .paperLoad (frame .paperLoad p.bytes.tail) [] s ∧ s.reader.mode = .reading ∧ s.path.run = .idle) ∧
      (p.loaded = true ∧ p.width ∈ [89, 102, 127, 152, 203, 210, 254, 305] ∧ p.profile ≤ 3 ∧ p.remaining ≤ 4000000) ∧
      RunParams.default.valid = true ∧ RunParams.default.bytes.length = 23 :=
  ⟨⟨⟨rfl, rfl, rfl⟩, rfl, rfl⟩, by decide, by decide, by decide⟩

theorem witness_PricesAndLimitsReadBack :
    (engine.rows.length = 16 ∧ engine.surcharges.length = 4 ∧ (∀ c ∈ engine.surcharges, c ≤ 65535) ∧
      ∀ r ∈ engine.rows, r.glossy ≤ 65535 ∧ r.lustre ≤ 65535 ∧ r.breaks.length ≤ 3 ∧ breaksValid r.breaks = true) ∧
      (engine.promotions.length = 16 ∧ promotionsDistinct engine.promotions = true ∧
        ∀ p ∈ engine.promotions, p.valid = true ∧ p.code ≤ 65535 ∧ p.percent ≤ 255 ∧ p.amount ≤ 16777215 ∧ p.size ≤ 255 ∧
          p.prints ≤ 255) ∧
      ([ChannelLimits.head, .head, .head, .dev].length = 4 ∧
        ∀ l ∈ [ChannelLimits.head, .head, .head, .dev], l.valid = true) := by decide

/-! The run -/

/-- RUN START and RUN END in every state; one line short of R + U and just enough; an input active; a full path queue. -/
theorem witness_RunStartAndEndByState :
    let s := queued .runStart []
    let e := queued .runEnd []
    let draining (cause : DrainCause) (s : State) : State := { s with path := { s.path with run := .draining, drainCause := some cause } }
    (CommandFront .runStart (frame .runStart []) [] s ∧ ([1] : List Byte) ≠ []) ∧
      (s.path.run = .idle ∧ (inRun .halted s).path.run = .halted) ∧
      ((withPaper 37439 s).exposure.paper.remaining < s.path.params.lCut + 240 + s.path.params.wasteUnit ∧
        ¬ (withPaper 37440 s).exposure.paper.remaining < s.path.params.lCut + 240 + s.path.params.wasteUnit ∧
        (withPaper 37440 s).exposure.paper.loaded = true) ∧
      (({ s with alerts := { s.alerts with jam := ⟨true, true, 3⟩ } } : State).alerts.jam.level = true ∧
        s.alerts.estop.level = false) ∧
      (onPath (List.replicate 128 (segment .waste 0 none)) s).path.queue.length = 128 ∧
      ((draining .runEnd s).path.run = .draining ∧ (draining .runEnd s).path.drainCause = some .runEnd ∧
        (draining .paper s).path.drainCause = some .paper) ∧
      ((inRun .starting s).path.run = .starting ∧ (inRun .running s).path.run = .running) ∧
      CommandFront .runEnd (frame .runEnd []) [] e ∧ (∀ run, CommandFront .runEnd (frame .runEnd []) [] (inRun run e)) :=
  ⟨⟨⟨rfl, rfl, rfl⟩, by decide⟩, by decide, by decide, by decide, by decide +kernel, by decide, by decide, ⟨rfl, rfl, rfl⟩,
    fun _ => ⟨rfl, rfl, rfl⟩⟩

/-- A RUN ABORT of wrong length, in IDLE, and in HALTED over a coherent reader, with a print that waits and one at the head. -/
theorem witness_RunAbortPurgesThePath :
    let s := queued .runAbort []
    let print := segment .print 1500 (some aPrint)
    let halted := exposingIn (inRun .halted (onPath [print, print] s))
    (CommandFront .runAbort (frame .runAbort []) [] s ∧ ([0] : List Byte) ≠ [] ∧ s.path.run = .idle) ∧
      (CommandFront .runAbort (frame .runAbort []) [] halted ∧ halted.path.run ≠ .idle ∧ ReaderCoherent halted ∧
        halted.path.queue = [print] ++ [print]) :=
  ⟨⟨⟨rfl, rfl, rfl⟩, by decide, rfl⟩, ⟨rfl, rfl, rfl⟩, by decide, ⟨by decide, by decide⟩, rfl⟩

/-! Immediate frames of the other owners -/

/-- Twenty yes or no values, and twenty with one that is neither. -/
theorem witness_AlertClearAndEnable :
    let yes : List Byte := List.replicate 20 1
    (CommandFront .alertClear (frame .alertClear yes) [] (queued .alertClear yes) ∧
      CommandFront .alertEnable (frame .alertEnable yes) [] (queued .alertEnable yes)) ∧
      State.reset.alerts.causes.length = 20 ∧ (yes.length = 20 ∧ ∀ b ∈ yes, b.toNat ≤ 1) ∧
      ((List.replicate 19 (1 : Byte)).length ≠ 20 ∧ ∃ b ∈ List.replicate 19 (1 : Byte) ++ [2], 1 < b.toNat) :=
  ⟨⟨⟨rfl, rfl, rfl⟩, rfl, rfl, rfl⟩, by decide, by decide, by decide⟩

/-- The default limits of the four channels as bytes. -/
def monitorPayload : List Byte := [ChannelLimits.head, .head, .head, .dev].flatMap ChannelLimits.bytes

/-- The default sort map as bytes. -/
def sortmapPayload : List Byte :=
  SorterUnit.reset.windows.flatMap Window.bytes ++ bytesOf 1 120 ++ SorterUnit.reset.lamps.flatMap LampPattern.bytes

/-- Each load refused and accepted; a bin too full for the new capacity and one just full; the engine busy and idle. -/
theorem witness_OwnersLoadTheirTables :
    let price := engine.rows.flatMap PriceRow.bytes ++ engine.surcharges.flatMap (bytesOf 2)
    let promo := engine.promotions.flatMap Promotion.bytes
    (CommandFront .monitorLoad (frame .monitorLoad monitorPayload) [] (queued .monitorLoad monitorPayload) ∧
      CommandFront .sortmapLoad (frame .sortmapLoad sortmapPayload) [] (queued .sortmapLoad sortmapPayload) ∧
      CommandFront .priceLoad (frame .priceLoad price) [] (queued .priceLoad price) ∧
      CommandFront .promoLoad (frame .promoLoad promo) [] (queued .promoLoad promo)) ∧
      (parseMonitorLoad [] = none ∧ parseSortmapLoad [] = none ∧ parsePriceLoad [] = none ∧ parsePromoLoad [] = none) ∧
      (parseMonitorLoad monitorPayload = some [.head, .head, .head, .dev] ∧
        State.reset.monitor.channels = [.reset .head, .reset .head, .reset .head, .reset .dev]) ∧
      (parseSortmapLoad sortmapPayload = some (SorterUnit.reset.windows, 120, SorterUnit.reset.lamps) ∧
        (∃ b ∈ (withBin (bin .filling (some 5) true 120 1) State.reset).sorter.bins, 120 < b.count + b.pending) ∧
        ∀ b ∈ (withBin (bin .filling (some 5) true 120 0) State.reset).sorter.bins, b.count + b.pending ≤ 120) ∧
      (parsePriceLoad price = some (engine.rows, engine.surcharges) ∧ parsePromoLoad promo = some engine.promotions) ∧
      (({ State.reset with price := { State.reset.price with engine := some ⟨0, 0⟩ } } : State).price.engine.isSome = true ∧
        State.reset.price.engine = none) :=
  ⟨⟨⟨rfl, rfl, rfl⟩, ⟨rfl, rfl, rfl⟩, ⟨rfl, rfl, rfl⟩, rfl, rfl, rfl⟩, by decide, by decide +kernel, by decide +kernel,
    by decide +kernel, by decide⟩

/-- A query of each kind that names something, and of each that names nothing, at its boundary values. -/
theorem witness_QueriesReplyAndChangeNothing :
    (∀ payload, CommandFront .query (frame .query payload) [] (queued .query payload)) ∧
      (0 < 5 ∧ 5 < 16777216 ∧ [1, 0, 0, 5] = 1 :: bytesOf 3 5 ∧
        (holding (order .opened) (queued .query [1, 0, 0, 5])).findOrder 5 = some (order .opened)) ∧
      (24 ≤ 24 ∧ ((queued .query [2, 24]).bin 24).isSome = true) ∧ 127 ≤ 127 ∧
      (([] : List Byte) = [] ∧ (8 : Nat) < (9 : Byte).toNat) ∧
      (([0, 0, 5] : List Byte).length = 3 ∧ numberOf [0, 0, 5] ≠ 0 ∧ numberOf [0, 0, 0] = 0 ∧
        (queued .query [1, 0, 0, 5]).findOrder (numberOf [0, 0, 5]) = none) ∧
      (25 < (26 : Byte).toNat ∧ 127 < (128 : Byte).toNat ∧ ([0] : List Byte) ≠ [] ∧ ([0, 0] : List Byte).length ≠ 3) :=
  ⟨fun _ => ⟨rfl, rfl, rfl⟩, by decide, by decide, by decide, by decide, by decide, by decide⟩

/-- No table 0 or 12; a start index at and before the end of a table; a clear option out of range, and room and none. -/
theorem witness_TablePagesAndCounters :
    (∀ payload, CommandFront .query (frame .query payload) [] (queued .query payload)) ∧ (0 = 0 ∧ 11 < 12) ∧
      ((State.reset.table 5).map fun t => t.entries.length) = some 1 ∧
      ((State.reset.table 11).map fun t => t.entries.length) = some 4 ∧
      (1 < (2 : Byte).toNat ∧ State.reset.link.outbound.length < 64 ∧
        64 ≤ (withLink (fun l => { l with outbound := List.replicate 64 ⟨.status, 0, []⟩ }) State.reset).link.outbound.length) :=
  ⟨fun _ => ⟨rfl, rfl, rfl⟩, by decide, by decide, by decide, by decide⟩

/-! Steps -/

/-- A running web with the given records and 100,000 lines of paper. -/
def running (queue : List Segment) : State := withPaper 100000 (inRun .running (onPath queue State.reset))

/-- The last line of a segment still to come. -/
theorem witness_StepMovesTheWebOneLine :
    let g := segment .waste 1499 none
    (running [g]).inReset = false ∧ (running [g]).stepping = true ∧ (running [g]).path.queue = [] ++ [g] ∧
      g.length ≠ g.planned ∧ 0 < (withPaper 1 (running [g])).exposure.paper.remaining ∧
      (running [g]).alerts.counters.length = 18 := by decide

/-- A web whose next step, of waste, brings the record that starts at 0 to Z_in, with DEV tripped and an emitter still driven. -/
def atZone : State :=
  let s := running [segment .print 1500 (some aPrint), { segment .waste 1000 none with start := 1500 }]
  { s with
    path := { s.path with position := s.path.params.zIn - 1 }
    exposure := { s.exposure with drive := [⟨1, 1, 1⟩] }
    monitor := { s.monitor with channels := s.monitor.channels.map fun c => { c with state := .tripped } } }

/-- R41, R69: a step that moves the web with no print at the head; the PRINT record at Z_in is flagged CHEM, the other is not, and no
emitter is driven. -/
theorem witness_StepMovesTheWebOneLine_zone :
    atZone.inReset = false ∧ atZone.tripped 3 = true ∧ atZone.atBoundary = false ∧
      after (fun t => (decide (t.path.position = atZone.path.position + 1), t.headSegment.bind Segment.print, t.exposure.drive,
          t.path.queue.map fun g => g.flags.chem)) (exec (.step .paper) atZone) =
        some (true, none, [], [true, false]) := by decide +kernel

/-- The boundary behind a complete segment in STARTING with the ramp due and without, in DRAINING, and in RUNNING with the paper
just enough; one line short of it for a waste unit, and for a ready print. -/
theorem witness_BoundaryBeginsASegment :
    let g := segment .print 1500 (some aPrint)
    let s := running [g]
    let ready := { s with
      store := List.replicate 16 (frame .line [])
      reader := { s.reader with mode := .staged, staged := some aPrint } }
    (s.inReset = false ∧ s.atBoundary = true ∧ 0 < s.exposure.paper.remaining ∧ s.path.queue.length < 128) ∧
      (let starting := { s with path := { s.path with run := .starting, rampDue := true } }
       starting.path.run = .starting ∧ starting.path.rampDue = true ∧ starting.atBoundary = true) ∧
      ((inRun .draining s).path.run = .draining ∧ (inRun .draining s).hasPrint = true) ∧
      (s.path.run = .running ∧ s.stagedReady = false ∧ (inRun .starting s).path.rampDue = false ∧
        s.path.params.wasteUnit + (s.path.params.lCut + 240) ≤ (withPaper 37440 s).exposure.paper.remaining) ∧
      (0 < (withPaper 37439 s).exposure.paper.remaining ∧ s.hasPrint = true ∧ s.alerts.causes.length = 20 ∧
        (withPaper 37439 s).exposure.paper.remaining < s.path.params.wasteUnit + (s.path.params.lCut + 240)) ∧
      (ready.headHold = false ∧ ready.chemistryHold = false ∧ ready.stagedReady = true ∧ ready.reader.staged = some aPrint ∧
        (withPaper 37739 ready).exposure.paper.remaining < aPrint.length + (s.path.params.lCut + 240)) := by decide

/-- The same print staged behind 16 LINE frames, with the paper just enough for it. -/
def readyState : State :=
  let s := withPaper 37740 (running [segment .waste 1500 none])
  { s with
    store := List.replicate 16 (frame .line [])
    reader := { s.reader with mode := .staged, staged := some aPrint } }

/-- The run RUNNING and just behind the ramp, and at the front of the store a LINE, a PRINT END and another frame. -/
theorem witness_ReadyPrintStartsAtABoundary :
    let behindRamp := inRun .starting readyState
    let cutShort (kind : InKind) : State := { readyState with store := [frame kind []] }
    (readyState.inReset = false ∧ readyState.atBoundary = true ∧ readyState.path.queue.length < 128 ∧
      readyState.path.run = .running ∧ readyState.headHold = false ∧ readyState.chemistryHold = false ∧
      readyState.stagedReady = true ∧ readyState.reader.staged = some aPrint ∧
      readyState.store = frame .line [] :: List.replicate 15 (frame .line []) ∧ (frame .line []).kind = .line ∧
      aPrint.length + (readyState.path.params.lCut + 240) ≤ readyState.exposure.paper.remaining ∧
      aPrint.exposed + 1 < aPrint.length) ∧
      (behindRamp.path.run = .starting ∧ behindRamp.path.rampDue = false ∧ behindRamp.atBoundary = true ∧
        behindRamp.stagedReady = true) ∧
      ((cutShort .printEnd).stagedReady = true ∧ (cutShort .printEnd).store = frame .printEnd [] :: [] ∧
        (cutShort .orderClose).stagedReady = true ∧ (cutShort .orderClose).store = frame .orderClose [] :: [] ∧
        (frame .orderClose []).kind ≠ .line ∧ (frame .orderClose []).kind ≠ .printEnd) := by decide

/-- The state just built does start a print at its next step, so the statement's premises all hold of it. -/
theorem witness_NoPrintStartsUnlessAllowed :
    let s := { readyState with path := { readyState.path with position := 1500 } }
    (∀ h ∈ s.path.queue, h.start < s.path.position) ∧
      after (fun t => t.path.queue.map fun g => (g.kind, g.start)) (exec (.step .paper) s) =
        some [(.waste, 0), (.print, 1500)] := by decide +kernel

/-- No paper inside a segment, 128 records at a boundary with the last line of paper, the paper test failing with no PRINT segment,
for a waste unit and for a ready print, and the end of a drain with each cause. -/
theorem witness_StepDueMayEndStepping :
    let g := segment .waste 10 none
    let whole := segment .waste 1500 none
    let full := withPaper 1 (running (List.replicate 127 whole ++ [whole]))
    let drained (cause : DrainCause) : State :=
      let s := running [whole]
      { s with path := { s.path with run := .draining, drainCause := some cause } }
    (let s := withPaper 0 (running [g])
     s.inReset = false ∧ s.stepping = true ∧ s.path.queue = [] ++ [g] ∧ s.alerts.causes.length = 20 ∧
       ¬ (s.atBoundary = true ∧ s.path.run = .draining ∧ s.hasPrint = false) ∧ s.exposure.paper.remaining = 0) ∧
      (full.stepping = true ∧ 0 < full.exposure.paper.remaining ∧ full.atBoundary = true ∧ 128 ≤ full.path.queue.length ∧
        full.path.run ≠ .draining) ∧
      ((drained .runEnd).path.run = .draining ∧ (drained .runEnd).path.queue = [] ++ [whole] ∧
        (drained .runEnd).atBoundary = true ∧ (drained .runEnd).hasPrint = false ∧
        (drained .runEnd).path.drainCause = some .runEnd) ∧
      (let s := drained .paper
       let t := { s with reader := { s.reader with mode := .staged, staged := some aPrint } }
       t.path.drainCause = some .paper ∧ t.reader.staged = some aPrint) ∧
      (let s := withPaper 37439 (running [whole])
       s.path.run = .running ∧ s.stagedReady = false ∧ s.path.queue = [] ++ [whole] ∧ s.atBoundary = true ∧
         s.path.queue.length < 128 ∧ s.hasPrint = false ∧ 0 < s.exposure.paper.remaining ∧ s.reader.staged = none ∧
         s.exposure.paper.remaining < s.path.params.wasteUnit + (s.path.params.lCut + 240)) ∧
      (let s := withPaper 37739 readyState
       s.headHold = false ∧ s.chemistryHold = false ∧ s.stagedReady = true ∧ s.reader.staged = some aPrint ∧
         s.hasPrint = false ∧ s.exposure.paper.remaining < aPrint.length + (s.path.params.lCut + 240)) := by decide +kernel

/-- A pixel that is not driven; a print of slot 3 with its thermal values; and a band table with readings at both ends of band 1. -/
theorem witness_OnTimeStaysInTheWindow :
    let p := { aPrint with profile := 3, thermal := some ⟨1024, 1024, 1024⟩ }
    let t := State.reset.exposure.thermal
    State.reset.exposure.drive.length ≤ 0 ∧
      ((State.reset.exposure.profiles[p.profile]?).isSome = true ∧ (State.reset.exposure.luts[3 * p.profile + 2]?).isSome = true ∧
        p.thermal = some ⟨1024, 1024, 1024⟩) ∧
      (0 < t.width ∧ (15 : Int) < t.base + t.width ∧ t.base + 15 * t.width ≤ 240 ∧
        (t.base + (1 : Nat) * t.width ≤ 16 ∧ (31 : Int) < t.base + ((1 : Nat) + 1) * t.width) ∧
        t.bands[t.band 240]? = some ⟨1024, 1024, 1024⟩) := by decide

/-- The reset parameters' line period of 2,000 µs, begun at 50 µs, with one pixel driven at 333 µs, so many µs after the step. -/
def litAt (past : Nat) : State :=
  { State.reset with
    now := 50 + past
    exposure := { State.reset.exposure with reload := 1999, stepDue := 2050, drive := [⟨333, 333, 333⟩] } }

/-- Chapter 04, "phases and windows": red from 0 to 333 µs, green from 666 to 999, blue from 1,332 to 1,665, and the rest dark. -/
theorem test_phases_example :
    let lit (past : Nat) : List Bool := [0, 1, 2].map fun colour => (litAt past).emitterLit 0 colour
    (lit 0 = [true, false, false] ∧ lit 332 = [true, false, false] ∧ lit 333 = [false, false, false]) ∧
      (lit 665 = [false, false, false] ∧ lit 666 = [false, true, false] ∧ lit 998 = [false, true, false] ∧
        lit 999 = [false, false, false]) ∧
      (lit 1331 = [false, false, false] ∧ lit 1332 = [false, false, true] ∧ lit 1664 = [false, false, true] ∧
        lit 1665 = [false, false, false] ∧ lit 1999 = [false, false, false]) := by decide

/-- A print exposing in the middle of its segment: a LINE at the front, an empty store, another frame at the front, a link reset
before it, and the margin; its last line but one and its last; and a record that the step brings to Z_in. -/
theorem witness_StepExposesALine :
    let p := { aPrint with width := 1, exposed := 1498 }
    let last := { p with exposed := 1499 }
    let g := segment .print 10 (some p)
    let s := running [g]
    let fed (store : List InFrame) : State :=
      { s with store := store, reader := { s.reader with mode := .feeding, source := some .store } }
    let cutOff := { s with reader := { s.reader with source := some .cutOff } }
    (s.inReset = false ∧ s.stepping = true ∧ s.path.queue = [] ++ [g] ∧ g.length ≠ g.planned ∧
      0 < s.exposure.paper.remaining ∧ g.print = some p ∧ s.alerts.causes.length = 20) ∧
      (let t := fed [frame .line []]
       t.reader.source = some .store ∧ t.reader.mode = .feeding ∧ t.store.head? = some (frame .line []) ∧
         (frame .line []).kind = .line) ∧
      (fed []).store = [] ∧ ((fed [frame .printEnd []]).store.head? = some (frame .printEnd []) ∧ (frame .printEnd []).kind ≠ .line) ∧
      (cutOff.reader.source = some .cutOff ∧ cutOff.reader.mode ≠ .feeding) ∧
      ((exposingIn s).reader.source = some .margin ∧ (exposingIn s).reader.mode ≠ .feeding) ∧
      (p.exposed + 1 < p.length ∧ last.length ≤ last.exposed + 1) ∧
      (g.kind = .print ∧ ((5999 : Nat) : Int) + 1 - g.start = s.path.params.zIn) ∧
      (let lit := litAt 1998
       lit.exposure.stepDue = 50 + (lit.exposure.reload + 1) ∧ 50 ≤ lit.now ∧ 3 * (lit.path.params.linePeriod / 3) ≤ lit.now - 50 ∧
         lit.exposure.drive[0]? = some ⟨333, 333, 333⟩ ∧ 333 ≤ lit.path.params.linePeriod / 3) := by decide

/-- A line shorter than the paper, one longer, the most pixels there may be, and one more. -/
theorem witness_LinesAreFittedToThePaper :
    (1067 < 1068 ∧ 1067 < (List.replicate 1068 (marginPixel 9)).length) ∧
      (1067 < 1068 ∧ (List.replicate 1067 (marginPixel 9)).length ≤ 1067) ∧
      ([(⟨255, 0, 255⟩ : Rgb)].length ≤ 3840 ∧ ∀ v ∈ [(⟨255, 0, 255⟩ : Rgb)], v.r ≤ 255 ∧ v.g ≤ 255 ∧ v.b ≤ 255) ∧
      (3840 < field (bytesOf 2 3841) 0 2 ∧ ([0, 1, 5] : List Byte).length ≠ 2 + 3 * field [0, 1, 5] 0 2) := by decide +kernel

/-! The cutter -/

/-- No cut in progress; a cut in progress at a cut point, at a WASTE record and at a PRINT record; an entry one line ahead, one with
the retry mark, and a due one of each kind. -/
theorem witness_CutDoneFreesAPiece :
    let cut (b : Boundary) (queue : List Segment) : State :=
      cutting (some ⟨0, 200000⟩) [entry b 0 false] (onPath queue State.reset)
    let waiting (e : CutEntry) : State := cutting none [e] State.reset
    (State.reset.inReset = false ∧ State.reset.cutter.progress = none) ∧
      ((cut (.cutPoint 1) []).cutter.progress = some ⟨0, 200000⟩ ∧
        (cut (.cutPoint 1) []).cutter.cutList = entry (.cutPoint 1) 0 false :: []) ∧
      ((cut (.record 0) [segment .waste 10 none]).path.queue = segment .waste 10 none :: [] ∧
        (segment .waste 10 none).kind ≠ .print) ∧
      ((cut (.record 0) [segment .print 10 (some aPrint)]).path.queue = segment .print 10 (some aPrint) :: [] ∧
        (segment .print 10 (some aPrint)).kind = .print) ∧
      ((waiting (entry (.record 0) 1 false)).cutter.progress = none ∧
        ((waiting (entry (.record 0) 1 false)).path.position : Int) < 1) ∧
      ((entry (.record 0) 0 true).retry = true ∧ (0 : Int) ≤ (waiting (entry (.record 0) 0 false)).path.position ∧
        (entry (.record 0) 0 false).retry = false) := by decide

/-- A piece with a reason and one without, which the sorter takes or refuses. -/
theorem witness_PrintPiecesAreJudged :
    let good := segment .print 1500 (some aPrint)
    let bad := { good with flags := { good.flags with miscut := true } }
    let s := holding (order .opened) State.reset
    (good.kind = .print ∧ good.print = some aPrint) ∧ s.pieceReasons bad aPrint = [.miscut] ∧
      (holding (order .failing) s).pieceReasons good aPrint = [.cancelled] ∧ s.pieceReasons good aPrint = [] ∧
      (match (s.sortPrint aPrint).1 with | .ok t => some t | .error _ => none) = some .tray ∧
      (match ((withBelt (List.replicate 24 (sortEntry .tray 0)) s).sortPrint aPrint).1 with
        | .ok _ => none | .error r => some r) = some .sortBusy := by decide

theorem witness_CutTimeoutGivesTheCutUp :
    let s := cutting (some ⟨0, 200000⟩) [entry (.record 0) 0 false] (running [segment .print 10 (some aPrint)])
    s.inReset = false ∧ s.cutter.progress = some ⟨0, 200000⟩ ∧ s.cutter.cutList = entry (.record 0) 0 false :: [] ∧
      s.alerts.causes.length = 20 ∧ s.stepping = true ∧ (inRun .halted s).stepping = false := by decide

/-- The boundary of a record that starts at 0 is expected at 35,760: both ends of its window, and one line before it. -/
theorem witness_PunchRegistersTheBoundary :
    let s (position : Nat) : State :=
      { State.reset with
        path := { State.reset.path with position := position }
        cutter := { State.reset.cutter with current := some (.record 0) } }
    let d (position : Nat) : Int := ((s position).path.position : Int) - (0 + 36000 - 240 + (s position).cutter.delta)
    ((s 35736).cutter.current = some (.record 0) ∧ -(24 : Int) ≤ d 35736 ∧ d 35736 ≤ 24) ∧
      (-(24 : Int) ≤ d 35784 ∧ d 35784 ≤ 24) ∧ d 35735 < -24 ∧
      ({ State.reset.cutter with current := none } : CutterUnit).current = none ∧
      State.reset.cutter.current = some (.cutPoint 1) := by decide

/-- The last line of the window, and the line behind it; the line before the first cut point's, and its own; a cut due and none. -/
theorem witness_MissedBoundaryIsPredicted :
    let s (position : Nat) : State :=
      { State.reset with
        path := { State.reset.path with position := position }
        cutter := { State.reset.cutter with current := some (.record 0) } }
    let cutAt : Int := -36240 + (1 * 1200 : Nat) + 36000 + 0
    ((s 0).cutter.current = some (.record 0) ∧ ((s 35784).path.position : Int) < 35760 + 24 + 1 ∧
      (35760 : Int) + 24 + 1 ≤ (s 35785).path.position) ∧
      (State.reset.cutter.current = some (.cutPoint 1) ∧ State.reset.path.queue = Segment.purge (-36240) 36240 :: [] ∧
        (Segment.purge (-36240) 36240).kind = .purge ∧ ((719 : Nat) : Int) < cutAt - 240 ∧ cutAt - 240 ≤ ((720 : Nat) : Int)) ∧
      ((cutting none [entry (.record 0) 5 false] (s 5)).cutter.progress = none ∧ (5 : Int) ≤ ((s 5).path.position : Int)) ∧
      ({ State.reset.cutter with current := none } : CutterUnit).current = none ∧
      (0 < State.reset.path.params.wasteUnit ∧
        (State.testBoundaries State.reset.boundaryFuel State.reset).1.cutter.current = some (.cutPoint 1) ∧
        State.reset.expectedAt (.cutPoint 1) = some 720 ∧ (s 0).expectedAt (.record 0) = some 35760) := by decide

/-- A step that moves the web inside a segment, and one at a boundary, with a boundary under watch and none. -/
theorem witness_MissedBoundaryIsPredicted_step :
    let inside := running [segment .waste 1000 none]
    let boundary := running [segment .waste 1500 none]
    let unwatched := { boundary with cutter := { boundary.cutter with current := none } }
    (inside.atBoundary = false ∧
        after (fun t => t.path.position) (exec (.step .paper) inside) = some (inside.path.position + 1)) ∧
      (boundary.atBoundary = true ∧ boundary.cutter.current = some (.cutPoint 1) ∧
        after (fun t => t.path.position) (exec (.step .hole) boundary) = some (boundary.path.position + 1)) ∧
      (unwatched.atBoundary = true ∧
        after (fun t => (t.path.position, t.cutter.current)) (exec (.step .paper) unwatched) = some (1, some (.record 0))) := by
  decide +kernel

/-! The monitor and the timed inputs -/

/-- A disabled channel; one short of its trip and at it; a tripped one within and not within its recover bounds; and a head and
the DEV channel that trip with a print exposing and none. -/
theorem witness_ConversionJudgesItsChannel :
    let head := Channel.reset .head
    let once := { head with exceed := 1 }
    let tripped := { head with state := .tripped }
    let dev := { Channel.reset .dev with exceed := 3 }
    let at3 : State := { State.reset with monitor := { State.reset.monitor with
      channels := [head, head, head, dev], converting := 3 } }
    let at0 : State := { State.reset with monitor := { State.reset.monitor with channels := [once, head, head, dev] } }
    ({ head with limits := { head.limits with enabled := false } } : Channel).limits.enabled = false ∧
      (head.limits.enabled = true ∧ head.state = .normal ∧ head.exceedAfter 91 ≠ head.limits.faultCount ∧
        once.exceedAfter 91 = once.limits.faultCount) ∧
      (tripped.state = .tripped ∧ tripped.limits.within 80 = true ∧ tripped.limits.within 81 = false) ∧
      (State.reset.monitor.channels[State.reset.monitor.converting]? = some head ∧ State.reset.monitor.channels.length = 4 ∧
        (head.judge (clampReading 91)).trips = false) ∧
      (at3.monitor.channels[at3.monitor.converting]? = some dev ∧ (dev.judge (clampReading 80)).trips = true) ∧
      (at0.monitor.channels[at0.monitor.converting]? = some once ∧ (once.judge (clampReading 91)).trips = true ∧
        at0.reader.source = none) ∧
      (let t := exposingIn (onPath [segment .print 10 (some aPrint)] at0)
       t.reader.source.isSome = true ∧ t.path.queue = [] ++ [segment .print 10 (some aPrint)] ∧
         t.monitor.channels[t.monitor.converting]? = some once) := by decide

theorem witness_DwellExpiryMarksTheZone :
    let s := { State.reset with path := { State.reset.path with dwell := .running 20000000 } }
    s.inReset = false ∧ s.path.dwell = .running 20000000 ∧ State.reset.path.dwell = .stopped := by decide

/-- An inactive and an active level, a moving and a standing run, an input whose last sample is its level; and a microsecond with
nothing to do before a sample of every input, of the stop inputs alone, and of none. -/
theorem witness_StopInputHaltsTheRun :
    let quiet (now : Nat) : State :=
      { withLink (fun l => { l with returnedStream := 0, returnedCommand := 0 }) State.reset with now := now }
    (State.reset.inReset = false ∧ State.reset.alerts.causes.length = 20 ∧ State.reset.stopLevel .estop = false ∧
      (State.reset.setStopLevel .jam true).stopLevel .jam = true ∧ (inRun .running State.reset).stepping = true ∧
      State.reset.stepping = false ∧ Qualifier.reset.last = Qualifier.reset.level) ∧
      ((quiet 1999).pending = [] ∧ (quiet 1999).inReset = false ∧ (1999 + 1) % 1000 = 0 ∧ (1999 + 1) % 2000 = 0 ∧
        (999 + 1) % 2000 ≠ 0 ∧ (998 + 1) % 1000 ≠ 0) ∧
      ((quiet 1999).nextCommand (Config.pinsAt (quiet 1999).now) = none ∧
        (quiet 999).nextCommand (Config.pinsAt (quiet 999).now) = none ∧
        (quiet 998).nextCommand (Config.pinsAt (quiet 998).now) = none) ∧
      ((quiet 1999).sorter.dropInputs[24]? = some Qualifier.reset ∧ (quiet 1999).sorter.clearInputs[24]? = some Qualifier.reset ∧
        (quiet 1999).sorter.clearInputs[0]? = some Qualifier.reset) :=
  ⟨by decide, by decide, ⟨rfl, rfl, rfl⟩, by decide⟩

/-! The sorter -/

/-- A last bin with the last place in it, and full; a FREE bin 3 and no other; four bins; the tray with its last place, and full. -/
theorem witness_GoodPieceFindsATarget :
    let r : Order := { order .opened with bins := [1], group := some 0 }
    let s := holding r State.reset
    let room := withBin (bin .filling (some 5) true 119 0) s
    let full := withBin (bin .filling (some 5) true 119 1) s
    let free3 := full.updateBin 3 fun _ => bin .free none false 0 0
    let tray (count : Nat) : State := { full with sorter := { full.sorter with tray := ⟨.occupied, count, 0, 0⟩ } }
    ((s.setGroup aPrint).findOrder aPrint.order = some r ∧ (s.setGroup aPrint).sorter.bins.length = 24) ∧
      24 ≤ (withBelt (List.replicate 24 (sortEntry .tray 0)) s).sorter.queue.length ∧
      (r.bins.getLast? = some 1 ∧ room.bin 1 = some (bin .filling (some 5) true 119 0) ∧ 119 + 0 < room.sorter.capacity) ∧
      (¬ 119 + 1 < full.sorter.capacity ∧ r.bins.length < 4 ∧ free3.bin 3 = some (bin .free none false 0 0) ∧
        (∀ m : Fin 3, (free3.bin m).map Bin.state ≠ some .free) ∧ binRange free3.sorter.windows r.key = (1, 24)) ∧
      (∀ n : Fin 26, (full.bin n).map Bin.state ≠ some .free) ∧
      ((tray 249).sorter.tray.count + (tray 249).sorter.tray.pending < 250 ∧
        250 ≤ (tray 250).sorter.tray.count + (tray 250).sorter.tray.pending) ∧ s.sorter.queue.length < 24 ∧
      (let miss : Window := ⟨true, 32, 48, 17, 24⟩
       let hit : Window := ⟨true, 8, 12, 1, 4⟩
       [miss, hit] = [miss] ++ hit :: [] ∧ maskHits 24 miss.base miss.mask = false ∧ hit.enabled = true ∧
         maskHits 24 hit.base hit.mask = true) := by
  decide +kernel

/-- A belt entry for bin 24 and one for the tray, before another whose deadline lies ahead, and one before another whose deadline has
passed; its order in each state, with
the last print in flight and with one more; and a tally with its pair, without it, and full. -/
theorem witness_DropDeliversTheOldest :
    let s (target : Target) : State := withBelt [sortEntry target 5, sortEntry target 1] (holding (order .opened) State.reset)
    let flying (state : OrderState) (n : Nat) : Order := { order state with inFlight := n }
    let full : Order := { order .opened with tallies := List.replicate 8 ⟨3, .glossy, 1⟩ }
    ((s (.bin 24)).inReset = false ∧ (s (.bin 24)).sorter.queue = sortEntry (.bin 24) 5 :: [sortEntry (.bin 24) 1] ∧
      (sortEntry (.bin 24) 5).target = (if 24 = 25 then .tray else .bin 24) ∧
      (sortEntry .tray 5).target = (if 25 = 25 then .tray else .bin 25) ∧
      (∀ n ∈ [sortEntry (.bin 24) 1].head?, (s (.bin 24)).now < n.deadline) ∧
      (∃ n ∈ [sortEntry (.bin 24) 1].head?, n.deadline ≤ ({ s (.bin 24) with now := 1 } : State).now) ∧
      (s (.bin 24)).findOrder (sortEntry (.bin 24) 5).print.order = some (order .opened) ∧
      (order .opened).state = .opened ∧ (s .tray).sorter.bins.length = 24 ∧ (s .tray).alerts.counters.length = 18) ∧
      ((holding (flying .closed 1) State.reset).findOrder aPrint.order = some (flying .closed 1) ∧
        (holding (flying .pricing 0) State.reset).findOrder aPrint.order = some (flying .pricing 0) ∧
        (holding (flying .cancelling 2) State.reset).findOrder aPrint.order = some (flying .cancelling 2) ∧
        (holding (flying .failing 1) State.reset).findOrder aPrint.order = some (flying .failing 1) ∧
        1 < (flying .cancelling 2).inFlight ∧ (flying .failing 1).inFlight ≤ 1) ∧
      (aPrint.charge = true ∧ aPrint.size = 4 ∧ aPrint.used = .glossy ∧ 8 ≤ full.tallies.length ∧
        (∀ t ∈ full.tallies, ¬ (t.size = 4 ∧ t.surface = .glossy)) ∧ (order .opened).tallies.length < 8 ∧
        ∃ t ∈ [(⟨4, .glossy, 1⟩ : Tally)], t.size = 4 ∧ t.surface = .glossy) :=
  ⟨⟨rfl, rfl, rfl, rfl, by intro n h; cases h; decide, ⟨_, rfl, by decide⟩, by decide, rfl, rfl, rfl⟩, by decide, by decide⟩

/-- At bin 1 and at the tray: a second entry that matches, and none that does; an empty belt; a bin; and a deadline that is reached
alone, before one that lies ahead, and with one that has passed behind it. -/
theorem witness_OtherDropsAndDeadlines :
    let e := sortEntry (.bin 2) 5
    let two := withBelt [e, sortEntry (.bin 1) 6] State.reset
    let toTray := withBelt [e, sortEntry .tray 5] State.reset
    (two.inReset = false ∧ (two.bin 1).isSome = true ∧ two.sorter.queue = e :: sortEntry (.bin 1) 6 :: [] ∧
      e.target ≠ .bin 1 ∧ (sortEntry (.bin 1) 6).target = .bin 1) ∧
      (toTray.sorter.queue = e :: sortEntry .tray 5 :: [] ∧ e.target ≠ .tray ∧ (sortEntry .tray 5).target = .tray) ∧
      ((withBelt [e, e] State.reset).sorter.queue = e :: [e] ∧ e.target ≠ .bin 1 ∧ e.target ≠ .tray) ∧
      State.reset.sorter.queue = [] ∧
      (max two.now e.deadline < 6 ∧ (sortEntry .tray 5).deadline ≤ max toTray.now e.deadline) ∧
      (two.now < e.deadline ∧ e.deadline ≤ ({ two with now := 5 } : State).now) := by decide

/-- A bin in each state; HELD ones that a print or an order holds; a bin that does not exist. -/
theorem witness_BinsAreClearedAndReleased :
    let s (b : Bin) : State := withBin b (queued .binRelease [1])
    (∀ b : Bin, (s b).inReset = false ∧ CommandFront .binRelease (frame .binRelease [1]) [] (s b)) ∧
      (State.reset.sorter.bins.length = 24 ∧ field [25] 0 1 = 25 ∧ field [0] 0 1 = 0 ∧ field [24] 0 1 = 24 ∧ 24 ≤ 24) ∧
      (s (bin .free none false 0 0)).bin 1 = some (bin .free none false 0 0) ∧
      (s (bin .ready (some 5) false 3 0)).bin 1 = some (bin .ready (some 5) false 3 0) ∧
      (s (bin .held none false 0 0)).bin 1 = some (bin .held none false 0 0) ∧
      (s (bin .held (some 5) true 1 1)).bin 1 = some (bin .held (some 5) true 1 1) ∧
      (s (bin .filling (some 5) true 1 0)).bin 1 = some (bin .filling (some 5) true 1 0) :=
  ⟨fun _ => ⟨rfl, rfl, rfl, rfl⟩, by decide, by decide, by decide, by decide, by decide, by decide⟩

/-- A bin in each state, with its pattern in the default table, and an oldest belt entry. -/
theorem witness_LampsAndGateFollowTheRecords :
    let shows (b : Bin) (pattern : LampPattern) : Prop :=
      (withBin b State.reset).bin 1 = some b ∧ State.reset.sorter.lamps[b.pattern]? = some pattern ∧ pattern.carrier ≤ 4
    (shows (bin .free none false 0 0) ⟨0, false, false, false, false⟩ ∧
      shows (bin .filling (some 5) true 1 0) ⟨1, false, false, false, false⟩ ∧
      shows (bin .ready (some 5) false 1 0) ⟨4, false, false, false, false⟩ ∧
      shows { bin .ready (some 5) false 1 0 with ownerClass := .express } ⟨4, false, false, true, false⟩ ∧
      shows (bin .held none false 0 0) ⟨4, false, true, false, false⟩ ∧
      shows (bin .held (some 5) true 1 1) ⟨0, false, false, false, false⟩) ∧
      (State.reset.inReset = false ∧ ({ State.reset with inReset := true } : State).inReset = true) ∧
      (State.reset.sorter.queue = [] ∧ (withBelt [sortEntry (.bin 24) 5] State.reset).sorter.queue = sortEntry (.bin 24) 5 :: []) := by
  decide

/-! Pricing -/

/-- A quantity at a threshold, one below every threshold; an order with no code, with one that no record has, and with one whose
record it is and is not eligible for; each kind of promotion; and prints to give away beyond an entry's and within it. -/
theorem witness_BillFollowsTheTables :
    let row : PriceRow := { loaded := true, glossy := 35, lustre := 38, breaks := [⟨25, 20⟩, ⟨100, 35⟩] }
    (∀ b ∈ row.breaks, ¬ b.threshold ≤ 24) ∧ (⟨25, 20⟩ ∈ row.breaks ∧ 25 ≤ 99) ∧
      (expressOrder.promotion = some 4021 ∧
        (engine.promotions.find? fun p => p.enabled ∧ p.code = 4021).isSome = true ∧ maskHits expressOrder.key 8 12 = true) ∧
      (let promo : Promotion :=
         { code := 4021, enabled := true, kind := .percent, percent := 15, amount := 0, size := 0, prints := 0, cap := 200
           base := 8, mask := 12 }
       engine.promotions = engine.promotions.take 2 ++ promo :: engine.promotions.drop 3 ∧ promo.enabled = true ∧
         promo.code = 4021 ∧ promo.kind = .percent ∧ { promo with kind := .amount }.kind = .amount ∧
         { promo with kind := .freePrints }.kind = .freePrints ∧
         (∀ other ∈ engine.promotions.take 2, ¬ (other.enabled = true ∧ other.code = 4021))) ∧
      ((order .opened).promotion = none ∧
        (∀ promo ∈ PriceEngine.reset.promotions, ¬ (promo.enabled = true ∧ promo.code = 4021)) ∧
        maskHits { expressOrder with cls := .standard }.key 8 12 = false) ∧
      ((([(⟨4, .glossy, 12⟩, 54)] : List (Tally × Nat)).map fun a => a.1.quantity).sum ≤ 12 ∧
        (12 : Nat) ≤ (⟨4, .glossy, 12⟩ : Tally).quantity) := by decide

/-- The order being priced alone; another slot queued behind a load of each kind, refused and accepted, behind another frame, and
behind none; and no pricing in progress. -/
theorem witness_PricingCompletesTheOrder :
    let price := engine.rows.flatMap PriceRow.bytes ++ engine.surcharges.flatMap (bytesOf 2)
    let promo := engine.promotions.flatMap Promotion.bytes
    let s := holding (order .pricing) { State.reset with price := { State.reset.price with engine := some ⟨3, 0⟩ } }
    let loads (kind : InKind) (payload : List Byte) : State :=
      { s with commands := [frame kind payload], price := { s.price with queue := [4] } }
    (s.inReset = false ∧ s.price.engine = some ⟨3, 0⟩ ∧ s.price.queue = [] ∧ s.orders[3]? = some (some (order .pricing)) ∧
      s.findOrder 5 = some (order .pricing) ∧ s.commands = []) ∧
      (∀ kind payload, (loads kind payload).price.engine = some ⟨3, 0⟩ ∧
        (loads kind payload).orders[3]? = some (some (order .pricing)) ∧
        (loads kind payload).findOrder (order .pricing).number = some (order .pricing) ∧
        (loads kind payload).price.queue = [4] ∧ (loads kind payload).commands = frame kind payload :: []) ∧
      ((frame .runEnd []).kind ≠ .priceLoad ∧ (frame .runEnd []).kind ≠ .promoLoad) ∧
      (parsePriceLoad price = some (engine.rows, engine.surcharges) ∧ parsePriceLoad [] = none ∧
        parsePromoLoad promo = some engine.promotions ∧ parsePromoLoad [] = none) ∧
      ((∀ r, State.reset.orders[3]? ≠ some (some r)) ∧ State.reset.price.engine = none) :=
  ⟨by decide, fun _ _ => ⟨rfl, rfl, rfl, rfl, rfl⟩, by decide, by decide +kernel, ⟨(fun _ h => nomatch h), rfl⟩⟩

/-! What every step keeps -/

/-- A state that each invariant holds of, with frames, a staged print and a cut, and its next step. -/
def busyState : State :=
  { readyState with
    path := { readyState.path with position := 1500 }
    link := { readyState.link with availableStream := 0, returnedStream := 32, availableCommand := 0, returnedCommand := 16 }
    pending := [.step .paper] }

theorem witness_StepConservesCredit :
    (busyState.link.availableStream + busyState.store.length + busyState.link.returnedStream = 48 ∧
      busyState.link.availableCommand + busyState.commands.length + busyState.link.returnedCommand = 16) ∧
      (after (fun _ => true) (step busyState)) = some true := by decide

theorem witness_StepKeepsTheWebContiguous :
    contiguous busyState.path.queue busyState.path.position = true ∧ busyState.path.queue.length ≤ 128 ∧
      ((busyState.path.queue.drop 1).all fun g => g.kind != .purge) = true := by decide

theorem witness_StepKeepsTheReaderCoherent : ReaderCoherent busyState := ⟨by decide, by decide⟩

theorem witness_StepKeepsTheRunCoherent : RunCoherent busyState := ⟨by decide, by decide, by decide, by decide⟩

theorem witness_StepStaysWithinLimits : WithinLimits busyState :=
  ⟨by decide, by decide, by decide, by decide, by decide, by decide⟩

/-- The same state with the staged print's order in its slot. -/
def ledgerState : State := holding { order .opened with sent := 1, inFlight := 1 } busyState

theorem witness_StepKeepsTheLedger :
    ReaderCoherent ledgerState ∧ LedgerBalances ledgerState ∧ (after (fun _ => true) (step ledgerState)) = some true := by
  refine ⟨⟨by decide, by decide⟩, ⟨by decide, ?_, ?_, by decide, by decide, fun _ h => nomatch h⟩, by decide⟩
  · intro r h
    have e : r = { order .opened with sent := 1, inFlight := 1 } := by
      simpa [ledgerState, holding, busyState, readyState, running, withPaper, inRun, onPath, State.reset] using h
    subst e
    decide
  · intro number h
    by_cases e : number = 5
    · subst e; exact absurd h (by decide)
    · have : (5 == number) = false := by simpa using fun h => e h.symm
      simp [State.prints, ledgerState, holding, busyState, readyState, running, withPaper, inRun, onPath, segment, aPrint,
        PrintRecord.ofHeader, State.reset, SorterUnit.reset, this]

end Sys2Proof.Machine.Tests
end

section
/-!
PROOFS. ORDER OPEN (R4): the three checks one after another, and the slot and record that the frame makes when all pass.
-/

namespace Sys2Proof.Machine

/-! ### The codes of source and class -/

theorem Source.ofCode_eq_none_iff : ∀ n : Nat, Source.ofCode n = none ↔ 3 < n
  | 0 | 1 | 2 | 3 => by decide
  | n + 4 => by simp [Source.ofCode]

theorem ServiceClass.ofCode_eq_none_iff : ∀ n : Nat, ServiceClass.ofCode n = none ↔ 3 < n
  | 0 | 1 | 2 | 3 => by decide
  | n + 4 => by simp [ServiceClass.ofCode]

/-! ### The free slots -/

/-- The search for a free slot fails when every slot holds an order. -/
theorem findIdx?_isNone_eq_none {α : Type} {l : List (Option α)} (full : ∀ o ∈ l, o ≠ none) :
    l.findIdx? Option.isNone = none := by
  simpa [Option.isSome_iff_ne_none] using full

/-- The search finds the slot that is free and has no free slot before it. -/
theorem findIdx?_isNone_eq_some {α : Type} {l : List (Option α)} {slot : Nat} (free : l[slot]? = some none)
    (lowest : ∀ earlier < slot, l[earlier]? ≠ some none) : l.findIdx? Option.isNone = some slot := by
  obtain ⟨inRange, isFree⟩ := List.getElem?_eq_some_iff.mp free
  refine List.findIdx?_eq_some_iff_getElem.mpr ⟨inRange, by simp [isFree], fun earlier before => ?_⟩
  have taken := lowest earlier before
  rw [List.getElem?_eq_getElem (before.trans inRange)] at taken
  simpa using taken

/-! ### The three checks of ORDER OPEN, in order -/

/-- The payload of an ORDER OPEN that passes the first check, with the source and the class that its codes name. -/
def OrderOpenInRange (payload : List Byte) (source : Source) (cls : ServiceClass) : Prop :=
  payload.length = 9 ∧ field payload 0 3 ≠ 0 ∧ Source.ofCode (field payload 3 1) = some source ∧
    ServiceClass.ofCode (field payload 4 1) = some cls ∧ field payload 7 2 ≤ 999

theorem State.judgeOrderOpen_outOfRange {payload : List Byte}
    (bad : payload.length ≠ 9 ∨ field payload 0 3 = 0 ∨ 3 < field payload 3 1 ∨ 3 < field payload 4 1 ∨
      999 < field payload 7 2) (s : State) : s.judgeOrderOpen payload = .inl .range := by
  by_cases plain : payload.length ≠ 9 ∨ field payload 0 3 = 0 ∨ 999 < field payload 7 2
  · simp [State.judgeOrderOpen, plain]
  · have codes : Source.ofCode (field payload 3 1) = none ∨ ServiceClass.ofCode (field payload 4 1) = none := by
      rw [Source.ofCode_eq_none_iff, ServiceClass.ofCode_eq_none_iff]
      tauto
    obtain noSource | noClass := codes
    · simp [State.judgeOrderOpen, plain, noSource]
    · simp [State.judgeOrderOpen, plain, noClass]

section
variable {payload : List Byte} {source : Source} {cls : ServiceClass} {s : State}

theorem State.judgeOrderOpen_duplicate (good : OrderOpenInRange payload source cls)
    (live : (s.findOrder (field payload 0 3)).isSome = true) : s.judgeOrderOpen payload = .inl .duplicate := by
  obtain ⟨length, number, hsource, hcls, announced⟩ := good
  simp [State.judgeOrderOpen, length, number, hsource, hcls, announced.not_gt, live]

theorem State.judgeOrderOpen_full (good : OrderOpenInRange payload source cls)
    (fresh : s.findOrder (field payload 0 3) = none) (full : s.orders.findIdx? Option.isNone = none) :
    s.judgeOrderOpen payload = .inl .full := by
  obtain ⟨length, number, hsource, hcls, announced⟩ := good
  simp [State.judgeOrderOpen, length, number, hsource, hcls, announced.not_gt, fresh, full]

theorem State.judgeOrderOpen_accepted {slot : Nat} (good : OrderOpenInRange payload source cls)
    (fresh : s.findOrder (field payload 0 3) = none) (free : s.orders.findIdx? Option.isNone = some slot) :
    s.judgeOrderOpen payload =
      .inr (slot, .new (field payload 0 3) source cls (absentIfZero (field payload 5 2))
        (absentIfZero (field payload 7 2))) := by
  obtain ⟨length, number, hsource, hcls, announced⟩ := good
  simp [State.judgeOrderOpen, length, number, hsource, hcls, announced.not_gt, fresh, free]

end

/-! ### What the Order Table leaves -/

theorem exec_orderOpen_front {f : InFrame} {rest : List InFrame} {s : State} (front : StoreFront .orderOpen f rest s)
    (reading : s.reader.mode = .reading) : exec .orderOpen s = .next (s.takeOrderOpen f) :=
  calc exec .orderOpen s = s.event (State.onSequenced .orderOpen State.takeOrderOpen) := rfl
    _ = .next (s.onSequenced .orderOpen State.takeOrderOpen) := State.event_of_not_inReset front.1
    _ = .next (s.takeOrderOpen f) := by rw [State.onSequenced_reading front reading]

/-- A refusal answers the frame and changes nothing else. -/
theorem State.takeOrderOpen_refused {f g : InFrame} {rest : List InFrame} {s : State} {result : StatusResult}
    (stored : s.store = g :: rest) (judged : s.judgeOrderOpen f.payload = .inl result) :
    s.takeOrderOpen f = answeredStore f result s := by
  unfold State.takeOrderOpen
  rw [judged]
  exact State.removeSequenced_answer stored result

/-- An acceptance puts the record in the slot and answers the frame. -/
theorem State.takeOrderOpen_accepted {f g : InFrame} {rest : List InFrame} {s : State} {slot : Nat} {r : Order}
    (stored : s.store = g :: rest) (judged : s.judgeOrderOpen f.payload = .inr (slot, r)) :
    s.takeOrderOpen f = answeredStore f .accepted { s with orders := s.orders.set slot (some r) } := by
  unfold State.takeOrderOpen
  rw [judged]
  exact State.removeSequenced_answer (s := { s with orders := s.orders.set slot (some r) }) stored .accepted

/-- Settles O11: each clause is the outcome of the checks (`judgeOrderOpen`) that its hypotheses choose, and what the Order
Table leaves after that outcome. -/
theorem orderOpenTakesAFreeSlot : Obligations.OrderOpenTakesAFreeSlot := by
  intro f rest s front reading
  have stored : s.store = f :: rest := front.2.1
  rw [exec_orderOpen_front front reading]
  refine ⟨fun bad => ?_, fun source cls length number hsource hcls announced => ?_⟩
  · rw [State.takeOrderOpen_refused stored (State.judgeOrderOpen_outOfRange bad s)]
  have good : OrderOpenInRange f.payload source cls := ⟨length, number, hsource, hcls, announced⟩
  refine ⟨fun live => ?duplicate, fun fresh full => ?full, fun slot fresh free lowest => ?accepted⟩
  case duplicate => rw [State.takeOrderOpen_refused stored (State.judgeOrderOpen_duplicate good live)]
  case full =>
    rw [State.takeOrderOpen_refused stored (State.judgeOrderOpen_full good fresh (findIdx?_isNone_eq_none full))]
  case accepted =>
    rw [State.takeOrderOpen_accepted stored
      (State.judgeOrderOpen_accepted good fresh (findIdx?_isNone_eq_some free lowest))]
    rfl

end Sys2Proof.Machine
end

section
/-!
PROOFS. The exposure arithmetic (R56, R68, R69, R71 to R74, R81): the stages' limits, an on-time within its window, the settings of a
line, and the thermal band of a reading.
-/

namespace Sys2Proof.Machine

/-! ### The stages (R71 to R73) -/

theorem stageThermal_le (e1 k : Nat) : (stageThermal e1 k).1 ≤ 4095 := min_le_right _ _

/-- A sample of at most 4,095 asks for no more than the whole window: the half added before the division never carries past it. -/
theorem stageWindow_le {e2 : Nat} (limited : e2 ≤ 4095) (window : Nat) : stageWindow e2 window ≤ window := by
  have product : e2 * window ≤ 4095 * window := Nat.mul_le_mul_right window limited
  unfold stageWindow
  omega

theorem stageFloor_le {t window : Nat} (inWindow : t ≤ window) (floorPulse : Nat) :
    stageFloor t floorPulse window ≤ window := by
  unfold stageFloor
  split
  · exact min_le_right floorPulse window
  · exact inWindow

theorem onTime_le_window (lut : List Nat) (gain k window floorPulse v : Nat) :
    (onTime lut gain k window floorPulse v).1 ≤ window :=
  stageFloor_le (stageWindow_le (stageThermal_le _ k) window) floorPulse

/-! ### A line's settings (R68, R81) -/

section
variable {slot : Nat} {s : State}

theorem State.profile_eq_of_getElem? {profile : Profile} (loaded : s.exposure.profiles[slot]? = some profile) :
    s.profile slot = profile := by
  simp [State.profile, loaded]

theorem State.lut_eq_of_getElem? {colour : Nat} {table : Lut}
    (loaded : s.exposure.luts[3 * slot + colour]? = some table) : s.lut slot colour = table := by
  simp [State.lut, loaded]

end

/-! ### The thermal band (R56) -/

/-- Each band but 0 begins the band's number of widths above the base, so a reading reaches it exactly from there on. -/
theorem ThermalTable.le_band_iff {t : ThermalTable} (wide : 0 < t.width) {i : Nat} (positive : 0 < i) (atMost : i ≤ 15)
    (reading : Int) : i ≤ t.band reading ↔ t.base + i * t.width ≤ reading := by
  have quotient : (i : Int) ≤ (reading - t.base) / t.width ↔ i * t.width ≤ reading - t.base :=
    Int.le_ediv_iff_mul_le (by omega)
  unfold ThermalTable.band
  omega

section
variable {t : ThermalTable} {reading : Int}

theorem ThermalTable.band_eq_zero (wide : 0 < t.width) (below : reading < t.base + t.width) : t.band reading = 0 := by
  have first := ThermalTable.le_band_iff wide Nat.one_pos (by decide) reading
  omega

theorem ThermalTable.band_eq_fifteen (wide : 0 < t.width) (above : t.base + 15 * t.width ≤ reading) :
    t.band reading = 15 :=
  (t.band_le reading).antisymm ((ThermalTable.le_band_iff wide (by decide) le_rfl reading).mpr above)

theorem ThermalTable.band_eq_of_within {i : Nat} (wide : 0 < t.width) (atMost : i ≤ 15)
    (reached : t.base + i * t.width ≤ reading) (below : reading < t.base + (i + 1) * t.width) : t.band reading = i := by
  refine le_antisymm (not_lt.mp fun beyond => ?notBeyond) ?notBelow
  case notBeyond =>
    have next := ThermalTable.le_band_iff wide i.succ_pos (beyond.trans_le (t.band_le reading)) reading
    exact absurd (next.mp beyond) (not_le.mpr (by exact_mod_cast below))
  case notBelow =>
    obtain rfl | positive := i.eq_zero_or_pos
    · exact Nat.zero_le _
    · exact (ThermalTable.le_band_iff wide positive atMost reading).mpr reached

end

/-- Settles O36: the stages give the formula, their limits keep an on-time in its window, and every band is read off
the readings from which it is reached (`ThermalTable.le_band_iff`). -/
theorem onTimeStaysInTheWindow : Obligations.OnTimeStaysInTheWindow := by
  refine ⟨?stages, ?pixelWithin, ?undriven, ?window, ?settings, ?pixel, ?band⟩
  case stages =>
    intro lut gain k window floorPulse v
    refine ⟨?_, onTime_le_window lut gain k window floorPulse v⟩
    simp [onTime, stageGain, stageThermal, scaleClipped, stageWindow, stageFloor]
  case pixelWithin =>
    intro l v
    exact ⟨onTime_le_window .., onTime_le_window .., onTime_le_window ..⟩
  case undriven =>
    intro i s beyond
    simp [State.drivenPixel, beyond]
  case window =>
    intro period
    simp [exposureWindow, colourPhase, dutyDen]
  case settings =>
    intro p profile red green blue s hprofile hred hgreen hblue k hk
    simp [State.lineSettings, State.profile_eq_of_getElem? hprofile, State.lut_eq_of_getElem? (colour := 0) hred,
      State.lut_eq_of_getElem? hgreen, State.lut_eq_of_getElem? hblue, hk]
  case pixel =>
    intro l v
    simp [LineSettings.pixel, Bool.toNat, Bool.cond_eq_ite]
  case band =>
    intro t reading wide
    refine ⟨t.band_le reading, ThermalTable.band_eq_zero wide, ThermalTable.band_eq_fifteen wide,
      fun i => ThermalTable.band_eq_of_within wide, fun v found => ?_⟩
    simp [ThermalTable.values, found]

end Sys2Proof.Machine
end

section
/-!
PROOFS. The punch sensor (R99) and a punch judged against the boundary under watch (R101 to R103): inside the boundary's window, before
it, and with no record boundary under watch.
-/

namespace Sys2Proof.Machine

/-! ### Sampling (R99) -/

/-- A level that turns from PAPER to HOLE has turned because the last two samples read HOLE. -/
theorem qualifyPunch_turns_iff (sample last level : PunchSample) :
    level = .paper ∧ qualifyPunch sample last level = .hole ↔ level = .paper ∧ last = .hole ∧ sample = .hole := by
  unfold qualifyPunch
  split
  case isTrue agree => simp [agree]
  case isFalse differ =>
    have notBoth : ¬ (last = .hole ∧ sample = .hole) := fun ⟨hlast, hsample⟩ => differ (hsample.trans hlast.symm)
    refine iff_of_false ?_ fun turned => notBoth turned.2
    rintro ⟨rfl, isHole⟩
    cases isHole

/-! ### The boundary behind one under watch (R101) -/

/-- Registering a boundary moves no record, so the same boundary comes next. -/
theorem State.nextBoundary_record_setLead (start : Int) (lead : LeadState) (s : State) :
    (s.setLead start lead).nextBoundary (.record start) = firstStartAfter start s.path.queue := by
  have starts (g : Segment) : (if g.start = start then { g with lead := lead } else g).start = g.start := by
    split <;> rfl
  simp [State.nextBoundary, State.setLead, State.mapSegments, firstStartAfter, List.find?_map, Function.comp_def, starts]

/-- The state after a punch that registers the record boundary at `start`, `deviation` lines behind its expected position (R102). -/
def State.afterMatch (start deviation : Int) (s : State) : State :=
  { s with
    path := { s.path with queue := s.path.queue.map fun g => if g.start = start then { g with lead := .registered } else g }
    cutter := { s.cutter with
      delta := clampDelta (s.cutter.delta + deviation)
      consecutive := 0
      cutList := s.cutter.cutList ++
        [{ boundary := .record start, cutAt := s.path.position + s.path.params.dSensor, retry := false }]
      current := firstStartAfter start s.path.queue } }

theorem State.matchPunch_eq (start expected : Int) (s : State) :
    s.matchPunch start expected = s.afterMatch start (s.path.position - expected) := by
  rw [State.afterMatch, ← State.nextBoundary_record_setLead start .registered]
  rfl

/-! ### Judging a punch (R102, R103) -/

theorem State.expectedAt_record (start : Int) (s : State) :
    s.expectedAt (.record start) = some (start + s.path.params.lCut - s.path.params.dSensor + s.cutter.delta) := rfl

section
variable {s : State}

theorem State.judgePunch_unwatched (unwatched : s.cutter.current = none) : s.judgePunch = s.spuriousPunch := by
  simp [State.judgePunch, unwatched]

theorem State.judgePunch_cutPoint {j : Nat} (watched : s.cutter.current = some (.cutPoint j)) : s.judgePunch = s := by
  simp [State.judgePunch, watched]

variable {start expected : Int}

theorem State.judgePunch_inWindow (watched : s.cutter.current = some (.record start))
    (expects : s.expectedAt (.record start) = some expected) (opened : expected - s.path.params.window ≤ s.path.position)
    (notClosed : (s.path.position : Int) ≤ expected + s.path.params.window) :
    s.judgePunch = s.matchPunch start expected := by
  simp [State.judgePunch, watched, expects, opened, notClosed]

theorem State.judgePunch_beforeWindow (watched : s.cutter.current = some (.record start))
    (expects : s.expectedAt (.record start) = some expected)
    (early : (s.path.position : Int) < expected - s.path.params.window) : s.judgePunch = s.spuriousPunch := by
  simp [State.judgePunch, watched, expects, early, early.not_ge]

end

/-- Settles O42: the qualifier turns only on two samples of HOLE (`qualifyPunch_turns_iff`), and each clause on the judgement is
the branch of `judgePunch` that the punch's place in the window, or the boundary under watch, chooses. -/
theorem punchRegistersTheBoundary : Obligations.PunchRegistersTheBoundary := by
  refine ⟨fun sample s => ?sampled, fun s => ⟨fun start watched => ⟨?inWindow, ?before⟩, ?unwatched, ?cutPoint⟩⟩
  case sampled =>
    exact Prod.ext rfl (decide_eq_decide.mpr (qualifyPunch_turns_iff sample s.cutter.lastSample s.cutter.qualified))
  case inWindow =>
    intro opened notClosed
    rw [State.judgePunch_inWindow watched (s.expectedAt_record start) (by omega) (by omega), State.matchPunch_eq]
    rfl
  case before =>
    intro early
    exact State.judgePunch_beforeWindow watched (s.expectedAt_record start) (by omega)
  case unwatched => exact State.judgePunch_unwatched
  case cutPoint => exact fun j => State.judgePunch_cutPoint

end Sys2Proof.Machine
end

section
/-!
PROOFS. The clears of the bins and of the tray (R132, R133) and BIN RELEASE (R134): each by the state of the bin that it names.
-/

namespace Sys2Proof.Machine

section
variable {n : Nat} {b : Bin} {s : State}

/-! ### The record of a bin -/

theorem State.bin_eq_some_iff : s.bin n = some b ↔ n ≠ 0 ∧ s.sorter.bins[n - 1]? = some b := by
  by_cases zero : n = 0 <;> simp [State.bin, zero]

/-- The update of a bin depends only on what it makes of the record that the bin has. -/
theorem State.updateBin_congr {f g : Bin → Bin} (record : s.bin n = some b) (agree : f b = g b) :
    s.updateBin n f = s.updateBin n g := by
  obtain ⟨positive, place⟩ := State.bin_eq_some_iff.mp record
  simp [State.updateBin, positive, List.modify_eq_set_getElem?, place, agree]

theorem State.updateBin_eq_self {f : Bin → Bin} (record : s.bin n = some b) (same : f b = b) : s.updateBin n f = s := by
  obtain ⟨positive, place⟩ := State.bin_eq_some_iff.mp record
  obtain ⟨_, rfl⟩ := List.getElem?_eq_some_iff.mp place
  simp [State.updateBin, positive, List.modify_eq_set_getElem?, place, same]

/-! ### A HELD bin that nothing holds, and one that something holds (R132, R134) -/

theorem Bin.releasable_eq_true (empty : b.pending = 0) (ended : b.ownerLive = false) : b.releasable = true := by
  simp [Bin.releasable, empty, ended]

theorem Bin.releasable_eq_false (holds : 0 < b.pending ∨ b.ownerLive = true) : b.releasable = false := by
  obtain pending | live := holds
  · simp [Bin.releasable, pending.ne']
  · simp [Bin.releasable, live]

/-! ### The clear of a bin (R132) -/

theorem exec_binClear (active : s.inReset = false) (atMost : n ≤ 24) (record : s.bin n = some b) :
    exec (.binClear n) s = .next (s.clearBin n) := by
  have positive : 1 ≤ n := Nat.one_le_iff_ne_zero.mpr (State.bin_eq_some_iff.mp record).1
  calc exec (.binClear n) s = execBinClear n s := rfl
    _ = s.event (State.clearBin n) := if_pos ⟨positive, atMost⟩
    _ = .next (s.clearBin n) := State.event_of_not_inReset active

/-- The clear of a bin that is not FILLING changes the bin's record alone. -/
theorem State.clearBin_of_ne_filling {change : Bin → Bin} (record : s.bin n = some b) (notFilling : b.state ≠ .filling)
    (outcome : b.cleared = change b) : s.clearBin n = s.updateBin n change := by
  simp [State.clearBin, record, notFilling, State.updateBin_congr record outcome]

/-- The clear of a FILLING bin empties it, and flags its owner. -/
theorem State.clearBin_of_filling {owner : Nat} (record : s.bin n = some b) (filling : b.state = .filling)
    (owned : b.owner = some owner) :
    s.clearBin n =
      (s.updateBin n fun b => { b with count := 0, stray := 0 }).updateOrder owner Order.flagPickedEarly := by
  have outcome : b.cleared = { b with count := 0, stray := 0 } := by simp [Bin.cleared, filling]
  rw [← State.updateBin_congr record outcome]
  simp [State.clearBin, record, filling, owned]

/-! ### BIN RELEASE (R134) -/

variable {f g : InFrame} {rest : List InFrame}

theorem exec_binRelease_front (front : CommandFront .binRelease f rest s) :
    exec .binRelease s = .next (s.takeBinRelease f) :=
  calc exec .binRelease s = s.event (State.onImmediate .binRelease State.takeBinRelease) := rfl
    _ = .next (s.onImmediate .binRelease State.takeBinRelease) := State.event_of_not_inReset front.1
    _ = .next (s.takeBinRelease f) := by rw [State.onImmediate_front front]

theorem State.takeBinRelease_outOfRange (queued : s.commands = g :: rest)
    (bad : f.payload.length ≠ 1 ∨ field f.payload 0 1 = 0 ∨ 24 < field f.payload 0 1) :
    s.takeBinRelease f = answeredCommand f .range s := by
  have refused : ¬ (f.payload.length = 1 ∧ 1 ≤ field f.payload 0 1 ∧ field f.payload 0 1 ≤ 24) := by omega
  simp only [State.takeBinRelease, if_neg refused, State.removeImmediate_answer queued]

/-- A BIN RELEASE of a bin that exists is answered by the bin's record, and changes that record alone. -/
theorem State.takeBinRelease_of_bin {change : Bin → Bin} {result : StatusResult} (queued : s.commands = g :: rest)
    (bins : s.sorter.bins.length = 24) (length : f.payload.length = 1) (record : s.bin (field f.payload 0 1) = some b)
    (answer : b.releaseResult = result) (outcome : b.released = change b) :
    s.takeBinRelease f = answeredCommand f result (s.updateBin (field f.payload 0 1) change) := by
  obtain ⟨positive, place⟩ := State.bin_eq_some_iff.mp record
  obtain ⟨inRange, -⟩ := List.getElem?_eq_some_iff.mp place
  have named : f.payload.length = 1 ∧ 1 ≤ field f.payload 0 1 ∧ field f.payload 0 1 ≤ 24 := by omega
  simp only [State.takeBinRelease, if_pos named, record, answer, State.updateBin_congr record outcome]
  exact State.removeImmediate_answer (by simpa using queued) result

/-- A BIN RELEASE that leaves the bin's record as it is only answers the frame. -/
theorem State.takeBinRelease_unchanged {result : StatusResult} (queued : s.commands = g :: rest)
    (bins : s.sorter.bins.length = 24) (length : f.payload.length = 1) (record : s.bin (field f.payload 0 1) = some b)
    (answer : b.releaseResult = result) (same : b.released = b) :
    s.takeBinRelease f = answeredCommand f result s := by
  rw [State.takeBinRelease_of_bin queued bins length record answer (change := Bin.released) rfl,
    State.updateBin_eq_self record same]

end

/-- Settles O50: each clause on a clear is the branch of `Bin.cleared`, and each on a release the branch of `Bin.released`
and `Bin.releaseResult`, that the state of the bin chooses. -/
theorem binsAreClearedAndReleased : Obligations.BinsAreClearedAndReleased := by
  refine ⟨fun s active => ?tray, fun n b s active atMost record => ?clear, fun f rest s front bins => ?release⟩
  case tray => exact ⟨s.clearTray, State.event_of_not_inReset active, rfl, rfl⟩
  case clear =>
    rw [exec_binClear active atMost record]
    refine ⟨fun free => congrArg _ ?free, fun ready => congrArg _ ?ready, fun held empty ended => congrArg _ ?unheld,
      fun held holds => congrArg _ ?held, fun owner filling owned => congrArg _ ?filling⟩
    case free =>
      have same : b.cleared = b := by simp [Bin.cleared, free]
      rw [State.clearBin_of_ne_filling record (by simp [free]) rfl, State.updateBin_eq_self record same]
    case ready =>
      exact State.clearBin_of_ne_filling record (by simp [ready]) (by simp [Bin.cleared, ready, Bin.freed])
    case unheld =>
      exact State.clearBin_of_ne_filling record (by simp [held])
        (by simp [Bin.cleared, held, Bin.releasable_eq_true empty ended, Bin.freed])
    case held =>
      exact State.clearBin_of_ne_filling record (by simp [held])
        (by simp [Bin.cleared, held, Bin.releasable_eq_false holds])
    case filling =>
      rw [State.clearBin_of_filling record filling owned]
      simp [State.updateOrder, Order.flagPickedEarly]
  case release =>
    have queued : s.commands = f :: rest := front.2.1
    rw [exec_binRelease_front front]
    refine ⟨fun bad => congrArg _ (State.takeBinRelease_outOfRange queued bad), fun b length record =>
      ⟨fun free => congrArg _ ?free, fun ready => congrArg _ ?ready, fun held empty ended => congrArg _ ?unheld,
        fun held holds => congrArg _ ?held, fun filling => congrArg _ ?filling⟩⟩
    case free =>
      exact State.takeBinRelease_unchanged queued bins length record (by simp [Bin.releaseResult, free])
        (by simp [Bin.released, free])
    case ready =>
      exact State.takeBinRelease_of_bin queued bins length record (by simp [Bin.releaseResult, ready])
        (by simp [Bin.released, ready, Bin.freed])
    case unheld =>
      have releasable := Bin.releasable_eq_true empty ended
      exact State.takeBinRelease_of_bin queued bins length record (by simp [Bin.releaseResult, held, releasable])
        (by simp [Bin.released, held, releasable, Bin.freed])
    case held =>
      have notReleasable := Bin.releasable_eq_false holds
      exact State.takeBinRelease_unchanged queued bins length record (by simp [Bin.releaseResult, held, notReleasable])
        (by simp [Bin.released, held, notReleasable])
    case filling =>
      exact State.takeBinRelease_unchanged queued bins length record (by simp [Bin.releaseResult, filling])
        (by simp [Bin.released, filling])

end Sys2Proof.Machine
end

section
/-!
PROOFS. The bill of an order (R143 to R148): the break that a quantity reaches, the priced entries, the prints given away in the
order of unit price, and the promotion that an order's code finds.
-/

namespace Sys2Proof.Machine

/-! ### The unit price (R144) -/

/-- The better of two breaks for a quantity: the second, where the quantity reaches it and it is not below the first. -/
def betterBreak (quantity : Nat) (best b : Break) : Break :=
  if b.threshold ≤ quantity ∧ best.threshold ≤ b.threshold then b else best

theorem bandPercent_eq (breaks : List Break) (quantity : Nat) :
    bandPercent breaks quantity = (breaks.foldl (betterBreak quantity) ⟨0, 0⟩).percent := rfl

/-- The best break stays when every other that the quantity reaches is below it. -/
theorem foldl_betterBreak_eq_self {quantity : Nat} {best : Break} {breaks : List Break}
    (highest : ∀ c ∈ breaks, c.threshold ≤ quantity → c ≠ best → c.threshold < best.threshold) :
    breaks.foldl (betterBreak quantity) best = best := by
  induction breaks with
  | nil => rfl
  | cons c rest ih =>
    obtain ⟨first, others⟩ := List.forall_mem_cons.mp highest
    have stays : betterBreak quantity best c = best :=
      ite_eq_right_iff.mpr fun better =>
        by_contra fun ne => absurd (first better.1 ne) (not_lt.mpr better.2)
    rw [List.foldl_cons, stays, ih others]

/-- No break is chosen above a threshold that neither the first nor any break reached is above. -/
theorem foldl_betterBreak_threshold_le {quantity top : Nat} {best : Break} {breaks : List Break}
    (first : best.threshold ≤ top) (atMost : ∀ c ∈ breaks, c.threshold ≤ quantity → c.threshold ≤ top) :
    (breaks.foldl (betterBreak quantity) best).threshold ≤ top := by
  induction breaks generalizing best with
  | nil => exact first
  | cons c rest ih =>
    obtain ⟨next, others⟩ := List.forall_mem_cons.mp atMost
    refine ih ?_ others
    unfold betterBreak
    split
    case isTrue better => exact next better.1
    case isFalse => exact first

theorem bandPercent_of_unreached {quantity : Nat} {breaks : List Break}
    (unreached : ∀ b ∈ breaks, ¬ b.threshold ≤ quantity) : bandPercent breaks quantity = 0 := by
  rw [bandPercent_eq, foldl_betterBreak_eq_self fun c mem reached => absurd reached (unreached c mem)]

theorem bandPercent_of_highest {quantity : Nat} {b : Break} {breaks : List Break} (mem : b ∈ breaks)
    (reached : b.threshold ≤ quantity)
    (highest : ∀ c ∈ breaks, c.threshold ≤ quantity → c ≠ b → c.threshold < b.threshold) :
    bandPercent breaks quantity = b.percent := by
  have atMost : ∀ c ∈ breaks, c.threshold ≤ quantity → c.threshold ≤ b.threshold := fun c cmem creached => by
    by_cases same : c = b
    · rw [same]
    · exact (highest c cmem creached same).le
  obtain ⟨before, behind, rfl⟩ := List.append_of_mem mem
  have below : (before.foldl (betterBreak quantity) ⟨0, 0⟩).threshold ≤ b.threshold :=
    foldl_betterBreak_threshold_le (Nat.zero_le _) fun c cmem => atMost c (List.mem_append_left _ cmem)
  have taken : betterBreak quantity (before.foldl (betterBreak quantity) ⟨0, 0⟩) b = b := if_pos ⟨reached, below⟩
  rw [bandPercent_eq, List.foldl_append, List.foldl_cons, taken, foldl_betterBreak_eq_self fun c cmem =>
    highest c (List.mem_append_right _ (List.mem_cons_of_mem b cmem))]

theorem PriceRow.base_eq (row : PriceRow) (surface : Surface) :
    row.base surface = if surface = .glossy then row.glossy else row.lustre := by
  cases surface <;> rfl

section
variable {row : PriceRow} {surface : Surface} {quantity : Nat}

theorem PriceRow.unitPrice_of_unreached (unreached : ∀ b ∈ row.breaks, ¬ b.threshold ≤ quantity) :
    row.unitPrice surface quantity = row.base surface := by
  rw [PriceRow.unitPrice, bandPercent_of_unreached unreached]
  omega

theorem PriceRow.unitPrice_of_highest {b : Break} (mem : b ∈ row.breaks) (reached : b.threshold ≤ quantity)
    (highest : ∀ c ∈ row.breaks, c.threshold ≤ quantity → c ≠ b → c.threshold < b.threshold) :
    row.unitPrice surface quantity = (row.base surface * (100 - b.percent) + 50) / 100 := by
  rw [PriceRow.unitPrice, bandPercent_of_highest mem reached highest]

/-- The half added before the division never carries past the base price. -/
theorem PriceRow.unitPrice_le_base : row.unitPrice surface quantity ≤ row.base surface := by
  have share : row.base surface * (100 - bandPercent row.breaks quantity) ≤ row.base surface * 100 :=
    Nat.mul_le_mul_left _ (Nat.sub_le _ _)
  unfold PriceRow.unitPrice
  omega

end

/-! ### The priced entries (R143, R145) -/

/-- The row of a tally entry's size, if it is loaded. -/
def PriceEngine.loadedRow (e : PriceEngine) (t : Tally) : Option PriceRow := e.rows[t.size]?.filter PriceRow.loaded

theorem PriceEngine.unitPrice_eq (e : PriceEngine) (t : Tally) :
    e.unitPrice t = (e.loadedRow t).map fun row => row.unitPrice t.surface t.quantity := by
  unfold PriceEngine.unitPrice PriceEngine.loadedRow
  cases e.rows[t.size]? with
  | none => rfl
  | some row => cases loaded : row.loaded <;> simp [Option.filter, loaded]

/-- A sum over the entries that a partial function keeps is the sum over all, with 0 for the others. -/
theorem sum_map_filterMap {α β : Type} (g : α → Option β) (f : β → Nat) (l : List α) :
    ((l.filterMap g).map f).sum = (l.map fun a => ((g a).map f).getD 0).sum := by
  induction l with
  | nil => rfl
  | cons a rest ih => cases kept : g a <;> simp [kept, ih]

theorem PriceEngine.subtotal_eq (e : PriceEngine) (r : Order) :
    e.subtotal r =
      (r.tallies.map fun t =>
        match e.loadedRow t with
        | some row => t.quantity * row.unitPrice t.surface t.quantity + t.quantity * e.surcharges.getD r.cls.code 0
        | none => 0).sum := by
  unfold PriceEngine.subtotal PriceEngine.priced
  rw [sum_map_filterMap]
  congr 1
  refine List.map_congr_left fun t _ => ?_
  rw [PriceEngine.unitPrice_eq]
  cases e.loadedRow t <;> rfl

theorem PriceEngine.unpriced_eq (e : PriceEngine) (r : Order) :
    e.unpriced r = r.unpriced + (r.tallies.map fun t => if (e.loadedRow t).isNone then t.quantity else 0).sum := by
  simp only [PriceEngine.unpriced, PriceEngine.unitPrice_eq, Option.isNone_map, List.sum_map_ite, Bool.decide_eq_true,
    List.map_const', List.sum_replicate, smul_zero, add_zero]

/-- The entries of one size with their unit prices, in the order of the list. -/
theorem PriceEngine.priced_filter_size (e : PriceEngine) (size : Nat) (tallies : List Tally) :
    (e.priced tallies).filter (fun (t, _) => t.size = size) =
      tallies.filterMap fun t =>
        if t.size = size then (e.loadedRow t).map fun row => (t, row.unitPrice t.surface t.quantity) else none := by
  unfold PriceEngine.priced
  rw [List.filter_filterMap]
  refine List.filterMap_congr fun t _ => ?_
  rw [PriceEngine.unitPrice_eq]
  cases e.loadedRow t <;> simp [Option.filter]

/-! ### The order of unit price, and the prints given away (R147) -/

theorem sortByPrice_concat (l : List (Tally × Nat)) (a : Tally × Nat) :
    sortByPrice (l ++ [a]) = insertByPrice a (sortByPrice l) := by
  simp [sortByPrice]

theorem insertByPrice_perm (a : Tally × Nat) (l : List (Tally × Nat)) : (insertByPrice a l).Perm (a :: l) := by
  induction l with
  | nil => exact .refl _
  | cons b rest ih =>
    unfold insertByPrice
    split
    · exact (ih.cons b).trans (.swap a b rest)
    · exact .refl _

/-- No entry has a unit price above that of a later one. -/
def SortedByPrice (l : List (Tally × Nat)) : Prop := l.Pairwise fun a b => a.2 ≤ b.2

theorem insertByPrice_sorted (a : Tally × Nat) {l : List (Tally × Nat)} (sorted : SortedByPrice l) :
    SortedByPrice (insertByPrice a l) := by
  induction l with
  | nil => exact List.pairwise_singleton _ a
  | cons b rest ih =>
    obtain ⟨lowest, sortedRest⟩ := List.pairwise_cons.mp sorted
    unfold insertByPrice
    split
    case isTrue behind =>
      refine List.pairwise_cons.mpr ⟨fun c mem => ?_, ih sortedRest⟩
      obtain rfl | inRest := List.mem_cons.mp ((insertByPrice_perm a rest).mem_iff.mp mem)
      · exact behind
      · exact lowest c inRest
    case isFalse before =>
      have below : a.2 ≤ b.2 := (not_le.mp before).le
      refine List.pairwise_cons.mpr ⟨fun c mem => ?_, sorted⟩
      obtain rfl | inRest := List.mem_cons.mp mem
      · exact below
      · exact below.trans (lowest c inRest)

/-- An entry goes behind every entry of its own unit price. -/
theorem filter_insertByPrice (a : Tally × Nat) {l : List (Tally × Nat)} (sorted : SortedByPrice l) (pu : Nat) :
    (insertByPrice a l).filter (fun c => c.2 = pu) = (l ++ [a]).filter fun c => c.2 = pu := by
  induction l with
  | nil => rfl
  | cons b rest ih =>
    obtain ⟨lowest, sortedRest⟩ := List.pairwise_cons.mp sorted
    unfold insertByPrice
    split
    case isTrue => rw [List.cons_append, List.filter_cons, List.filter_cons, ih sortedRest]
    case isFalse before =>
      have dearer : ∀ c ∈ b :: rest, a.2 < c.2 :=
        List.forall_mem_cons.mpr ⟨not_le.mp before, fun c mem => (not_le.mp before).trans_le (lowest c mem)⟩
      rw [List.filter_cons, List.filter_append, List.filter_singleton]
      by_cases own : a.2 = pu
      · have others : (b :: rest).filter (fun c => c.2 = pu) = [] :=
          List.filter_eq_nil_iff.mpr fun c mem => by simpa [own] using (dearer c mem).ne'
        simp [own, others]
      · simp [own]

theorem sortByPrice_perm (l : List (Tally × Nat)) : (sortByPrice l).Perm l := by
  induction l using List.reverseRecOn with
  | nil => exact .refl _
  | append_singleton l a ih =>
    calc sortByPrice (l ++ [a]) = insertByPrice a (sortByPrice l) := sortByPrice_concat l a
      List.Perm _ (a :: sortByPrice l) := insertByPrice_perm a _
      List.Perm _ (a :: l) := ih.cons a
      List.Perm _ (l ++ [a]) := (List.perm_append_singleton a l).symm

theorem sortByPrice_sorted (l : List (Tally × Nat)) : SortedByPrice (sortByPrice l) := by
  induction l using List.reverseRecOn with
  | nil => exact .nil
  | append_singleton l a ih => exact sortByPrice_concat l a ▸ insertByPrice_sorted a ih

/-- Entries of one unit price stand in the order they came in. -/
theorem filter_sortByPrice (l : List (Tally × Nat)) (pu : Nat) :
    (sortByPrice l).filter (fun a => a.2 = pu) = l.filter fun a => a.2 = pu := by
  induction l using List.reverseRecOn with
  | nil => rfl
  | append_singleton l a ih =>
    rw [sortByPrice_concat, filter_insertByPrice a (sortByPrice_sorted l), List.filter_append, List.filter_append, ih]

section
variable {n : Nat} {t : Tally} {pu : Nat} {l : List (Tally × Nat)}

@[simp] theorem freePrints_zero : freePrints 0 l = 0 := by
  induction l with
  | nil => rfl
  | cons a rest ih => simp [freePrints, ih]

theorem freePrints_cons_of_le (within : n ≤ t.quantity) : freePrints n ((t, pu) :: l) = n * pu := by
  simp [freePrints, within]

theorem freePrints_cons_of_ge (beyond : t.quantity ≤ n) :
    freePrints n ((t, pu) :: l) = t.quantity * pu + freePrints (n - t.quantity) l := by
  simp [freePrints, beyond]

/-- Enough to give away makes every print free. -/
theorem freePrints_all (enough : (l.map fun a => a.1.quantity).sum ≤ n) :
    freePrints n l = (l.map fun a => a.1.quantity * a.2).sum := by
  induction l generalizing n with
  | nil => rfl
  | cons a rest ih =>
    rw [List.map_cons, List.sum_cons] at enough
    rw [freePrints_cons_of_ge (by omega), ih (by omega), List.map_cons, List.sum_cons]

end

/-! ### The promotion and its limits (R146, R148) -/

theorem limitDiscount_eq (cap subtotal d : Nat) :
    limitDiscount cap subtotal d = if 0 < cap then min (min d cap) subtotal else min d subtotal :=
  apply_ite (min · subtotal) (0 < cap) (min d cap) d

theorem limitDiscount_le (cap subtotal d : Nat) : limitDiscount cap subtotal d ≤ subtotal := min_le_right _ _

/-- A promotion record that an order's code finds: enabled, and with that code. -/
def Promotion.Answers (promo : Promotion) (code : Nat) : Prop := promo.enabled = true ∧ promo.code = code

section
variable {e : PriceEngine} {r : Order} {code : Nat} {promo : Promotion}

theorem PriceEngine.discount_of_no_code (plain : r.promotion = none) : e.discount r = (0, false, false) := by
  simp [PriceEngine.discount, plain]

theorem PriceEngine.discount_of_unknown (coded : r.promotion = some code)
    (unknown : ∀ promo ∈ e.promotions, ¬ promo.Answers code) : e.discount r = (0, true, false) := by
  have found : e.promotions.find? (fun p => p.enabled ∧ p.code = code) = none :=
    List.find?_eq_none.mpr fun promo mem => by simpa [Promotion.Answers] using unknown promo mem
  simp only [PriceEngine.discount, coded, found]

/-- The first record that answers the code is the one that counts; the key decides whether the order gets its discount. -/
theorem PriceEngine.discount_of_first {before behind : List Promotion} (coded : r.promotion = some code)
    (split : e.promotions = before ++ promo :: behind) (answers : promo.Answers code)
    (first : ∀ other ∈ before, ¬ other.Answers code) :
    e.discount r =
      if maskHits r.key promo.base promo.mask then
        (limitDiscount promo.cap (e.subtotal r) (e.rawDiscount promo r), false, false)
      else (0, false, true) := by
  have found : e.promotions.find? (fun p => p.enabled ∧ p.code = code) = some promo :=
    List.find?_eq_some_iff_append.mpr ⟨by simpa [Promotion.Answers] using answers, before, behind, split,
      fun other mem => by simpa [Promotion.Answers, imp_iff_not_or] using first other mem⟩
  simp only [PriceEngine.discount, coded, found]

/-- The limits hold of every discount, the absent one included. -/
theorem PriceEngine.discount_le_subtotal : (e.discount r).1 ≤ e.subtotal r := by
  unfold PriceEngine.discount
  split
  · exact Nat.zero_le _
  split
  · exact Nat.zero_le _
  split
  · exact limitDiscount_le _ _ _
  · exact Nat.zero_le _

end

/-! ### The bill -/

section
variable (e : PriceEngine) (r : Order)

@[simp] theorem PriceEngine.bill_subtotal : (e.bill r).subtotal = e.subtotal r := rfl
@[simp] theorem PriceEngine.bill_discount : (e.bill r).discount = (e.discount r).1 := rfl
@[simp] theorem PriceEngine.bill_total : (e.bill r).total = e.subtotal r - (e.discount r).1 := rfl
@[simp] theorem PriceEngine.bill_unpriced : (e.bill r).unpriced = e.unpriced r := rfl
@[simp] theorem PriceEngine.bill_unknown : (e.bill r).unknown = (e.discount r).2.1 := rfl
@[simp] theorem PriceEngine.bill_notEligible : (e.bill r).notEligible = (e.discount r).2.2 := rfl

end

/-- Settles O52: the unit price by the highest break reached, the sums by the rows that are loaded, the discount by what the
order's code finds and the key hits, and the stable sort by what each insertion keeps. -/
theorem billFollowsTheTables : Obligations.BillFollowsTheTables := by
  refine ⟨fun row surface q => ?unitPrice, fun e r => ⟨e.subtotal_eq r, e.unpriced_eq r, fun promo => ?rawDiscount⟩,
    ⟨limitDiscount_eq, fun e r => ⟨PriceEngine.discount_le_subtotal, rfl⟩,
      fun e r => ⟨?noCode, fun code coded => ?code⟩⟩,
    fun l => ⟨sortByPrice_perm l, List.pairwise_map.mpr (sortByPrice_sorted l), filter_sortByPrice l⟩,
    fun _ _ => freePrints_all, fun _ _ _ _ => ⟨freePrints_cons_of_le, freePrints_cons_of_ge⟩⟩
  case unitPrice =>
    rw [← PriceRow.base_eq]
    refine ⟨fun unreached => ?_, fun b reached highest => ?_, PriceRow.unitPrice_le_base⟩
    · exact PriceRow.unitPrice_of_unreached fun b mem reached => unreached b ⟨mem, reached⟩
    · exact PriceRow.unitPrice_of_highest reached.1 reached.2 fun c mem creached => highest c ⟨mem, creached⟩
  case rawDiscount =>
    refine ⟨fun percent => ?_, fun amount => ?_, fun free => ?_⟩
    · simp [PriceEngine.rawDiscount, percent]
    · simp [PriceEngine.rawDiscount, amount]
    · simp only [PriceEngine.rawDiscount, free]
      exact congrArg (freePrints promo.prints <| sortByPrice ·) (e.priced_filter_size promo.size r.tallies)
  case noCode =>
    intro plain
    simp [PriceEngine.discount_of_no_code plain]
  case code =>
    refine ⟨fun unknown => ?unknown, fun before promo behind split enabled named first => ?first⟩
    case unknown => simp [PriceEngine.discount_of_unknown coded unknown]
    case first =>
      have discount := PriceEngine.discount_of_first coded split ⟨enabled, named⟩ first
      rw [← maskHits_iff]
      refine ⟨?known, fun missed => ?missed, fun hit => ?hit⟩
      case known => simp only [PriceEngine.bill_unknown, discount]; split <;> rfl
      case missed => simp [discount, missed]
      case hit => simp [discount, hit]

end Sys2Proof.Machine
end

section
/-!
PROOFS. A failed frame (R163): the number fields of a frame read back (R172), what the receiver makes of the bytes of a whole frame and of a
header with a length over the limit (R162), the judgement of what it took, and the credit of a frame that fails.
-/

namespace Sys2Proof.Machine

/-! ### A number in bytes, read back (R172) -/

@[simp] theorem length_bytesOf (n v : Nat) : (bytesOf n v).length = n := by
  induction n with
  | zero => rfl
  | succ n ih => simp [bytesOf, ih]

/-- Reading `n` bytes of a number behind what has been read shifts the latter up by `n` bytes and adds the low `n` bytes. -/
theorem foldl_bytesOf (n v read : Nat) :
    (bytesOf n v).foldl (fun m b => m * 256 + b.toNat) read = read * 256 ^ n + v % 256 ^ n := by
  induction n generalizing read with
  | zero => simp [bytesOf, Nat.mod_one]
  | succ n ih =>
    calc (bytesOf (n + 1) v).foldl (fun m b => m * 256 + b.toNat) read
      _ = (read * 256 + v / 256 ^ n % 256) * 256 ^ n + v % 256 ^ n := by simp [bytesOf, ih]
      _ = read * 256 ^ (n + 1) + v % 256 ^ (n + 1) := by rw [pow_succ, Nat.mod_mul]; ring

theorem numberOf_bytesOf {n v : Nat} (inRange : v < 256 ^ n) : numberOf (bytesOf n v) = v := by
  simp [numberOf, foldl_bytesOf, Nat.mod_eq_of_lt inRange]

/-! ### The bytes of a frame at the receiver (R162) -/

@[simp] theorem State.setReceiver_setReceiver (r earlier : Receiver) (s : State) :
    (s.setReceiver earlier).setReceiver r = s.setReceiver r := rfl

@[simp] theorem State.takeHeader_setReceiver (header : List Byte) (earlier : Receiver) (s : State) :
    (s.setReceiver earlier).takeHeader header = s.takeHeader header := rfl

/-- A receiver that hunts takes a start character and four header bytes, and reads the length off the last two. -/
theorem State.receive_header {length : Nat} (kind tag : Byte) (inRange : length < 65536) {s : State}
    (marking : s.link.breakHeld = false) (hunting : s.link.receiver = .hunting) (rest : List Byte) :
    s.receive ([0xA5, kind, tag] ++ bytesOf 2 length ++ rest) =
      rest.foldl (fun s b => s.receiveByte b)
        (if maxPayload < length then (s.setReceiver .hunting).failFrame kind
         else s.setReceiver (.body kind tag length [])) := by
  have taken : s.receive ([0xA5, kind, tag] ++ bytesOf 2 length ++ rest) =
      rest.foldl (fun s b => s.receiveByte b) (s.takeHeader ([kind, tag] ++ bytesOf 2 length)) := by
    simp [State.receive, marking, State.receiveByte, hunting, bytesOf]
  have lengthField : field ([kind, tag] ++ bytesOf 2 length) 2 2 = length := by
    simpa [field, bytesOf] using numberOf_bytesOf (n := 2) inRange
  rw [taken, State.takeHeader, lengthField]
  rfl

/-- The receiver collects the bytes of a body up to the last check byte, with which the frame is judged. -/
theorem State.receive_body (kind tag : Byte) (length : Nat) (s : State) :
    ∀ (rest taken : List Byte), rest ≠ [] → taken.length + rest.length = length + 2 →
      rest.foldl (fun s b => s.receiveByte b) (s.setReceiver (.body kind tag length taken)) =
        (s.setReceiver .hunting).judgeFrame kind tag length (taken ++ rest)
  | [b], taken, _, whole => by
    have last : ¬ taken.length ≤ length := by simp at whole; omega
    simp [State.receiveByte, last]
  | b :: c :: rest, taken, _, whole => by
    have more : taken.length ≤ length := by simp at whole; omega
    have step : (s.setReceiver (.body kind tag length taken)).receiveByte b =
        s.setReceiver (.body kind tag length (taken ++ [b])) := by
      simp [State.receiveByte, more]
    rw [List.foldl_cons, step,
      State.receive_body kind tag length s (c :: rest) (taken ++ [b]) (by simp) (by simp at whole ⊢; omega)]
    simp

section
variable {s : State}

theorem State.setReceiver_hunting_of_hunting (hunting : s.link.receiver = .hunting) : s.setReceiver .hunting = s := by
  rw [State.setReceiver, ← hunting]

/-- A whole frame of an allowed length is judged by its payload and its two check bytes. -/
theorem State.receive_frame {length : Nat} {body : List Byte} (kind tag : Byte) (allowed : length ≤ maxPayload)
    (whole : body.length = length + 2) (marking : s.link.breakHeld = false) (hunting : s.link.receiver = .hunting) :
    s.receive ([0xA5, kind, tag] ++ bytesOf 2 length ++ body) = s.judgeFrame kind tag length body := by
  have notEmpty : body ≠ [] := List.ne_nil_of_length_eq_add_one whole
  have inRange : length < 65536 := allowed.trans_lt (by decide)
  rw [State.receive_header kind tag inRange marking hunting, if_neg allowed.not_gt,
    State.receive_body kind tag length s body [] notEmpty (by simpa using whole), List.nil_append,
    State.setReceiver_hunting_of_hunting hunting]

/-- A frame start with a length over the limit is a failed frame, and the receiver hunts on. -/
theorem State.receive_overLimit {length : Nat} (kind tag : Byte) (above : maxPayload < length) (inRange : length < 65536)
    (marking : s.link.breakHeld = false) (hunting : s.link.receiver = .hunting) :
    s.receive ([0xA5, kind, tag] ++ bytesOf 2 length) = s.failFrame kind := by
  have header := State.receive_header kind tag inRange marking hunting []
  rwa [List.append_nil, if_pos above, State.setReceiver_hunting_of_hunting hunting] at header

/-! ### The judgement of a frame, and one that fails (R163) -/

/-- A frame with a wrong check, or of no inbound kind, fails. -/
theorem State.judgeFrame_fails {kind tag : Byte} {payload : List Byte} {check : Nat} (inRange : check < 65536)
    (bad : check ≠ (frameCheck ([kind, tag] ++ bytesOf 2 payload.length ++ payload)).toNat ∨ InKind.ofCode kind = none) :
    s.judgeFrame kind tag payload.length (payload ++ bytesOf 2 check) = s.failFrame kind := by
  have carried : numberOf (bytesOf 2 check) = check := numberOf_bytesOf inRange
  simp only [State.judgeFrame, List.take_left, List.drop_left, carried]
  split
  case isTrue agrees =>
    have unknown : InKind.ofCode kind = none := bad.resolve_left (not_not_intro agrees)
    simp [unknown]
  case isFalse => rfl

/-- LINK_CHECK raised and counted, which is all that a frame with no credit to its kind does when it fails. -/
def State.countFailure (s : State) : State := (s.raise .linkCheck).bump .linkCheck

@[simp] theorem State.countFailure_available (k : InKind) (s : State) : s.countFailure.available k = s.available k := by
  simp [State.countFailure, State.available]

theorem State.failFrame_unknown {kind : Byte} (unknown : InKind.ofCode kind = none) :
    s.failFrame kind = s.countFailure := by
  simp [State.failFrame, unknown, State.countFailure]

theorem State.failFrame_known {kind : Byte} {k : InKind} (known : InKind.ofCode kind = some k) :
    s.failFrame kind =
      if 1 ≤ s.available k then (s.countFailure.useCredit k).returnCredit k else s.countFailure := by
  rw [← State.countFailure_available k s]
  simp only [State.failFrame, known]
  rfl

/-- One credit of a kind's group used and returned, where a failed frame has been counted. -/
theorem State.countFailure_credit (k : InKind) (s : State) :
    (s.countFailure.useCredit k).returnCredit k =
      if k.sequenced then
        { s.countFailure with link := { s.countFailure.link with
            availableStream := s.link.availableStream - 1, returnedStream := s.link.returnedStream + 1 } }
      else
        { s.countFailure with link := { s.countFailure.link with
            availableCommand := s.link.availableCommand - 1, returnedCommand := s.link.returnedCommand + 1 } } := by
  cases group : k.sequenced <;> simp [State.useCredit, State.returnCredit, group, State.countFailure]

end

/-- Settles O7: the receiver takes a whole frame to its judgement (`State.receive_frame`) and a length over the limit to a failed
frame (`State.receive_overLimit`), and what a failed frame does follows from the group and the credit of its kind. -/
theorem failedFrameKeepsItsCredit : Obligations.FailedFrameKeepsItsCredit := by
  intro kind tag s active marking hunting counted failed
  have fails : s.failFrame kind = failed := by
    simp only [failed]
    cases code : InKind.ofCode kind with
    | none => exact State.failFrame_unknown code
    | some k =>
      rw [State.failFrame_known code, State.countFailure_credit]
      cases group : k.sequenced <;> simp [State.available, group, counted, State.countFailure]
  refine ⟨fun payload check allowed inRange bad => ?arrival, fun length above => ?overLimit⟩
  case arrival =>
    have whole : (payload ++ bytesOf 2 check).length = payload.length + 2 := by simp
    have received := State.receive_frame kind tag allowed whole marking hunting
    rw [State.judgeFrame_fails inRange bad, ← List.append_assoc] at received
    calc exec (.frameArrival ([0xA5, kind, tag] ++ bytesOf 2 payload.length ++ payload ++ bytesOf 2 check)) s
      _ = s.event (State.receive ([0xA5, kind, tag] ++ bytesOf 2 payload.length ++ payload ++ bytesOf 2 check)) := rfl
      _ = .next failed := by rw [State.event_of_not_inReset active, received, fails]
  case overLimit =>
    have received := State.receive_overLimit kind tag above length.isLt marking hunting
    calc exec (.lengthOverLimit kind tag length) s
      _ = s.event (State.receive ([0xA5, kind, tag] ++ bytesOf 2 length.toNat)) := rfl
      _ = .next failed := by rw [State.event_of_not_inReset active, received, fails]

end Sys2Proof.Machine
end

section
/-!
PROOFS. What a command does as a plain change of the state, and the package of the invariants' inductions: a property that every
command, the queue of commands and one microsecond keep is kept by every step.
-/

namespace Sys2Proof.Machine

/-! ### The effect of a command -/

/-- The change that a command makes when it acts: `exec` without the pin that may be held low and without the faults. -/
def effect : Instr → State → State
  | .fullReset, s => { State.reset with inReset := true, freeTags := s.freeTags, pending := s.pending }
  | .resetPinRelease, s => if s.inReset then s.leaveReset else s
  | .linkReset, s => s.resetLink.resetReader
  | .frameArrival bytes, s => s.receive bytes
  | .credit, s => s.sendCredit
  | .frameTransmit, s => s.transmit
  | .orderOpen, s => s.onSequenced .orderOpen State.takeOrderOpen
  | .orderClose, s => s.onSequenced .orderClose State.takeOrderClose
  | .printHeader, s => s.onSequenced .printHeader State.takePrintHeader
  | .line, s => s.takeLine
  | .printEnd, s => s.takePrintEnd
  | .paperLoad, s => s.onSequenced .paperLoad State.takePaperLoad
  | .profileLoad, s => s.onSequenced .profileLoad (State.unlessExposing State.takeProfileLoad)
  | .lutLoad, s => s.onSequenced .lutLoad (State.unlessExposing State.takeLutLoad)
  | .thermalLoad, s => s.onSequenced .thermalLoad (State.unlessExposing State.takeThermalLoad)
  | .sizeLoad, s => s.onSequenced .sizeLoad (State.unlessExposing State.takeSizeLoad)
  | .runparamLoad, s => s.onSequenced .runparamLoad State.takeRunparamLoad
  | .runStart, s => s.onImmediate .runStart State.takeRunStart
  | .runEnd, s => s.onImmediate .runEnd State.takeRunEnd
  | .runAbort, s => s.onImmediate .runAbort State.takeRunAbort
  | .orderCancel, s => s.onImmediate .orderCancel State.takeOrderCancel
  | .binRelease, s => s.onImmediate .binRelease State.takeBinRelease
  | .alertClear, s => s.onImmediate .alertClear State.takeAlertClear
  | .alertEnable, s => s.onImmediate .alertEnable State.takeAlertEnable
  | .monitorLoad, s => s.onImmediate .monitorLoad State.takeMonitorLoad
  | .sortmapLoad, s => s.onImmediate .sortmapLoad State.takeSortmapLoad
  | .priceLoad, s => s.onImmediate .priceLoad (State.whenEngineIdle State.takePriceLoad)
  | .promoLoad, s => s.onImmediate .promoLoad (State.whenEngineIdle State.takePromoLoad)
  | .queryOrder, s => s.onQuery 1 (State.ofLength 4 State.takeQueryOrder)
  | .queryBin, s => s.onQuery 2 (State.ofLength 2 State.takeQueryBin)
  | .queryPath, s => s.onQuery 3 (State.ofLength 2 State.takeQueryPath)
  | .queryMonitor, s => s.onQuery 4 (State.ofLength 1 State.takeQueryMonitor)
  | .queryRun, s => s.onQuery 5 (State.ofLength 1 State.takeQueryRun)
  | .queryTable, s => s.onQuery 6 (State.ofLength 4 State.takeQueryTable)
  | .queryCounters, s => s.onQuery 7 (State.ofLength 2 State.takeQueryCounters)
  | .queryAlerts, s => s.onQuery 8 (State.ofLength 1 State.takeQueryAlerts)
  | .step sample, s => s.takeStep sample
  | .cutDone, s => s.takeCutDone
  | .cutTimeout, s => s.giveUpCut
  | .dwellExpiry, s => s.expireDwell
  | .conversion value, s => s.takeConversion value
  | .estopJamInput input active, s => s.takeStopInput input active
  | .drop place, s => (s.judgeDrop (Target.ofPlace place)).expire
  | .deliveryDeadline, s => s.reachDeadline
  | .binClear bin, s => s.clearBin bin
  | .trayClear, s => s.clearTray
  | .pricingComplete, s => s.completePricing
  | .lengthOverLimit kind tag length, s => s.receive ([0xA5, kind, tag] ++ bytesOf 2 length.toNat)
  | .lineReturnsToMarking, s => if s.link.breakHeld then s.resumeLine else s

/-- The two reset commands act whatever the pin; a drop or a clear at a sensor that the part does not have is a fault; every
other command is an event of its effect. -/
theorem exec_eq (c : Instr) (s : State) :
    exec c s =
      match c with
      | .fullReset | .resetPinRelease => .next (effect c s)
      | .drop place => if 1 ≤ place ∧ place ≤ 25 then s.event (effect c) else .fault (.noSuchInput place)
      | .binClear bin => if 1 ≤ bin ∧ bin ≤ 24 then s.event (effect c) else .fault (.noSuchInput bin)
      | _ => s.event (effect c) := by
  cases c <;> rfl

/-- Out of reset a well-formed command has its effect. -/
theorem exec_of_not_inReset {c : Instr} {s : State} (wellFormed : c.wellFormed = true) (out : s.inReset = false) :
    exec c s = .next (effect c s) := by
  have acts := State.event_of_not_inReset (f := effect c) out
  cases c
  case drop place => simpa [exec_eq, acts, Instr.wellFormed, wellFormedPlace] using wellFormed
  case binClear bin => simpa [exec_eq, acts, Instr.wellFormed] using wellFormed
  all_goals first | rfl | exact acts

/-- A command that ends in a next state has had its effect, or nothing at all. -/
theorem exec_next {c : Instr} {s t : State} (h : exec c s = .next t) : t = s ∨ t = effect c s := by
  have event (h : s.event (effect c) = .next t) : t = s ∨ t = effect c s := by
    simp only [State.event, Host.Outcome.next.injEq] at h
    split at h <;> simp [h]
  rw [exec_eq] at h
  split at h
  case h_1 | h_2 => exact .inr (Host.Outcome.next.inj h).symm
  case h_3 | h_4 =>
    split at h
    · exact event h
    · cases h
  case h_5 => exact event h

/-! ### What every step keeps -/

/-- What every command, another queue of commands and one microsecond keep, every step keeps. -/
theorem step_preserves {P : State → Prop} (queue : ∀ s pending, P s → P { s with pending := pending })
    (tick : ∀ s pins, P s → P (s.tickWith pins)) (command : ∀ c s, P s → P (effect c s)) {s t : State} (h : P s)
    (stepped : step s = .next t) : P t := by
  unfold step at stepped
  split at stepped
  case h_1 c rest _ =>
    rcases exec_next stepped with rfl | rfl
    · exact queue s rest h
    · exact command c _ (queue s rest h)
  case h_2 =>
    obtain rfl := Host.Outcome.next.inj stepped
    unfold State.idle
    split
    · exact h
    · split
      · exact queue s _ h
      · exact tick s _ h

/-- Out of STAGED the reader has turned to READING. -/
theorem State.toReading_mode {s : State} (h : s.reader.mode ≠ .staged) : s.toReading.reader.mode = .reading := by
  unfold State.toReading State.endStreamImplicit State.endStreamShort State.enterReading
  cases hm : s.reader.mode <;> simp_all

/-- How a command for the Print Store keeps a property: the reader's turn to READING keeps it, and then the act does. -/
theorem State.onSequenced_preserves {P : State → Prop} {kind : InKind} {act : InFrame → State → State}
    (reading : ∀ s, s.reader.mode ≠ .staged → P s → P s.toReading)
    (acts : ∀ f s, s.reader.mode = .reading → P s → P (act f s)) {s : State} (h : P s) : P (s.onSequenced kind act) := by
  unfold State.onSequenced
  split
  · split
    · rename_i front
      exact acts _ _ (State.toReading_mode front.2) (reading s front.2 h)
    · exact h
  · exact h

theorem State.onImmediate_preserves {P : State → Prop} {kind : InKind} {act : InFrame → State → State}
    (acts : ∀ f s, P s → P (act f s)) {s : State} (h : P s) : P (s.onImmediate kind act) := by
  unfold State.onImmediate
  repeat' split
  · exact acts _ _ h
  all_goals exact h

end Sys2Proof.Machine
end

section
/-!
PROOFS. The credit of the two groups (section 10.2): every command but the two resets keeps the total of each, and the resets grant it
whole again.
-/

namespace Sys2Proof.Machine

/-- For each group the available credit, the frames held and the returned credit, added up. -/
def State.creditTotals (s : State) : Nat × Nat :=
  (s.link.availableStream + s.store.length + s.link.returnedStream,
    s.link.availableCommand + s.commands.length + s.link.returnedCommand)

theorem creditConserved_iff (s : State) : CreditConserved s ↔ s.creditTotals = (48, 16) := by
  simp [CreditConserved, State.creditTotals]

/-! ### The stores and the transmitter -/

/-- The front leaves its place to the credit that its removal returns. -/
@[simp] theorem State.removeSequenced_credit (s : State) : s.removeSequenced.creditTotals = s.creditTotals := by
  cases h : s.store with
  | nil => simp [State.removeSequenced, h]
  | cons f rest => simp [State.removeSequenced_cons h, State.creditTotals, h]; omega

@[simp] theorem State.removeImmediate_credit (s : State) : s.removeImmediate.creditTotals = s.creditTotals := by
  cases h : s.commands with
  | nil => simp [State.removeImmediate, h]
  | cons f rest => simp [State.removeImmediate_cons h, State.creditTotals, h]; omega

@[simp] theorem State.queueFrame_credit (f : OutFrame) (s : State) : (s.queueFrame f).creditTotals = s.creditTotals := by
  simp [State.creditTotals]

@[simp] theorem State.answer_credit (f : InFrame) (r : StatusResult) (s : State) :
    (s.answer f r).creditTotals = s.creditTotals := by simp [State.creditTotals]

@[simp] theorem State.report_credit (k : OutKind) (p : List Byte) (s : State) :
    (s.report k p).creditTotals = s.creditTotals := by simp [State.creditTotals]

@[simp] theorem State.raise_credit (c : Cause) (s : State) : (s.raise c).creditTotals = s.creditTotals := by
  simp [State.creditTotals]

@[simp] theorem State.bump_credit (c : Counter) (s : State) : (s.bump c).creditTotals = s.creditTotals := rfl

@[simp] theorem State.sendCredit_credit (s : State) : s.sendCredit.creditTotals = s.creditTotals := by
  unfold State.sendCredit State.creditTotals
  split
  · simp [State.beginFrame]; omega
  · rfl

@[simp] theorem State.transmit_credit (s : State) : s.transmit.creditTotals = s.creditTotals := by
  simp [State.creditTotals]

/-! ### The receiver -/

/-- A credit that is used and returned at once stays in its group's total. -/
theorem State.spendCredit_credit {k : InKind} {s : State} (h : 1 ≤ s.available k) :
    ((s.useCredit k).returnCredit k).creditTotals = s.creditTotals := by
  unfold State.available at h
  unfold State.useCredit State.returnCredit State.creditTotals
  split at h <;> simp_all <;> omega

/-- A stored frame takes the place of the credit that it costs. -/
theorem State.admitFrame_credit (f : InFrame) (s : State) : (s.admitFrame f).creditTotals = s.creditTotals := by
  unfold State.admitFrame
  split
  · rename_i h
    unfold State.available at h
    unfold State.useCredit State.creditTotals
    cases hk : f.kind.sequenced <;> simp [hk] at h ⊢ <;> omega
  · simp

/-! ### How a command comes to act -/

/-- A command for the Print Store keeps the totals when its act does. -/
theorem State.onSequenced_credit {kind : InKind} {act : InFrame → State → State}
    (acts : ∀ f s, (act f s).creditTotals = s.creditTotals) (s : State) :
    (s.onSequenced kind act).creditTotals = s.creditTotals :=
  State.onSequenced_preserves (P := fun u => u.creditTotals = s.creditTotals)
    (fun u _ h => h ▸ by simp [State.creditTotals]) (fun f u _ h => (acts f u).trans h) rfl

theorem State.onImmediate_credit {kind : InKind} {act : InFrame → State → State}
    (acts : ∀ f s, (act f s).creditTotals = s.creditTotals) (s : State) :
    (s.onImmediate kind act).creditTotals = s.creditTotals :=
  State.onImmediate_preserves (P := fun u => u.creditTotals = s.creditTotals) (fun f u h => (acts f u).trans h) rfl

theorem credit_congr {s t : State} (link : t.link = s.link) (store : t.store = s.store) (commands : t.commands = s.commands) :
    t.creditTotals = s.creditTotals := by simp [State.creditTotals, link, store, commands]

end Sys2Proof.Machine
end

section
/-!
PROOFS. The inert commands: those that touch nothing of which the invariants speak, the totals of the credit and the bound of the
outbound queue aside. (Loads, queries, the receiver, the transmitter, clears of the tray, and the release of the pin.)
-/

namespace Sys2Proof.Machine

/-- Between the two states nothing has changed of which the invariants speak, and the outbound queue has kept its bound. -/
structure Inert (s t : State) : Prop where
  credit : t.creditTotals = s.creditTotals
  outbound : s.link.outbound.length ≤ 64 → t.link.outbound.length ≤ 64
  reader : t.reader = s.reader
  path : t.path = s.path
  cutter : t.cutter = s.cutter
  orders : t.orders = s.orders
  belt : t.sorter.queue = s.sorter.queue
  engine : t.price.engine = s.price.engine
  pricingQueue : t.price.queue = s.price.queue

namespace Inert

protected theorem refl (s : State) : Inert s s := ⟨rfl, id, rfl, rfl, rfl, rfl, rfl, rfl, rfl⟩

protected theorem trans {s t u : State} (h : Inert s t) (k : Inert t u) : Inert s u :=
  ⟨k.credit.trans h.credit, k.outbound ∘ h.outbound, k.reader.trans h.reader, k.path.trans h.path, k.cutter.trans h.cutter,
    k.orders.trans h.orders, k.belt.trans h.belt, k.engine.trans h.engine, k.pricingQueue.trans h.pricingQueue⟩

/-! ### Frames that are queued and frames that are removed -/

theorem queueFrame (f : OutFrame) (s : State) : Inert s (s.queueFrame f) := by
  refine ⟨by simp, fun bound => ?_, by simp, by simp, by simp, by simp, by simp, by simp, by simp⟩
  unfold State.queueFrame
  split
  · simp; omega
  · exact bound

theorem answer (f : InFrame) (r : StatusResult) (s : State) : Inert s (s.answer f r) := queueFrame _ s

theorem answered {s t : State} (h : Inert s t) (f : InFrame) (r : StatusResult) : Inert s (t.answer f r) :=
  h.trans (answer ..)

theorem report (k : OutKind) (p : List Byte) (s : State) : Inert s (s.report k p) :=
  (show Inert s { s with freeTags := s.freeTags + 1 } from ⟨rfl, id, rfl, rfl, rfl, rfl, rfl, rfl, rfl⟩).trans
    (queueFrame _ _)

theorem setCause (c : Cause) (r : CauseRecord) (s : State) : Inert s (s.setCause c r) :=
  ⟨rfl, id, rfl, rfl, rfl, rfl, rfl, rfl, rfl⟩

theorem reportCause (c : Cause) (s : State) : Inert s (s.reportCause c) := by
  unfold State.reportCause
  dsimp only
  split
  · exact (setCause ..).trans (report ..)
  · exact .refl s

theorem raise (c : Cause) (s : State) : Inert s (s.raise c) := (setCause c _ s).trans (reportCause ..)

theorem bump (c : Counter) (s : State) : Inert s (s.bump c) := ⟨rfl, id, rfl, rfl, rfl, rfl, rfl, rfl, rfl⟩

theorem removeSequenced (s : State) : Inert s s.removeSequenced :=
  ⟨by simp, by simp, by simp, by simp, by simp, by simp, by simp, by simp, by simp⟩

theorem removeImmediate (s : State) : Inert s s.removeImmediate :=
  ⟨by simp, by simp, by simp, by simp, by simp, by simp, by simp, by simp, by simp⟩

/-- Inert changes one after another. -/
theorem foldl {α : Type} {f : State → α → State} (inert : ∀ s a, Inert s (f s a)) (l : List α) (s : State) :
    Inert s (l.foldl f s) := by
  induction l generalizing s with
  | nil => exact .refl s
  | cons a l ih => exact (inert s a).trans (ih _)

/-! ### How a command comes to act -/

theorem onImmediate {kind : InKind} {act : InFrame → State → State} (acts : ∀ f s, Inert s (act f s)) (s : State) :
    Inert s (s.onImmediate kind act) :=
  State.onImmediate_preserves (P := Inert s) (fun f u h => h.trans (acts f u)) (.refl s)

theorem whenEngineIdle {act : InFrame → State → State} (acts : ∀ f s, Inert s (act f s)) (f : InFrame) (s : State) :
    Inert s (s.whenEngineIdle act f) := by
  unfold State.whenEngineIdle
  split
  · exact acts f s
  · exact .refl s

theorem refuseQuery (f : InFrame) (r : StatusResult) (s : State) : Inert s (s.refuseQuery f r) :=
  (answer f r s).trans (removeImmediate _)

theorem replyQuery (f : InFrame) (l : List Byte) (s : State) : Inert s (s.replyQuery f l) :=
  ((queueFrame _ s).trans (answer f .accepted _)).trans (removeImmediate _)

theorem onQuery {code length : Nat} {act : InFrame → State → State} (acts : ∀ f s, Inert s (act f s)) (s : State) :
    Inert s (s.onQuery code (State.ofLength length act)) := by
  refine onImmediate (fun f s => ?_) s
  unfold State.ofLength
  dsimp only
  repeat' split
  · exact refuseQuery ..
  · exact acts f s
  · exact refuseQuery ..
  · exact .refl s

/-! ### The receiver and the transmitter -/

theorem setReceiver (r : Receiver) (s : State) : Inert s (s.setReceiver r) := ⟨rfl, id, rfl, rfl, rfl, rfl, rfl, rfl, rfl⟩

theorem spendCredit {k : InKind} {s : State} (h : 1 ≤ s.available k) : Inert s ((s.useCredit k).returnCredit k) :=
  ⟨State.spendCredit_credit h, by simp, by simp, by simp, by simp, by simp, by simp, by simp, by simp⟩

theorem failFrame (k : Byte) (s : State) : Inert s (s.failFrame k) := by
  have counted : Inert s ((s.raise .linkCheck).bump .linkCheck) := (raise ..).trans (bump ..)
  unfold State.failFrame
  dsimp only
  repeat' split
  · exact counted.trans (spendCredit ‹_›)
  all_goals exact counted

theorem admitFrame (f : InFrame) (s : State) : Inert s (s.admitFrame f) := by
  refine ⟨State.admitFrame_credit f s, fun bound => ?_, by simp, by simp, by simp, by simp, by simp, by simp, by simp⟩
  unfold State.admitFrame
  split
  · split <;> simpa using bound
  · exact (raise ..).outbound bound

theorem judgeFrame (k t : Byte) (n : Nat) (l : List Byte) (s : State) : Inert s (s.judgeFrame k t n l) := by
  unfold State.judgeFrame
  dsimp only
  repeat' split
  · exact admitFrame ..
  all_goals exact failFrame ..

theorem receiveByte (b : Byte) (s : State) : Inert s (s.receiveByte b) := by
  unfold State.receiveByte State.takeHeader
  dsimp only
  repeat' split
  · exact setReceiver ..
  · exact .refl s
  · exact setReceiver ..
  · exact (setReceiver ..).trans (failFrame ..)
  · exact setReceiver ..
  · exact setReceiver ..
  · exact (setReceiver ..).trans (judgeFrame ..)

theorem receive (bytes : List Byte) (s : State) : Inert s (s.receive bytes) := by
  unfold State.receive
  split
  · exact .refl s
  · exact foldl (fun s b => receiveByte b s) bytes s

theorem sendCredit (s : State) : Inert s s.sendCredit :=
  ⟨by simp, by simp, by simp, by simp, by simp, by simp, by simp, by simp, by simp⟩

theorem transmit (s : State) : Inert s s.transmit := by
  refine ⟨by simp, fun bound => ?_, by simp, by simp, by simp, by simp, by simp, by simp, by simp⟩
  unfold State.transmit
  dsimp only
  split
  · exact bound
  · rename_i f rest h
    have shorter : rest.length ≤ 64 := by simp [h] at bound; omega
    repeat' split
    · exact bound
    · exact (raise ..).outbound (by simpa using shorter)
    · simpa using shorter

/-! ### Loads and queries -/

theorem takeMonitorLoad (f : InFrame) (s : State) : Inert s (s.takeMonitorLoad f) := by
  refine .trans ?_ (removeImmediate _)
  split
  · exact answer ..
  · refine answered ?_ _ _
    exact ⟨rfl, id, rfl, rfl, rfl, rfl, rfl, rfl, rfl⟩

theorem takeSortmapLoad (f : InFrame) (s : State) : Inert s (s.takeSortmapLoad f) := by
  refine .trans ?_ (removeImmediate _)
  split
  · exact answer ..
  · split
    · exact answer ..
    · refine answered ?_ _ _
      exact ⟨rfl, id, rfl, rfl, rfl, rfl, rfl, rfl, rfl⟩

theorem takePriceLoad (f : InFrame) (s : State) : Inert s (s.takePriceLoad f) := by
  refine .trans ?_ (removeImmediate _)
  split
  · exact answer ..
  · refine answered ?_ _ _
    exact ⟨rfl, id, rfl, rfl, rfl, rfl, rfl, rfl, rfl⟩

theorem takePromoLoad (f : InFrame) (s : State) : Inert s (s.takePromoLoad f) := by
  refine .trans ?_ (removeImmediate _)
  split
  · exact answer ..
  · refine answered ?_ _ _
    exact ⟨rfl, id, rfl, rfl, rfl, rfl, rfl, rfl, rfl⟩

theorem takeWaitingLoad (s : State) : Inert s s.takeWaitingLoad := by
  unfold State.takeWaitingLoad
  repeat' split
  · exact takePriceLoad ..
  · exact takePromoLoad ..
  all_goals exact .refl s

theorem takeBinRelease (f : InFrame) (s : State) : Inert s (s.takeBinRelease f) := by
  have bins (n : Nat) : Inert s (s.updateBin n Bin.released) :=
    ⟨credit_congr (by simp) (by simp) (by simp), by simp, by simp, by simp, by simp, by simp, by simp, by simp, by simp⟩
  refine .trans ?_ (removeImmediate _)
  repeat' split
  · exact (bins _).trans (answer ..)
  all_goals exact answer ..

theorem clearCause (c : Cause) (s : State) : Inert s (s.clearCause c) := setCause ..

theorem armChannel (c : Cause) (s : State) : Inert s (s.armChannel c) := by
  unfold State.armChannel
  split
  · exact ⟨rfl, id, rfl, rfl, rfl, rfl, rfl, rfl, rfl⟩
  · exact .refl s

theorem takeAlertClear (f : InFrame) (s : State) : Inert s (s.takeAlertClear f) := by
  refine .trans ?_ (removeImmediate _)
  split
  · exact answer ..
  · refine ((foldl (fun u c => (clearCause c u).trans (armChannel ..)) _ s).trans (answer ..)).trans
      (foldl (fun u c => ?_) _ _)
    split
    · exact raise ..
    · exact .refl u

theorem takeAlertEnable (f : InFrame) (s : State) : Inert s (s.takeAlertEnable f) := by
  have enables (l : List Bool) : Inert s (s.setEnables l) := ⟨rfl, id, rfl, rfl, rfl, rfl, rfl, rfl, rfl⟩
  refine .trans ?_ (removeImmediate _)
  split
  · exact answer ..
  · exact ((enables _).trans (answer ..)).trans (foldl (fun u c => reportCause c u) _ _)

theorem takeQueryOrder (f : InFrame) (s : State) : Inert s (s.takeQueryOrder f) := by
  unfold State.takeQueryOrder
  dsimp only
  repeat' split
  · exact refuseQuery ..
  · exact replyQuery ..
  · exact refuseQuery ..

theorem takeQueryBin (f : InFrame) (s : State) : Inert s (s.takeQueryBin f) := by
  unfold State.takeQueryBin
  split
  · exact replyQuery ..
  · exact refuseQuery ..

theorem takeQueryPath (f : InFrame) (s : State) : Inert s (s.takeQueryPath f) := by
  unfold State.takeQueryPath
  dsimp only
  split
  · exact replyQuery ..
  · exact refuseQuery ..

theorem takeQueryTable (f : InFrame) (s : State) : Inert s (s.takeQueryTable f) := by
  unfold State.takeQueryTable
  dsimp only
  repeat' split
  · exact refuseQuery ..
  · exact replyQuery ..
  · exact refuseQuery ..

theorem takeQueryCounters (f : InFrame) (s : State) : Inert s (s.takeQueryCounters f) := by
  unfold State.takeQueryCounters
  split
  · exact refuseQuery ..
  · refine .trans ?_ (replyQuery ..)
    split
    · exact ⟨rfl, id, rfl, rfl, rfl, rfl, rfl, rfl, rfl⟩
    · exact .refl s

/-- The four loads of the exposure tables and the PAPER LOAD change the Exposure Unit's tables alone. -/
theorem exposureTables (e : ExposureUnit) (f : InFrame) (r : StatusResult) (s : State) :
    Inert s (State.answer f r { s with exposure := e }) := by
  refine answered ?_ _ _
  exact ⟨rfl, id, rfl, rfl, rfl, rfl, rfl, rfl, rfl⟩

theorem takePaperLoad (f : InFrame) (s : State) : Inert s (s.takePaperLoad f) := by
  refine .trans ?_ (removeSequenced _)
  repeat' split
  · exact answer ..
  · exact exposureTables ..
  all_goals exact answer ..

theorem takeProfileLoad (f : InFrame) (s : State) : Inert s (s.takeProfileLoad f) := by
  refine .trans ?_ (removeSequenced _)
  split
  · exact exposureTables ..
  · exact answer ..

theorem takeLutLoad (f : InFrame) (s : State) : Inert s (s.takeLutLoad f) := by
  refine .trans ?_ (removeSequenced _)
  split
  · exact exposureTables ..
  · exact answer ..

theorem takeThermalLoad (f : InFrame) (s : State) : Inert s (s.takeThermalLoad f) := by
  refine .trans ?_ (removeSequenced _)
  split
  · exact exposureTables ..
  · exact answer ..

theorem takeSizeLoad (f : InFrame) (s : State) : Inert s (s.takeSizeLoad f) := by
  refine .trans ?_ (removeSequenced _)
  split
  · exact exposureTables ..
  · exact answer ..

theorem unlessExposing {act : InFrame → State → State} (acts : ∀ f s, Inert s (act f s)) (f : InFrame) (s : State) :
    Inert s (s.unlessExposing act f) := by
  unfold State.unlessExposing
  split
  · exact .refl s
  · exact acts f s

/-! ### The clock -/

/-- One microsecond touches the clock, the samplers and the pulse outputs. -/
theorem tickWith (pins : Pins) (s : State) : Inert s (s.tickWith pins) := by
  unfold State.tickWith State.watchLine State.sampleStops State.sampleSorter State.advanceClock
  dsimp only
  repeat' split
  all_goals exact ⟨rfl, id, rfl, rfl, rfl, rfl, rfl, rfl, rfl⟩

end Inert

/-- The commands that are inert whatever the state. -/
def inertCommand : Instr → Bool
  | .resetPinRelease | .frameArrival _ | .credit | .frameTransmit | .binRelease | .alertClear | .alertEnable => true
  | .monitorLoad | .sortmapLoad | .priceLoad | .promoLoad | .queryOrder | .queryBin | .queryPath | .queryMonitor => true
  | .queryRun | .queryTable | .queryCounters | .queryAlerts | .trayClear | .lengthOverLimit .. => true
  | .lineReturnsToMarking => true
  | _ => false

theorem effect_inert {c : Instr} (inert : inertCommand c = true) (s : State) : Inert s (effect c s) := by
  cases c
  case resetPinRelease =>
    show Inert s (if s.inReset then s.leaveReset else s)
    split
    · exact ⟨rfl, id, rfl, rfl, rfl, rfl, rfl, rfl, rfl⟩
    · exact .refl s
  case lineReturnsToMarking =>
    show Inert s (if s.link.breakHeld then s.resumeLine else s)
    split
    · exact ⟨rfl, id, rfl, rfl, rfl, rfl, rfl, rfl, rfl⟩
    · exact .refl s
  case frameArrival bytes => exact .receive bytes s
  case lengthOverLimit => exact .receive _ s
  case credit => exact .sendCredit s
  case frameTransmit => exact .transmit s
  case trayClear => exact ⟨rfl, id, rfl, rfl, rfl, rfl, rfl, rfl, rfl⟩
  case binRelease => exact .onImmediate .takeBinRelease s
  case alertClear => exact .onImmediate .takeAlertClear s
  case alertEnable => exact .onImmediate .takeAlertEnable s
  case monitorLoad => exact .onImmediate .takeMonitorLoad s
  case sortmapLoad => exact .onImmediate .takeSortmapLoad s
  case priceLoad => exact .onImmediate (.whenEngineIdle .takePriceLoad) s
  case promoLoad => exact .onImmediate (.whenEngineIdle .takePromoLoad) s
  case queryOrder => exact .onQuery .takeQueryOrder s
  case queryBin => exact .onQuery .takeQueryBin s
  case queryPath => exact .onQuery .takeQueryPath s
  case queryMonitor => exact .onQuery (fun f s => .replyQuery f _ s) s
  case queryRun => exact .onQuery (fun f s => .replyQuery f _ s) s
  case queryTable => exact .onQuery .takeQueryTable s
  case queryCounters => exact .onQuery .takeQueryCounters s
  case queryAlerts => exact .onQuery (fun f s => .replyQuery f _ s) s
  all_goals cases inert

end Sys2Proof.Machine
end

section
/-!
PROOFS. Every step conserves the credit (section 10.2): the inert commands keep the totals by what they are, the others remove frames
from the fronts and touch the link's credit in no other way, and the two resets grant it whole.
-/

namespace Sys2Proof.Machine

/-! ### The Print Store's commands -/

theorem State.takeOrderOpen_credit (f : InFrame) (s : State) : (s.takeOrderOpen f).creditTotals = s.creditTotals := by
  rw [State.takeOrderOpen, State.removeSequenced_credit]
  split
  · exact State.answer_credit ..
  · exact (State.answer_credit ..).trans (credit_congr rfl rfl rfl)

theorem State.takeOrderClose_credit (f : InFrame) (s : State) : (s.takeOrderClose f).creditTotals = s.creditTotals := by
  rw [State.takeOrderClose, State.removeSequenced_credit]
  repeat' split
  all_goals simp [State.creditTotals]

theorem State.takePrintHeader_credit (f : InFrame) (s : State) : (s.takePrintHeader f).creditTotals = s.creditTotals := by
  have refused (h : Header) (reason : RefusalReason) : (s.refusePrint h reason).creditTotals = s.creditTotals := by
    rw [State.refusePrint, State.removeSequenced_credit]
    simp [State.creditTotals]
  unfold State.takePrintHeader
  dsimp only
  repeat' split
  · exact refused ..
  · exact refused ..
  · rw [State.acceptPrint, State.removeSequenced_credit]
    rfl
  · rfl

theorem State.takeRunparamLoad_credit (f : InFrame) (s : State) : (s.takeRunparamLoad f).creditTotals = s.creditTotals := by
  rw [State.takeRunparamLoad, State.removeSequenced_credit]
  repeat' split
  all_goals simp [State.creditTotals, State.applyRunParams]

theorem State.takeLine_credit (s : State) : s.takeLine.creditTotals = s.creditTotals := by
  unfold State.takeLine State.takeOutOfPlace
  repeat' split
  all_goals simp
  simp [State.creditTotals]

theorem State.takePrintEnd_credit (s : State) : s.takePrintEnd.creditTotals = s.creditTotals := by
  unfold State.takePrintEnd State.takeOutOfPlace
  repeat' split
  all_goals simp
  all_goals simp [State.creditTotals]

/-! ### The Command Queue's commands -/

theorem State.takeRunStart_credit (f : InFrame) (s : State) : (s.takeRunStart f).creditTotals = s.creditTotals := by
  have accepted : s.acceptRunStart.creditTotals = s.creditTotals := by
    unfold State.acceptRunStart
    split <;> rfl
  rw [State.takeRunStart, State.removeImmediate_credit]
  repeat' split
  all_goals simp [accepted]

theorem State.takeRunEnd_credit (f : InFrame) (s : State) : (s.takeRunEnd f).creditTotals = s.creditTotals := by
  have accepted : s.acceptRunEnd.creditTotals = s.creditTotals := by
    unfold State.acceptRunEnd
    split <;> rfl
  rw [State.takeRunEnd, State.removeImmediate_credit]
  split <;> simp [accepted]

theorem State.abortSegments_credit (s : State) : s.abortSegments.creditTotals = s.creditTotals := by
  have one (i : Nat) (u : State) : (u.abortSegment i).creditTotals = u.creditTotals := by
    unfold State.abortSegment
    repeat' split
    all_goals simp [State.creditTotals]
  have all (l : List Nat) (u : State) : (l.foldl (fun u i => u.abortSegment i) u).creditTotals = u.creditTotals := by
    induction l generalizing u with
    | nil => rfl
    | cons i l ih => exact (ih _).trans (one i u)
  exact all _ s

theorem State.abortRun_credit (s : State) : s.abortRun.creditTotals = s.creditTotals := by
  have cutter (u : State) : u.purgePath.resetCutter.creditTotals = u.creditTotals := rfl
  have path (u : State) (p : PathUnit) : ({ u with path := p } : State).creditTotals = u.creditTotals := rfl
  have discard (r : RejectReason) (m : ReaderMode) (u : State) : (u.discardStaged r m).creditTotals = u.creditTotals := by
    simp [State.creditTotals]
  have awaiting (u : State) : u.abortAwaiting.creditTotals = u.creditTotals := by
    unfold State.abortAwaiting
    split <;> rfl
  have stop (u : State) : u.stopStepping.creditTotals = u.creditTotals := by simp [State.creditTotals]
  rw [State.abortRun, cutter, path, discard, State.abortSegments_credit, stop, awaiting]
  simp [State.creditTotals]

theorem State.takeRunAbort_credit (f : InFrame) (s : State) : (s.takeRunAbort f).creditTotals = s.creditTotals := by
  rw [State.takeRunAbort, State.removeImmediate_credit]
  repeat' split
  all_goals simp [State.abortRun_credit]

theorem State.takeOrderCancel_credit (f : InFrame) (s : State) : (s.takeOrderCancel f).creditTotals = s.creditTotals := by
  rw [State.takeOrderCancel, State.removeImmediate_credit]
  repeat' split
  all_goals simp [State.creditTotals]

/-! ### The events -/

theorem State.nextLine_credit (p : PrintRecord) (x : LineSource) (s : State) :
    (s.nextLine p x).2.creditTotals = s.creditTotals := by
  have underrun : (s.underrun p).2.creditTotals = s.creditTotals := by simp [State.creditTotals]
  cases x
  case margin => rfl
  case cutOff => exact underrun
  case store =>
    unfold State.nextLine
    cases h : s.store with
    | nil => exact underrun
    | cons f rest => exact (State.removeSequenced_credit _).trans rfl

theorem State.issueStep_credit (sample : PunchSample) (s : State) : (s.issueStep sample).creditTotals = s.creditTotals := by
  have settled : s.settleFront.creditTotals = s.creditTotals := by
    unfold State.settleFront
    repeat' split
    all_goals first | rfl | simp
    all_goals rfl
  have advanced (u : State) : u.advanceWeb.creditTotals = u.creditTotals := rfl
  have counted (u : State) : u.countStep.creditTotals = u.creditTotals := by simp [State.creditTotals]
  have exposed (u : State) : u.exposeLine.creditTotals = u.creditTotals := by
    unfold State.exposeLine
    split
    · rename_i source p _ _
      exact (credit_congr (s := (u.nextLine p source).2) (by simp) (by simp) (by simp)).trans (State.nextLine_credit ..)
    · rfl
  have marked (u : State) : (u.markZoneEntry.cutterStep sample).creditTotals = u.creditTotals := by
    simp [State.creditTotals]
  rw [State.issueStep, marked, exposed, counted, advanced, settled]

theorem State.takeStep_credit (sample : PunchSample) (s : State) : (s.takeStep sample).creditTotals = s.creditTotals := by
  have due (u : State) : u.fallsDue.1.creditTotals = u.creditTotals := by simp [State.creditTotals]
  unfold State.takeStep
  dsimp only
  repeat' split
  · rw [State.issueStep_credit, due]; rfl
  · rw [due]; rfl
  · rfl

theorem State.takeCutDone_credit (s : State) : s.takeCutDone.creditTotals = s.creditTotals := by
  unfold State.takeCutDone State.completeCut
  repeat' split
  all_goals simp [State.creditTotals]

theorem State.completePricing_credit (s : State) : s.completePricing.creditTotals = s.creditTotals := by
  have take (u : State) : u.engineTake.creditTotals = u.creditTotals := by simp [State.creditTotals]
  have idle (u : State) (e : PriceEngine) : ({ u with price := e } : State).creditTotals = u.creditTotals := rfl
  unfold State.completePricing
  split
  · rfl
  · dsimp only
    rw [take, (Inert.takeWaitingLoad _).credit, idle]
    split
    · simp [State.creditTotals]
    · rfl

theorem State.giveUpCut_credit (s : State) : s.giveUpCut.creditTotals = s.creditTotals := by
  unfold State.giveUpCut
  split <;> simp [State.creditTotals]

theorem State.expireDwell_credit (s : State) : s.expireDwell.creditTotals = s.creditTotals := by
  unfold State.expireDwell
  split <;> simp [State.creditTotals]

theorem State.judgeChannel_credit (value : Int) (s : State) : (s.judgeChannel value).creditTotals = s.creditTotals := by
  simp [State.creditTotals]

theorem State.takeStopInput_credit (input : StopInput) (active : Bool) (s : State) :
    (s.takeStopInput input active).creditTotals = s.creditTotals := by
  unfold State.takeStopInput
  dsimp only
  repeat' split
  · rfl
  all_goals cases input <;> simp [State.creditTotals, State.setStopLevel]

theorem State.reachDeadline_credit (s : State) : s.reachDeadline.creditTotals = s.creditTotals := by
  unfold State.reachDeadline
  split <;> simp [State.creditTotals]

/-- Every command but the two that reset the link keeps the totals. -/
theorem effect_credit {c : Instr} (notFull : c ≠ .fullReset) (notLink : c ≠ .linkReset) (s : State) :
    (effect c s).creditTotals = s.creditTotals := by
  by_cases inert : inertCommand c = true
  · exact (effect_inert inert s).credit
  cases c
  case fullReset => exact absurd rfl notFull
  case linkReset => exact absurd rfl notLink
  case orderOpen => exact State.onSequenced_credit State.takeOrderOpen_credit s
  case orderClose => exact State.onSequenced_credit State.takeOrderClose_credit s
  case printHeader => exact State.onSequenced_credit State.takePrintHeader_credit s
  case line => exact State.takeLine_credit s
  case printEnd => exact State.takePrintEnd_credit s
  case paperLoad => exact State.onSequenced_credit (fun f s => (Inert.takePaperLoad f s).credit) s
  case profileLoad => exact State.onSequenced_credit (fun f s => (Inert.unlessExposing .takeProfileLoad f s).credit) s
  case lutLoad => exact State.onSequenced_credit (fun f s => (Inert.unlessExposing .takeLutLoad f s).credit) s
  case thermalLoad => exact State.onSequenced_credit (fun f s => (Inert.unlessExposing .takeThermalLoad f s).credit) s
  case sizeLoad => exact State.onSequenced_credit (fun f s => (Inert.unlessExposing .takeSizeLoad f s).credit) s
  case runparamLoad => exact State.onSequenced_credit State.takeRunparamLoad_credit s
  case runStart => exact State.onImmediate_credit State.takeRunStart_credit s
  case runEnd => exact State.onImmediate_credit State.takeRunEnd_credit s
  case runAbort => exact State.onImmediate_credit State.takeRunAbort_credit s
  case orderCancel => exact State.onImmediate_credit State.takeOrderCancel_credit s
  case step sample => exact State.takeStep_credit sample s
  case cutDone => exact State.takeCutDone_credit s
  case pricingComplete => exact State.completePricing_credit s
  case cutTimeout => exact State.giveUpCut_credit s
  case dwellExpiry => exact State.expireDwell_credit s
  case conversion value =>
    exact (show (State.nextConversion _).creditTotals = _ from rfl).trans (State.judgeChannel_credit value _)
  case estopJamInput input active => exact State.takeStopInput_credit input active s
  case drop => simp [effect, State.creditTotals]
  case deliveryDeadline => exact State.reachDeadline_credit s
  case binClear => simp [effect, State.creditTotals]
  all_goals exact absurd rfl inert

/-- Settles O54: the totals of the two groups are kept by every command but the two that reset the link (`effect_credit`), and
those two leave 48 and 16. -/
theorem stepConservesCredit : Obligations.StepConservesCredit := by
  intro s t h
  refine step_preserves (fun s _ h => h) (fun s pins h => ?_) (fun c s h => ?_) h
  · exact (creditConserved_iff _).2 ((Inert.tickWith pins s).credit.trans ((creditConserved_iff s).1 h))
  · by_cases full : c = .fullReset
    · subst full; exact ⟨rfl, rfl⟩
    by_cases link : c = .linkReset
    · subst link
      simp [CreditConserved, effect, State.resetLink]
    exact (creditConserved_iff _).2 ((effect_credit full link s).trans ((creditConserved_iff s).1 h))

end Sys2Proof.Machine
end

section
/-!
PROOFS. The calm changes: those that leave the web, the run, the belt, the cutter's list and the engine as they were, up to flags, notes
and leading-boundary states, and keep the bound of the outbound queue. (Rejections, the end of an order, the marks of damage, the
exposure of a line, and most commands.)
-/

namespace Sys2Proof.Machine

/-! ### A segment record without its marks -/

/-- What of a segment record the invariants speak of: kind, start, length and the order of its print. -/
def Segment.gist (g : Segment) : SegmentKind × Int × Nat × Option Nat :=
  (g.kind, g.start, g.length, g.print.map PrintRecord.order)

/-- The path queue without the marks of its records. -/
def State.pathGist (s : State) : List (SegmentKind × Int × Nat × Option Nat) := s.path.queue.map Segment.gist

/-- The orders of the prints on the belt, oldest first. -/
def State.beltOrders (s : State) : List Nat := s.sorter.queue.map fun e => e.print.order

theorem Segment.cancelOf_gist (n : Nat) (g : Segment) : (g.cancelOf n).gist = g.gist := by
  unfold Segment.cancelOf
  repeat' split
  all_goals rfl

/-- A change of the print record that keeps its order keeps the record's gist. -/
theorem Segment.mapPrint_gist {f : PrintRecord → PrintRecord} (h : ∀ p, (f p).order = p.order) (g : Segment) :
    ({ g with print := g.print.map f } : Segment).gist = g.gist := by
  cases hp : g.print <;> simp [Segment.gist, hp, h]

/-! ### Calm changes -/

/-- Between the two states nothing has happened to the web, the run, the belt, the cuts and the engine. -/
structure Calm (s t : State) : Prop where
  outbound : s.link.outbound.length ≤ 64 → t.link.outbound.length ≤ 64
  position : t.path.position = s.path.position
  pathGist : t.pathGist = s.pathGist
  run : t.path.run = s.path.run
  haltCause : t.path.haltCause = s.path.haltCause
  drainCause : t.path.drainCause = s.path.drainCause
  dwell : t.path.dwell = s.path.dwell
  belt : t.beltOrders = s.beltOrders
  slots : t.orders.length = s.orders.length
  delta : t.cutter.delta = s.cutter.delta
  cutList : t.cutter.cutList = s.cutter.cutList
  progress : t.cutter.progress = s.cutter.progress
  engine : t.price.engine = s.price.engine
  pricingQueue : t.price.queue = s.price.queue

theorem Inert.calm {s t : State} (h : Inert s t) : Calm s t := by
  obtain ⟨-, outbound, -, path, cutter, orders, belt, engine, pricingQueue⟩ := h
  refine ⟨outbound, ?_, ?_, ?_, ?_, ?_, ?_, ?_, ?_, ?_, ?_, ?_, engine, pricingQueue⟩
  all_goals simp [State.pathGist, State.beltOrders, path, cutter, orders, belt]

namespace Calm

protected theorem refl (s : State) : Calm s s := (Inert.refl s).calm

protected theorem trans {s t u : State} (h : Calm s t) (k : Calm t u) : Calm s u where
  outbound := k.outbound ∘ h.outbound
  position := k.position.trans h.position
  pathGist := k.pathGist.trans h.pathGist
  run := k.run.trans h.run
  haltCause := k.haltCause.trans h.haltCause
  drainCause := k.drainCause.trans h.drainCause
  dwell := k.dwell.trans h.dwell
  belt := k.belt.trans h.belt
  slots := k.slots.trans h.slots
  delta := k.delta.trans h.delta
  cutList := k.cutList.trans h.cutList
  progress := k.progress.trans h.progress
  engine := k.engine.trans h.engine
  pricingQueue := k.pricingQueue.trans h.pricingQueue

theorem inert {s t u : State} (h : Calm s t) (k : Inert t u) : Calm s u := h.trans k.calm

/-! ### Plain updates -/

theorem updateOrder (n : Nat) (f : Order → Order) (s : State) : Calm s (s.updateOrder n f) :=
  ⟨id, rfl, rfl, rfl, rfl, rfl, rfl, rfl, by simp, rfl, rfl, rfl, rfl, rfl⟩

theorem setOrder (slot : Nat) (o : Option Order) (s : State) : Calm s { s with orders := s.orders.set slot o } :=
  ⟨id, rfl, rfl, rfl, rfl, rfl, rfl, rfl, by simp, rfl, rfl, rfl, rfl, rfl⟩

theorem mapBins (f : Bin → Bin) (s : State) : Calm s (s.mapBins f) :=
  ⟨id, rfl, rfl, rfl, rfl, rfl, rfl, rfl, rfl, rfl, rfl, rfl, rfl, rfl⟩

theorem updateBin (n : Nat) (f : Bin → Bin) (s : State) : Calm s (s.updateBin n f) := by
  unfold State.updateBin
  split
  · exact .refl s
  · exact ⟨id, rfl, rfl, rfl, rfl, rfl, rfl, rfl, rfl, rfl, rfl, rfl, rfl, rfl⟩

theorem withReader (r : Reader) (s : State) : Calm s { s with reader := r } :=
  ⟨id, rfl, rfl, rfl, rfl, rfl, rfl, rfl, rfl, rfl, rfl, rfl, rfl, rfl⟩

theorem withExposure (e : ExposureUnit) (s : State) : Calm s { s with exposure := e } :=
  ⟨id, rfl, rfl, rfl, rfl, rfl, rfl, rfl, rfl, rfl, rfl, rfl, rfl, rfl⟩

theorem withTray (t : Tray) (s : State) : Calm s { s with sorter := { s.sorter with tray := t } } :=
  ⟨id, rfl, rfl, rfl, rfl, rfl, rfl, rfl, rfl, rfl, rfl, rfl, rfl, rfl⟩

theorem mapSegments {f : Segment → Segment} (h : ∀ g, (f g).gist = g.gist) (s : State) : Calm s (s.mapSegments f) :=
  ⟨id, rfl, by simp [State.pathGist, h], rfl, rfl, rfl, rfl, rfl, rfl, rfl, rfl, rfl, rfl, rfl⟩

theorem modifyHead {f : Segment → Segment} (h : ∀ g, (f g).gist = g.gist) (s : State) : Calm s (s.modifyHead f) :=
  ⟨id, rfl, by simp [State.pathGist, map_modifyLast _ f h], rfl, rfl, rfl, rfl, rfl, rfl, rfl, rfl, rfl, rfl, rfl⟩

/-! ### Orders that end, and rejections -/

theorem freeOrder (n : Nat) (s : State) : Calm s (s.freeOrder n) :=
  ⟨by simp, rfl, rfl, rfl, rfl, rfl, rfl, rfl, by simp [State.freeOrder], rfl, rfl, rfl, rfl, rfl⟩

theorem endIfDrained (n : Nat) (s : State) : Calm s (s.endIfDrained n) := by
  unfold State.endIfDrained
  repeat' split
  · exact .refl s
  · exact .refl s
  · exact (Inert.report _ _ s).calm.trans (freeOrder ..)
  · exact .refl s

theorem reportDiscard (p : PrintRecord) (r : RejectReason) (s : State) : Inert s (s.reportDiscard p r) :=
  (Inert.report ..).trans (Inert.bump ..)

theorem discardStagedOf (n : Nat) (s : State) : Calm s (s.discardStagedOf n) := by
  unfold State.discardStagedOf
  repeat' split
  · exact .refl s
  · exact ((withReader _ s).inert (reportDiscard ..)).trans (updateOrder ..)
  · exact .refl s

theorem windDown (n : Nat) (next : OrderState) (s : State) : Calm s (s.windDown n next) :=
  ((((updateOrder ..).trans (discardStagedOf ..)).trans (mapSegments (Segment.cancelOf_gist n) _)).trans
    (mapBins ..)).trans (endIfDrained ..)

theorem reject (order index attempt : Nat) (s : State) : Calm s (s.reject order index attempt) := by
  have flight := updateOrder order Order.leaveFlight s
  unfold State.reject
  dsimp only
  repeat' split
  · exact .refl s
  · exact (flight.trans (updateOrder ..)).inert (Inert.report ..)
  · exact (flight.inert (Inert.raise ..)).trans (windDown ..)
  · exact (flight.trans (updateOrder ..)).inert (Inert.report ..)
  · exact (flight.inert (Inert.raise ..)).trans (windDown ..)
  · exact flight.trans (endIfDrained ..)
  · exact flight.trans (endIfDrained ..)
  · exact .refl s

theorem discardStaged (r : RejectReason) (m : ReaderMode) (s : State) : Calm s (s.discardStaged r m) := by
  unfold State.discardStaged
  split
  · exact .refl s
  · exact ((withReader _ s).inert (reportDiscard ..)).trans (reject ..)

theorem countReasons (l : List RejectReason) (s : State) : Inert s (s.countReasons l) :=
  Inert.foldl (fun u _ => Inert.bump _ u) l s

theorem rejectPrint (p : PrintRecord) (l : List RejectReason) (s : State) : Calm s (s.rejectPrint p l) :=
  ((Inert.report ..).trans (countReasons ..)).calm.trans (reject ..)

/-! ### Marks of the path's records -/

theorem stopStepping (s : State) : Calm s s.stopStepping :=
  (withExposure _ s).trans (modifyHead (f := Segment.cutShort) (fun _ => rfl) _)

theorem endExposure (s : State) : Calm s s.endExposure := by
  unfold State.endExposure
  split
  · exact (withReader _ s).trans (modifyHead (f := Segment.flagAborted) (fun _ => rfl) _)
  · exact .refl s

theorem setLead (start : Int) (lead : LeadState) (s : State) : Calm s (s.setLead start lead) :=
  mapSegments (fun g => by split <;> rfl) s

theorem flagAdjacent (position : Int) (s : State) : Calm s (s.mapAdjacent position Segment.flagMiscut) :=
  mapSegments (fun g => by split <;> rfl) s

theorem markLate (b : Boundary) (s : State) : Calm s (s.markLate b) := by
  unfold State.markLate
  split
  · exact (setLead ..).trans (flagAdjacent ..)
  · exact .refl s

theorem markZone {f : Segment → Segment} (h : ∀ g, (f g).gist = g.gist) (s : State) : Calm s (s.markZone f) :=
  mapSegments (fun g => by split <;> simp [h]) s

theorem markZoneEntry (s : State) : Calm s s.markZoneEntry := by
  unfold State.markZoneEntry
  split
  · exact mapSegments (fun g => by split <;> rfl) s
  · exact .refl s

theorem modifyPrint {f : PrintRecord → PrintRecord} (h : ∀ p, (f p).order = p.order) (s : State) :
    Calm s (s.modifyPrint f) := modifyHead (Segment.mapPrint_gist h) s

theorem noteHead (f : Notes → Notes) (s : State) : Calm s (s.noteHead f) :=
  modifyPrint (f := fun p => { p with notes := f p.notes }) (fun _ => rfl) s

/-! ### The reader -/

theorem endStreamShort (s : State) : Calm s s.endStreamShort :=
  ((noteHead ..).trans (modifyHead (f := fun g => { g with flags := { g.flags with short := true } }) (fun _ => rfl) _)).trans
    (withReader ..)

theorem endStreamImplicit (s : State) : Calm s s.endStreamImplicit := (noteHead ..).trans (endStreamShort _)

/-- The print whose end was awaited takes a note in the path or on the belt. -/
theorem noteAwaited (f : Notes → Notes) (s : State) : Calm s (s.noteAwaited f) := by
  unfold State.noteAwaited
  split
  · exact .refl s
  · refine (mapSegments (Segment.mapPrint_gist fun p => ?_) s).trans
      ⟨id, rfl, rfl, rfl, rfl, rfl, rfl, ?_, rfl, rfl, rfl, rfl, rfl, rfl⟩
    · split <;> rfl
    · simp only [State.beltOrders, State.mapSegments_sorter, List.map_map]
      exact List.map_congr_left fun e _ => by simp only [Function.comp]; split <;> rfl

theorem enterReading (s : State) : Calm s s.enterReading := withReader ..

theorem toReading (s : State) : Calm s s.toReading := by
  unfold State.toReading
  split
  · exact endStreamImplicit s
  · exact (noteAwaited ..).trans (enterReading _)
  · exact enterReading s
  all_goals exact .refl s

theorem takeOrderOpen (f : InFrame) (s : State) : Calm s (s.takeOrderOpen f) := by
  refine .inert ?_ (Inert.removeSequenced _)
  split
  · exact (Inert.answer ..).calm
  · exact (setOrder _ _ s).inert (Inert.answer ..)

theorem refusePrint (h : Header) (r : RefusalReason) (s : State) : Calm s (s.refusePrint h r) :=
  (((Inert.report ..).trans (Inert.bump ..)).calm.trans (withReader ..)).inert (Inert.removeSequenced _)

theorem acceptPrint (h : Header) (r : Order) (length : Nat) (s : State) : Calm s (s.acceptPrint h r length) :=
  (((updateOrder ..).inert (Inert.bump ..)).trans (withReader ..)).inert (Inert.removeSequenced _)

theorem takePrintHeader (f : InFrame) (s : State) : Calm s (s.takePrintHeader f) := by
  unfold State.takePrintHeader
  dsimp only
  repeat' split
  · exact refusePrint ..
  · exact refusePrint ..
  · exact acceptPrint ..
  · exact .refl s

theorem takeLine (s : State) : Calm s s.takeLine := by
  have removed : Calm s s.removeSequenced := (Inert.removeSequenced s).calm
  unfold State.takeLine
  repeat' split
  · exact removed.inert (Inert.bump ..)
  · exact (noteAwaited ..).inert (Inert.removeSequenced _)
  · exact removed
  all_goals exact .refl s

theorem takePrintEnd (s : State) : Calm s s.takePrintEnd := by
  unfold State.takePrintEnd
  repeat' split
  · exact ((Inert.removeSequenced s).trans (Inert.bump ..)).calm
  · exact (endStreamShort s).inert (Inert.removeSequenced _)
  · exact (enterReading s).inert (Inert.removeSequenced _)
  · exact (enterReading s).inert (Inert.removeSequenced _)
  all_goals exact .refl s

theorem onSequenced {kind : InKind} {act : InFrame → State → State} (acts : ∀ f s, Calm s (act f s)) (s : State) :
    Calm s (s.onSequenced kind act) :=
  State.onSequenced_preserves (P := Calm s) (fun u _ h => h.trans (toReading u)) (fun f u _ h => h.trans (acts f u)) (.refl s)

theorem onImmediate {kind : InKind} {act : InFrame → State → State} (acts : ∀ f s, Calm s (act f s)) (s : State) :
    Calm s (s.onImmediate kind act) :=
  State.onImmediate_preserves (P := Calm s) (fun f u h => h.trans (acts f u)) (.refl s)

theorem takeOrderCancel (f : InFrame) (s : State) : Calm s (s.takeOrderCancel f) := by
  refine .inert ?_ (Inert.removeImmediate _)
  repeat' split
  · exact (Inert.answer ..).calm
  · exact (Inert.answer ..).calm
  · exact (Inert.answer ..).calm.trans (windDown ..)
  · exact (Inert.answer ..).calm.trans (windDown ..)
  all_goals exact (Inert.answer ..).calm

theorem linkReset (s : State) : Calm s s.resetLink.resetReader := by
  have link : Calm s s.resetLink := ⟨by simp [State.resetLink], rfl, rfl, rfl, rfl, rfl, rfl, rfl, rfl, rfl, rfl, rfl, rfl, rfl⟩
  unfold State.resetReader
  split
  · exact link
  · exact link.trans (discardStaged ..)
  · exact link.trans (withReader ..)
  · exact link.trans (enterReading _)
  · exact link.trans (enterReading _)

/-! ### The exposure of a line -/

theorem settleFront (s : State) : Calm s s.settleFront := by
  unfold State.settleFront
  repeat' split
  · exact .refl s
  · exact (endStreamShort s).inert (Inert.removeSequenced _)
  · exact endStreamImplicit s
  · exact .refl s

theorem underrun (p : PrintRecord) (s : State) : Calm s (s.underrun p).2 :=
  ((modifyPrint (f := fun p => { p with underruns := p.underruns + 1 }) (fun _ => rfl) s).trans
    (modifyHead (f := fun g => { g with flags := { g.flags with underrun := true } }) (fun _ => rfl) _)).inert
      (Inert.raise ..)

theorem nextLine (p : PrintRecord) (x : LineSource) (s : State) : Calm s (s.nextLine p x).2 := by
  cases x
  case margin => exact .refl s
  case cutOff => exact underrun p s
  case store =>
    unfold State.nextLine
    cases h : s.store with
    | nil => exact (underrun p s).trans (withReader ..)
    | cons f rest =>
      exact ((modifyPrint (fun p => by split <;> rfl) s).inert (Inert.removeSequenced _)).trans (withReader ..)

theorem completePrint (s : State) : Calm s s.completePrint := by
  unfold State.completePrint
  split
  · split
    · split
      · exact withReader ..
      · exact .refl s
    · exact .refl s
  · exact .refl s

theorem exposeLine (s : State) : Calm s s.exposeLine := by
  have counted (n : Nat) (e : ExposureUnit) (u : State) :
      Calm u (State.modifyPrint (fun p => { p.addClipped n with exposed := p.exposed + 1 }) { u with exposure := e }) :=
    (withExposure e u).trans (modifyPrint (f := fun p => { p.addClipped n with exposed := p.exposed + 1 }) (fun _ => rfl) _)
  unfold State.exposeLine
  split
  · exact ((nextLine _ _ s).trans (counted _ _ _)).trans (completePrint _)
  · exact withExposure ..

theorem countStep (s : State) : Inert s s.countStep := by
  unfold State.countStep
  dsimp only
  repeat' split
  · exact (Inert.bump ..).trans (Inert.bump ..)
  · exact (Inert.bump ..).trans (Inert.bump ..)
  all_goals exact Inert.bump ..

/-! ### The monitor -/

theorem actOnTrip (i : Nat) (s : State) : Calm s (s.actOnTrip i) := by
  unfold State.actOnTrip
  repeat' split
  · exact markZone (f := Segment.flagChem) (fun _ => rfl) s
  · exact noteHead _ s
  · exact .refl s

theorem judgeChannel (value : Int) (s : State) : Calm s (s.judgeChannel value) := by
  have channel (i : Nat) (c : Channel) : Inert s (s.setChannel i c) := ⟨rfl, id, rfl, rfl, rfl, rfl, rfl, rfl, rfl⟩
  unfold State.judgeChannel
  dsimp only
  repeat' split
  · exact .refl s
  · exact ((channel ..).trans (Inert.raise ..)).calm.trans (actOnTrip ..)
  · exact (channel ..).calm.trans (actOnTrip ..)
  · exact ((channel ..).trans (Inert.raise ..)).calm
  · exact (channel ..).calm

theorem takeConversion (value : Int) (s : State) : Calm s (s.takeConversion value) := by
  have clock : Inert s { s with now := max s.now s.monitor.conversionDue } := ⟨rfl, id, rfl, rfl, rfl, rfl, rfl, rfl, rfl⟩
  have next (u : State) : Inert u u.nextConversion := ⟨rfl, id, rfl, rfl, rfl, rfl, rfl, rfl, rfl⟩
  exact (clock.calm.trans (judgeChannel ..)).inert (next _)

/-! ### The sorter's places -/

theorem clearBin (n : Nat) (s : State) : Calm s (s.clearBin n) := by
  unfold State.clearBin
  dsimp only
  repeat' split
  · exact .refl s
  · exact (updateBin ..).trans (updateOrder ..)
  · exact updateBin ..

theorem setGroup (p : PrintRecord) (s : State) : Calm s (s.setGroup p) := by
  unfold State.setGroup
  split
  · exact updateOrder ..
  · exact .refl s

theorem addPending (t : Target) (s : State) : Calm s (s.addPending t) := by
  cases t
  · exact updateBin ..
  · exact withTray ..

theorem dropPending (t : Target) (s : State) : Calm s (s.dropPending t) := by
  cases t
  · exact updateBin ..
  · exact withTray ..

theorem countInto (t : Target) (s : State) : Calm s (s.countInto t) := by
  cases t
  · exact updateBin ..
  · exact withTray ..

theorem assign (r : Order) (s : State) : Calm s (s.assign r).2 := by
  unfold State.assign
  repeat' split
  · exact .refl s
  · exact (updateBin ..).trans (updateOrder ..)
  · exact (updateOrder ..).inert (Inert.raise ..)
  · exact (Inert.raise ..).calm

theorem attendOwner (n : Nat) (e : Option Nat) (s : State) : Calm s (s.attendOwner n e) := by
  unfold State.attendOwner
  repeat' split
  · exact updateOrder ..
  all_goals exact .refl s

theorem markStray (t : Target) (e : Option Nat) (s : State) : Calm s (s.markStray t e) := by
  cases t
  · exact (((updateBin ..).inert (Inert.raise ..)).trans (attendOwner ..)).trans (updateBin ..)
  · exact (withTray ..).inert (Inert.raise ..)

end Calm

/-- The commands that are calm but not inert. -/
def calmCommand : Instr → Bool
  | .linkReset | .orderOpen | .printHeader | .line | .printEnd | .paperLoad | .profileLoad | .lutLoad => true
  | .thermalLoad | .sizeLoad | .orderCancel | .conversion _ | .binClear _ => true
  | c => inertCommand c

theorem effect_calm {c : Instr} (calm : calmCommand c = true) (s : State) : Calm s (effect c s) := by
  by_cases inert : inertCommand c = true
  · exact (effect_inert inert s).calm
  cases c
  case linkReset => exact .linkReset s
  case orderOpen => exact .onSequenced .takeOrderOpen s
  case printHeader => exact .onSequenced .takePrintHeader s
  case line => exact .takeLine s
  case printEnd => exact .takePrintEnd s
  case paperLoad => exact .onSequenced (fun f s => (Inert.takePaperLoad f s).calm) s
  case profileLoad => exact .onSequenced (fun f s => (Inert.unlessExposing .takeProfileLoad f s).calm) s
  case lutLoad => exact .onSequenced (fun f s => (Inert.unlessExposing .takeLutLoad f s).calm) s
  case thermalLoad => exact .onSequenced (fun f s => (Inert.unlessExposing .takeThermalLoad f s).calm) s
  case sizeLoad => exact .onSequenced (fun f s => (Inert.unlessExposing .takeSizeLoad f s).calm) s
  case orderCancel => exact .onImmediate .takeOrderCancel s
  case conversion value => exact .takeConversion value s
  case binClear bin => exact .clearBin bin s
  all_goals exact absurd calm inert

end Sys2Proof.Machine
end

section
/-!
PROOFS. The changes that leave the path and the run as they were, up to the marks of the path's records, and how the commands that move
the web, stop it or cut it keep a property: one rule for each of them, used by every invariant.
-/

namespace Sys2Proof.Machine

/-! ### The path stays -/

/-- Between the two states the web, the records of the path and the run have stayed, up to marks. -/
structure SamePath (s t : State) : Prop where
  position : t.path.position = s.path.position
  pathGist : t.pathGist = s.pathGist
  run : t.path.run = s.path.run
  haltCause : t.path.haltCause = s.path.haltCause
  drainCause : t.path.drainCause = s.path.drainCause
  dwell : t.path.dwell = s.path.dwell

theorem Calm.samePath {s t : State} (h : Calm s t) : SamePath s t :=
  ⟨h.position, h.pathGist, h.run, h.haltCause, h.drainCause, h.dwell⟩

/-- Whether the path holds a PRINT segment follows from the gists of its records. -/
theorem State.hasPrint_eq_any_gist (s : State) : s.hasPrint = s.pathGist.any fun l => l.1 == .print := by
  simp [State.hasPrint, State.pathGist, Segment.gist, Function.comp_def]

theorem SamePath.hasPrint {s t : State} (h : SamePath s t) : t.hasPrint = s.hasPrint := by
  rw [State.hasPrint_eq_any_gist, State.hasPrint_eq_any_gist, h.pathGist]

theorem SamePath.length {s t : State} (h : SamePath s t) : t.path.queue.length = s.path.queue.length := by
  simpa [State.pathGist] using congrArg List.length h.pathGist

namespace SamePath

protected theorem refl (s : State) : SamePath s s := (Calm.refl s).samePath

protected theorem trans {s t u : State} (h : SamePath s t) (k : SamePath t u) : SamePath s u :=
  ⟨k.position.trans h.position, k.pathGist.trans h.pathGist, k.run.trans h.run, k.haltCause.trans h.haltCause,
    k.drainCause.trans h.drainCause, k.dwell.trans h.dwell⟩

theorem calm {s t u : State} (h : SamePath s t) (k : Calm t u) : SamePath s u := h.trans k.samePath

theorem of_path {s t : State} (h : t.path = s.path) : SamePath s t := by
  constructor <;> simp [State.pathGist, h]

theorem mapSegments {f : Segment → Segment} (h : ∀ g, (f g).gist = g.gist) (s : State) : SamePath s (s.mapSegments f) :=
  (Calm.mapSegments h s).samePath

/-! ### The belt and the engine -/

theorem loseOldest (s : State) : SamePath s s.loseOldest := by
  unfold State.loseOldest
  split
  · exact .refl s
  · exact ((of_path (by simp)).calm (.rejectPrint _ _ s.popSorter)).calm (Inert.raise ..).calm

theorem judgeDrop (place : Target) (s : State) : SamePath s (s.judgeDrop place) := by
  unfold State.judgeDrop
  repeat' split
  · exact of_path (by simp)
  · exact of_path (by simp)
  · exact (loseOldest s).trans (of_path (by simp))
  all_goals exact of_path (by simp)

theorem expireOldest (fuel : Nat) (s : State) : SamePath s (s.expireOldest fuel) := by
  induction fuel generalizing s with
  | zero => exact .refl s
  | succ fuel ih =>
    unfold State.expireOldest
    repeat' split
    · exact (loseOldest s).trans (ih _)
    all_goals exact .refl s

theorem withNow (now : Nat) (s : State) : SamePath s { s with now := now } := of_path rfl

theorem reachDeadline (s : State) : SamePath s s.reachDeadline := by
  unfold State.reachDeadline
  split
  · exact (withNow _ s).trans (expireOldest _ { s with now := _ })
  · exact .refl s

theorem sendGood (p : PrintRecord) (s : State) : SamePath s (s.sendGood p) := by
  have sorted : (s.sortPrint p).2.path = s.path := by simp
  unfold State.sendGood
  split
  · rename_i e
    exact of_path (by simpa [e] using sorted)
  · rename_i reason u e
    exact (of_path (t := u.setFlap .chute) (by simpa [e] using sorted)).calm (.rejectPrint ..)

theorem classify (g : Segment) (s : State) : SamePath s (s.classify g) := by
  have flap : SamePath s (s.setFlap .chute) := of_path rfl
  unfold State.classify
  repeat' split
  · exact sendGood ..
  · exact flap.calm (.rejectPrint ..)
  · exact flap

theorem completionTest (n : Nat) (s : State) : SamePath s (s.completionTest n) := of_path (by simp)

theorem takeOrderClose (f : InFrame) (s : State) : SamePath s (s.takeOrderClose f) := by
  refine of_path ?_
  unfold State.takeOrderClose
  repeat' split
  all_goals simp

theorem completePricing (s : State) : SamePath s s.completePricing := by
  have take (u : State) : u.engineTake.path = u.path := by simp
  refine of_path ?_
  unfold State.completePricing
  split
  · rfl
  · dsimp only
    rw [take, (Inert.takeWaitingLoad _).path]
    split <;> simp

/-! ### The cutter -/

theorem fixCut (b : Boundary) (cutAt : Int) (s : State) : SamePath s (s.fixCut b cutAt) := of_path rfl

theorem declareMissing (start expected : Int) (s : State) : SamePath s (s.declareMissing start expected) := by
  have marked : SamePath s ((s.setLead start .predicted).mapAdjacent start Segment.flagMiscut) :=
    ((Calm.setLead ..).trans (Calm.flagAdjacent ..)).samePath
  unfold State.declareMissing
  dsimp only
  split
  all_goals exact marked.trans (of_path (by simp))

theorem testBoundaries (fuel : Nat) (s : State) : SamePath s (s.testBoundaries fuel).1 := by
  induction fuel generalizing s with
  | zero => exact .refl s
  | succ fuel ih =>
    unfold State.testBoundaries
    repeat' split
    · exact .refl s
    · exact .refl s
    · exact (show SamePath s (s.scheduleCutPoint _ _) from of_path rfl).trans (ih _)
    · exact .refl s
    · exact (declareMissing ..).trans (ih _)
    · exact .refl s

theorem judgePunch (s : State) : SamePath s s.judgePunch := by
  have spurious : SamePath s s.spuriousPunch := of_path (by simp)
  unfold State.judgePunch
  repeat' split
  · exact spurious
  · exact .refl s
  · exact .refl s
  · exact (Calm.setLead ..).samePath.trans (of_path rfl)
  · exact spurious
  · exact .refl s

theorem cutterStep (sample : PunchSample) (s : State) : SamePath s (s.cutterStep sample) := by
  have sampled : SamePath s (s.samplePunch sample).1 := of_path rfl
  have fired (u : State) : SamePath u u.fireAtStep := of_path (by simp)
  unfold State.cutterStep
  dsimp only
  split
  · exact ((sampled.trans (testBoundaries ..)).trans (judgePunch _)).trans (fired _)
  · exact (sampled.trans (testBoundaries ..)).trans (fired _)

theorem fireLate (s : State) : SamePath s s.fireLate := by
  unfold State.fireLate
  repeat' split
  · exact .refl s
  · exact (Calm.markLate ..).samePath.trans (of_path rfl)
  · exact .refl s

end SamePath

/-! ### How the commands that move, stop or cut the web keep a property -/

/-- The rejection of the path's records, one after another. -/
theorem Calm.abortSegments (s : State) : Calm s s.abortSegments := by
  have one (i : Nat) (u : State) : Calm u (u.abortSegment i) := by
    unfold State.abortSegment
    repeat' split
    · exact .rejectPrint ..
    all_goals exact .refl u
  have all (l : List Nat) (u : State) : Calm u (l.foldl (fun u i => u.abortSegment i) u) := by
    induction l generalizing u with
    | nil => exact .refl u
    | cons i l ih => exact (one i u).trans (ih _)
  exact all _ s

section
variable {P : State → Prop} {s : State}

/-- What a command must keep so that the choice at a step that falls due keeps it. -/
structure KeptByChoice (P : State → Prop) : Prop where
  raise : ∀ c s, P s → P (s.raise c)
  halt : ∀ cause s, s.stepping = true → P s → P (s.halt cause)
  endDrain : ∀ s, s.path.run = .draining → s.hasPrint = false → P s → P s.endDrain
  rampBegins : ∀ s, P s → P { s with path := { s.path with rampDue := false } }
  rampEnds : ∀ s, s.path.run = .starting → P s → P { s with path := { s.path with run := .running } }
  paperDrain : ∀ s, s.path.run = .running → P s →
    P { s with path := { s.path with run := .draining, drainCause := some .paper } }
  segment : ∀ kind planned s, kind = .waste ∨ kind = .ramp → s.stepping = true → s.path.queue.length < 128 → P s →
    P (s.beginSegment kind planned none)
  start : ∀ p s, s.reader.staged = some p → s.path.run = .running → s.path.queue.length < 128 → P s → P (s.startPrint p)

theorem KeptByChoice.drainForPaper (k : KeptByChoice P) (running : s.path.run = .running)
    (room : s.path.queue.length < 128) (h : P s) : P s.drainForPaper.1 := by
  have draining := k.raise .paperLow _ (k.paperDrain s running h)
  unfold State.drainForPaper
  dsimp only
  split
  · exact k.segment _ _ _ (.inl rfl) (by simp [State.stepping]) (by simpa using room) draining
  · rename_i none
    exact k.endDrain _ (by simp) (by simpa using none) draining

theorem KeptByChoice.chooseRunning (k : KeptByChoice P) (running : s.path.run = .running)
    (room : s.path.queue.length < 128) (h : P s) : P s.chooseRunning.1 := by
  unfold State.chooseRunning
  split
  · rename_i p candidate
    split
    · refine k.start p s ?_ running room h
      unfold State.candidate at candidate
      split at candidate
      · exact candidate
      · cases candidate
    · exact k.drainForPaper running room h
  · split
    · exact k.segment _ _ s (.inl rfl) (by simp [State.stepping, running]) room h
    · exact k.drainForPaper running room h

/-- The choice at a step that falls due in a moving run keeps the property. -/
theorem KeptByChoice.fallsDue (k : KeptByChoice P) (moving : s.stepping = true) (h : P s) : P s.fallsDue.1 := by
  have noPaper : P s.haltForPaper := k.raise _ _ (k.halt _ s moving h)
  unfold State.fallsDue
  repeat' split
  · rename_i drained
    exact k.endDrain s drained.1 (by simpa using drained.2) h
  · exact noPaper
  · exact k.halt _ s moving h
  · rename_i full
    have room : s.path.queue.length < 128 := not_le.mp full
    unfold State.chooseSegment
    repeat' split
    · exact k.segment _ _ _ (.inr rfl) (by simpa [State.stepping] using moving) room (k.rampBegins s h)
    · exact k.chooseRunning rfl room (k.rampEnds s ‹_› h)
    · exact k.chooseRunning ‹_› room h
    · exact k.segment _ _ s (.inl rfl) moving room h
    all_goals exact h
  · exact noPaper
  · exact h

/-- A line period that expires: the clock, the choice, and the step that is issued. -/
theorem KeptByChoice.takeStep (k : KeptByChoice P) (clock : ∀ now s, P s → P { s with now := now })
    (issue : ∀ sample s, P s → P (s.issueStep sample)) (sample : PunchSample) (h : P s) : P (s.takeStep sample) := by
  unfold State.takeStep
  dsimp only
  split
  · rename_i moving
    have chosen := k.fallsDue (s := { s with now := max s.now s.exposure.stepDue }) moving (clock _ s h)
    split
    · exact issue sample _ chosen
    · exact chosen
  · exact h

/-- A fault halts a moving run, and a run that does not move stays. -/
theorem State.haltIfMoving_preserves {cause : HaltCause} (halt : s.stepping = true → P (s.halt cause)) (h : P s) :
    P (s.haltIfMoving cause) := by
  unfold State.haltIfMoving
  split
  · exact halt ‹_›
  · exact h

/-! ### Properties of the path and the run alone -/

/-- What a command must keep so that the halts and the cuts keep a property of the path and the run. -/
structure KeptByCuts (P : State → Prop) : Prop where
  samePath : ∀ s t, SamePath s t → P s → P t
  halt : ∀ cause s, P s → P (s.halt cause)
  tail : ∀ g rest s, s.path.queue = g :: rest → P s → P { s with path := { s.path with queue := rest } }
  endDrain : ∀ s, s.path.run = .draining → s.hasPrint = false → P s → P s.endDrain

theorem KeptByCuts.calm {t : State} (k : KeptByCuts P) (h : P s) (same : Calm s t) : P t := k.samePath _ _ same.samePath h

theorem KeptByCuts.path {t : State} (k : KeptByCuts P) (h : P s) (same : t.path = s.path) : P t :=
  k.samePath _ _ (.of_path same) h

theorem KeptByCuts.haltIfMoving (k : KeptByCuts P) (cause : HaltCause) (h : P s) : P (s.haltIfMoving cause) := by
  unfold State.haltIfMoving
  split
  · exact k.halt cause s h
  · exact h

theorem KeptByCuts.giveUpCut (k : KeptByCuts P) (h : P s) : P s.giveUpCut := by
  unfold State.giveUpCut
  split
  · rename_i progress e rest _ _
    have givenUp : P { s with
        now := max s.now progress.due
        cutter := { s.cutter with progress := none, cutList := { e with retry := true } :: rest } } :=
      k.path h rfl
    exact k.haltIfMoving _ (k.calm givenUp ((Calm.markLate ..).inert (Inert.raise ..)))
  · exact h

theorem KeptByCuts.takeStopInput (k : KeptByCuts P) (input : StopInput) (active : Bool) (h : P s) :
    P (s.takeStopInput input active) := by
  have level : P (s.setStopLevel input active) := k.path h (by simp)
  unfold State.takeStopInput
  dsimp only
  repeat' split
  · exact h
  · exact k.haltIfMoving _ (k.calm level (Inert.raise ..).calm)
  · exact level

theorem KeptByCuts.freePiece (k : KeptByCuts P) (h : P s) : P s.freePiece := by
  unfold State.freePiece
  split
  · exact h
  · rename_i g rest hq
    have classified := k.samePath _ _ (.classify g _) (k.tail g rest s hq h)
    dsimp only
    split
    · rename_i drained
      exact k.endDrain _ drained.1 (by simpa using drained.2.2) classified
    · exact classified

theorem KeptByCuts.takeCutDone (k : KeptByCuts P) (h : P s) : P s.takeCutDone := by
  unfold State.takeCutDone State.completeCut
  split
  · rename_i e rest _ _
    have taken : P { s with cutter := { s.cutter with progress := none, cutList := rest } } :=
      k.path h rfl
    refine k.samePath _ _ (.fireLate _) ?_
    split
    · exact k.freePiece taken
    · exact k.path taken rfl
  · exact k.path h rfl

end

end Sys2Proof.Machine
end

section
/-!
PROOFS. Every step keeps the web contiguous (sections 2.2 and 2.6): what the path's records and the web position have to do with each
other, by the gists of the records, and the few commands that change them.
-/

namespace Sys2Proof.Machine

/-! ### Contiguous records -/

/-- Records with the same gists are contiguous alike. -/
theorem contiguous_congr {l l' : List Segment} (h : l'.map Segment.gist = l.map Segment.gist) (position : Int) :
    contiguous l' position = contiguous l position := by
  induction l generalizing l' with
  | nil => simp_all
  | cons g l ih =>
    cases l' with
    | nil => simp at h
    | cons g' l' =>
      simp only [List.map_cons, List.cons.injEq] at h
      obtain ⟨same, rest⟩ := h
      simp only [Segment.gist, Prod.mk.injEq] at same
      cases l with
      | nil =>
        obtain rfl := List.map_eq_nil_iff.mp rest
        simp [contiguous, same]
      | cons k l =>
        cases l' with
        | nil => simp at rest
        | cons k' l' =>
          have next := rest
          simp only [List.map_cons, List.cons.injEq, Segment.gist, Prod.mk.injEq] at next
          simp only [contiguous, same, next]
          rw [ih rest]

/-- Contiguous up to the newest record, and that record ends at the position. -/
theorem contiguous_append (l : List Segment) (g : Segment) (position : Int) :
    contiguous (l ++ [g]) position = (contiguous l g.start && decide (g.start + g.length = position)) := by
  induction l with
  | nil => simp [contiguous]
  | cons h l ih =>
    cases l with
    | nil => simp [contiguous]
    | cons k l => simpa [contiguous, Bool.and_assoc] using congrArg (_ && ·) ih

theorem contiguous_tail {g : Segment} {l : List Segment} {position : Int} (h : contiguous (g :: l) position = true) :
    contiguous l position = true := by
  cases l with
  | nil => rfl
  | cons k l => simp [contiguous] at h; exact h.2

/-- The oldest record begins at the position at the latest. -/
theorem start_le_of_contiguous {g : Segment} {l : List Segment} {position : Int}
    (h : contiguous (g :: l) position = true) : g.start ≤ position := by
  induction l generalizing g with
  | nil => simp [contiguous] at h; omega
  | cons k l ih =>
    simp [contiguous] at h
    have := ih h.2
    omega

/-- Where the oldest record ends is all that the others rest on. -/
theorem contiguous_oldest {g g' : Segment} (h : g'.start + g'.length = g.start + g.length) (l : List Segment)
    (position : Int) : contiguous (g' :: l) position = contiguous (g :: l) position := by
  cases l <;> simp [contiguous, h]

/-! ### The changes of the web -/

namespace WebContiguous

theorem samePath {s t : State} (h : WebContiguous s) (k : SamePath s t) : WebContiguous t := by
  obtain ⟨contiguous, length, purge⟩ := h
  have kinds (u : State) : (u.path.queue.drop 1).all (fun g => g.kind != .purge) =
      (u.pathGist.drop 1).all (fun l => l.1 != .purge) := by
    simp only [State.pathGist, ← List.map_drop, List.all_map]
    rfl
  refine ⟨?_, by rw [k.length]; exact length, ?_⟩
  · rw [k.position, contiguous_congr k.pathGist]; exact contiguous
  · rw [kinds, k.pathGist, ← kinds]; exact purge

theorem calm {s t : State} (h : WebContiguous s) (k : Calm s t) : WebContiguous t := h.samePath k.samePath

theorem beginSegment {s : State} {kind : SegmentKind} (notPurge : kind ≠ .purge) (room : s.path.queue.length < 128)
    (planned : Nat) (print : Option PrintRecord) (h : WebContiguous s) :
    WebContiguous (s.beginSegment kind planned print) := by
  obtain ⟨contiguous, -, purge⟩ := h
  refine ⟨?_, by simpa [State.beginSegment] using room, ?_⟩
  · simp [State.beginSegment, contiguous_append, Segment.fresh, contiguous]
  · cases hq : s.path.queue with
    | nil => simp [State.beginSegment, hq]
    | cons g rest => simp_all [State.beginSegment, Segment.fresh]

/-- The web and the newest record grow by the same line. -/
theorem advanceWeb {s : State} (h : WebContiguous s) : WebContiguous s.advanceWeb := by
  obtain ⟨contiguous, length, purge⟩ := h
  refine ⟨?_, by simpa [State.advanceWeb] using length, ?_⟩
  · obtain hq | ⟨older, newest, hq⟩ := s.path.queue.eq_nil_or_concat'
    · simp [State.advanceWeb, State.modifyHead, hq, Machine.contiguous]
    · rw [hq, contiguous_append] at contiguous
      simp only [Bool.and_eq_true, decide_eq_true_eq] at contiguous
      simp only [State.advanceWeb, State.modifyHead, hq, modifyLast_append, contiguous_append, contiguous.1, Bool.true_and,
        decide_eq_true_eq]
      push_cast
      omega
  · have kinds : (modifyLast (fun g : Segment => { g with length := g.length + 1 }) s.path.queue).map Segment.kind =
        s.path.queue.map Segment.kind :=
      map_modifyLast _ (fun g : Segment => { g with length := g.length + 1 }) (fun _ => rfl) _
    have all (l : List Segment) : (l.drop 1).all (fun g => g.kind != .purge) =
        ((l.map Segment.kind).drop 1).all (fun k => k != .purge) := by
      simp only [← List.map_drop, List.all_map]
      rfl
    rw [all] at purge ⊢
    simpa only [State.advanceWeb, State.modifyHead, kinds] using purge

/-- The oldest record leaves. -/
theorem tail {s : State} {g : Segment} {rest : List Segment} (hq : s.path.queue = g :: rest) (h : WebContiguous s) :
    WebContiguous { s with path := { s.path with queue := rest } } := by
  obtain ⟨contiguous, length, purge⟩ := h
  rw [hq] at contiguous length purge
  simp only [List.length_cons, List.drop_one, List.tail_cons] at length purge
  exact ⟨contiguous_tail contiguous, by simp only; omega, List.all_eq_true.mpr fun k hk =>
    List.all_eq_true.mp purge k (List.mem_of_mem_drop hk)⟩

/-- The oldest record takes another start and length that keep its end. -/
theorem resizePurge {s : State} {old new : Nat} {params : RunParams} {generation : Nat} (h : WebContiguous s) :
    WebContiguous { s with path := { s.path with
      queue := s.path.queue.map (Segment.resizePurge old new), params := params, generation := generation } } := by
  obtain ⟨contiguous, length, purge⟩ := h
  cases hq : s.path.queue with
  | nil => exact ⟨by simp [Machine.contiguous], by simp, by simp⟩
  | cons g rest =>
    rw [hq] at contiguous length purge
    simp only [List.drop_one, List.tail_cons] at purge
    have others : rest.map (Segment.resizePurge old new) = rest := by
      refine (List.map_congr_left fun k hk => ?_).trans (List.map_id' rest)
      have notPurge : k.kind ≠ .purge := by simpa using List.all_eq_true.mp purge k hk
      simp [Segment.resizePurge, notPurge]
    have ends : (g.resizePurge old new).start + (g.resizePurge old new).length = g.start + g.length := by
      unfold Segment.resizePurge
      split <;> simp
    simp only [List.map_cons, others]
    refine ⟨?_, length, purge⟩
    rw [contiguous_oldest ends]
    exact contiguous

/-- One PURGE record over the same paper takes the place of all records. -/
theorem purgePath {s : State} (h : WebContiguous s) : WebContiguous s.purgePath := by
  refine ⟨?_, by simp [State.purgePath], by simp [State.purgePath]⟩
  obtain ⟨contiguous, -⟩ := h
  cases hq : s.path.queue with
  | nil => simp [State.purgePath, hq, Machine.contiguous, Segment.purge]
  | cons g rest =>
    rw [hq] at contiguous
    have := start_le_of_contiguous contiguous
    simp [State.purgePath, hq, Machine.contiguous, Segment.purge]
    omega

theorem withPath {s : State} (h : WebContiguous s) {path : PathUnit} (queue : path.queue = s.path.queue)
    (position : path.position = s.path.position) : WebContiguous { s with path := path } := by
  simpa only [WebContiguous, queue, position] using h

/-! ### The commands -/

theorem halt {s : State} (h : WebContiguous s) (cause : HaltCause) : WebContiguous (s.halt cause) :=
  ((h.calm (.endExposure s)).calm (.stopStepping _)).withPath rfl rfl

theorem endDrain {s : State} (h : WebContiguous s) : WebContiguous s.endDrain := by
  have stopped := (h.calm (.stopStepping s)).withPath (path := { s.stopStepping.path with run := .idle, drainCause := none })
    rfl rfl
  unfold State.endDrain
  dsimp only
  split
  · exact stopped.calm (.discardStaged ..)
  · exact stopped

theorem keptByChoice : KeptByChoice WebContiguous where
  raise c s h := h.calm (Inert.raise c s).calm
  halt cause s _ h := h.halt cause
  endDrain s _ _ h := h.endDrain
  rampBegins s h := h.withPath rfl rfl
  rampEnds s _ h := h.withPath rfl rfl
  paperDrain s _ h := h.withPath rfl rfl
  segment kind planned s notPrint _ room h := h.beginSegment (by rintro rfl; simp at notPrint) room planned none
  start p s _ _ room h := (h.calm (.withReader _ s)).beginSegment (by decide) room _ _

theorem issueStep {s : State} (h : WebContiguous s) (sample : PunchSample) : WebContiguous (s.issueStep sample) :=
  ((((h.calm (.settleFront s)).advanceWeb.calm (Calm.countStep _).calm).calm (.exposeLine _)).calm
    (.markZoneEntry _)).samePath (.cutterStep sample _)

theorem keptByCuts : KeptByCuts WebContiguous where
  samePath _ _ same h := h.samePath same
  halt cause _ h := h.halt cause
  tail _ _ _ hq h := h.tail hq
  endDrain _ _ _ h := h.endDrain

theorem takeRunAbort {s : State} (h : WebContiguous s) (f : InFrame) : WebContiguous (s.takeRunAbort f) := by
  have awaiting (u : State) : Calm u u.abortAwaiting := by
    unfold State.abortAwaiting
    split
    · exact .withReader ..
    · exact .refl u
  have cleared (u : State) (h : WebContiguous u) : WebContiguous (State.resetCutter (State.purgePath { u with
      path := { u.path with run := .idle, haltCause := none, drainCause := none, dwell := .stopped } })) :=
    (h.withPath rfl rfl).purgePath
  have aborted (u : State) (h : WebContiguous u) : WebContiguous u.abortRun :=
    cleared _ (((((h.calm (.endExposure u)).calm (awaiting _)).calm (.stopStepping _)).calm (.abortSegments _)).calm
      (.discardStaged ..))
  refine calm ?_ (Inert.removeImmediate _).calm
  have answered := h.calm (Inert.answer f .accepted s).calm
  repeat' split
  · exact h.calm (Inert.answer ..).calm
  · exact answered
  · exact aborted _ answered

theorem takeRunparamLoad {s : State} (h : WebContiguous s) (f : InFrame) : WebContiguous (s.takeRunparamLoad f) := by
  have applied (p : RunParams) : WebContiguous (s.applyRunParams p) := by
    have resized := h.resizePurge (old := s.path.params.lCut) (new := p.lCut) (params := p)
      (generation := nextGeneration s.path.generation)
    exact resized.samePath (.of_path (by simp [State.applyRunParams]))
  refine calm ?_ (Inert.removeSequenced _).calm
  repeat' split
  · exact h.calm (Inert.answer ..).calm
  · exact (applied _).calm (Inert.answer ..).calm
  · exact h.calm (Inert.answer ..).calm

theorem takeRunStart {s : State} (h : WebContiguous s) (f : InFrame) : WebContiguous (s.takeRunStart f) := by
  have accepted : WebContiguous s.acceptRunStart := by
    unfold State.acceptRunStart
    split
    all_goals exact h
  refine calm ?_ (Inert.removeImmediate _).calm
  repeat' split
  · exact h.calm (Inert.answer ..).calm
  · exact accepted.calm (Inert.answer ..).calm
  · exact h.calm (Inert.answer ..).calm

theorem takeRunEnd {s : State} (h : WebContiguous s) (f : InFrame) : WebContiguous (s.takeRunEnd f) := by
  have accepted : WebContiguous s.acceptRunEnd := by
    unfold State.acceptRunEnd
    split
    all_goals exact h
  refine calm ?_ (Inert.removeImmediate _).calm
  split
  · exact h.calm (Inert.answer ..).calm
  · exact accepted.calm (Inert.answer ..).calm

theorem expireDwell {s : State} (h : WebContiguous s) : WebContiguous s.expireDwell := by
  unfold State.expireDwell
  split
  · exact calm (calm (by exact h) (.markZone (f := Segment.flagDwell) (fun _ => rfl) _)) (Inert.raise ..).calm
  all_goals exact h

end WebContiguous

theorem effect_webContiguous (c : Instr) {s : State} (h : WebContiguous s) : WebContiguous (effect c s) := by
  by_cases calm : calmCommand c = true
  · exact h.calm (effect_calm calm s)
  cases c
  case fullReset => exact ⟨rfl, Nat.le_of_ble_eq_true rfl, rfl⟩
  case orderClose =>
    exact State.onSequenced_preserves (fun u _ h => h.calm (.toReading u)) (fun f u _ h => h.samePath (.takeOrderClose f u)) h
  case runparamLoad =>
    exact State.onSequenced_preserves (fun u _ h => h.calm (.toReading u)) (fun f _ _ h => h.takeRunparamLoad f) h
  case runStart => exact State.onImmediate_preserves (fun f _ h => h.takeRunStart f) h
  case runEnd => exact State.onImmediate_preserves (fun f _ h => h.takeRunEnd f) h
  case runAbort => exact State.onImmediate_preserves (fun f _ h => h.takeRunAbort f) h
  case step sample => exact WebContiguous.keptByChoice.takeStep (fun _ _ h => h) (fun sample _ h => h.issueStep sample) sample h
  case cutDone => exact WebContiguous.keptByCuts.takeCutDone h
  case cutTimeout => exact WebContiguous.keptByCuts.giveUpCut h
  case dwellExpiry => exact h.expireDwell
  case estopJamInput input active => exact WebContiguous.keptByCuts.takeStopInput input active h
  case drop place => exact (h.samePath (.judgeDrop _ s)).samePath (.expireOldest ..)
  case deliveryDeadline => exact h.samePath (.reachDeadline s)
  case pricingComplete => exact h.samePath (.completePricing s)
  all_goals exact absurd rfl calm

/-- Settles O55: most commands leave the records of the path and the web position as they were, up to marks (`SamePath`); the new
segment, the step, the cut, the abort and the new parameters keep the records contiguous one by one. -/
theorem stepKeepsTheWebContiguous : Obligations.StepKeepsTheWebContiguous := fun _ _ =>
  step_preserves (fun _ _ h => h) (fun s pins h => h.calm (Inert.tickWith pins s).calm) fun c _ => effect_webContiguous c

end Sys2Proof.Machine
end

section
/-!
PROOFS. Every step keeps the run coherent (sections 2.3 and 2.5): the causes and the dwell timer change with the run state, and a run
enters IDLE with no PRINT segment left.
-/

namespace Sys2Proof.Machine

namespace RunCoherent

theorem samePath {s t : State} (h : RunCoherent s) (k : SamePath s t) : RunCoherent t := by
  unfold RunCoherent
  rw [k.haltCause, k.drainCause, k.run, k.dwell, k.hasPrint]
  exact h

theorem calm {s t : State} (h : RunCoherent s) (k : Calm s t) : RunCoherent t := h.samePath k.samePath

/-! ### The run changes its state -/

/-- The run enters HALTED with its cause, and the dwell timer runs. -/
theorem halt (cause : HaltCause) (s : State) : RunCoherent (s.halt cause) :=
  ⟨by simp [State.halt], by simp [State.halt], by simp [State.halt], fun idle => absurd idle (by simp [State.halt])⟩

/-- The run enters IDLE from another state than HALTED, with no PRINT segment left. -/
theorem toIdle {s : State} (moving : s.path.run ≠ .halted) (none : s.hasPrint = false) (h : RunCoherent s) :
    RunCoherent { s with path := { s.path with run := .idle, drainCause := Option.none } } := by
  obtain ⟨halt, -, dwell, -⟩ := h
  refine ⟨by simpa [moving] using halt, by simp, by simpa [moving] using dwell, fun _ => none⟩

theorem endDrain {s : State} (draining : s.path.run = .draining) (none : s.hasPrint = false) (h : RunCoherent s) :
    RunCoherent s.endDrain := by
  have stopped := Calm.stopStepping s
  have idle := (h.calm stopped).toIdle (by rw [stopped.run, draining]; decide) (by rw [stopped.samePath.hasPrint, none])
  unfold State.endDrain
  dsimp only
  split
  · exact idle.calm (.discardStaged ..)
  · exact idle

/-- A run that moves takes another moving state, with the drain cause that belongs to it. -/
theorem toMoving {s : State} {run : RunState} {drainCause : Option DrainCause} (was : s.path.run ≠ .halted)
    (moving : run ≠ .halted ∧ run ≠ .idle) (cause : drainCause.isSome = true ↔ run = .draining) (h : RunCoherent s) :
    RunCoherent { s with path := { s.path with run := run, drainCause := drainCause } } := by
  obtain ⟨halt, -, dwell, -⟩ := h
  exact ⟨by simpa [was, moving] using halt, cause, by simpa [was, moving] using dwell, fun idle => absurd idle moving.2⟩

theorem beginSegment {s : State} (moving : s.stepping = true) (kind : SegmentKind) (planned : Nat)
    (print : Option PrintRecord) (h : RunCoherent s) : RunCoherent (s.beginSegment kind planned print) := by
  obtain ⟨halt, drain, dwell, -⟩ := h
  refine ⟨halt, drain, dwell, fun idle => absurd moving ?_⟩
  simp [State.stepping, show s.path.run = .idle from idle]

theorem keptByChoice : KeptByChoice RunCoherent where
  raise c s h := h.calm (Inert.raise c s).calm
  halt cause s _ _ := halt cause s
  endDrain _ draining none h := h.endDrain draining none
  rampBegins _ h := h
  rampEnds s starting h := by
    have noCause : s.path.drainCause = none := by simpa [starting] using h.2.1
    exact h.toMoving (run := .running) (by simp [starting]) (by simp) (by simp [noCause])
  paperDrain s running h := h.toMoving (by simp [running]) (by simp) (by simp)
  segment kind planned _ _ moving _ h := h.beginSegment moving kind planned none
  start _ s _ running _ h := beginSegment (by simp [State.stepping, running]) _ _ _ (h.calm (.withReader _ s))

theorem issueStep {s : State} (h : RunCoherent s) (sample : PunchSample) : RunCoherent (s.issueStep sample) := by
  have advanced {u : State} (h : RunCoherent u) : RunCoherent u.advanceWeb := by
    have kinds : (modifyLast (fun g : Segment => { g with length := g.length + 1 }) u.path.queue).map Segment.kind =
        u.path.queue.map Segment.kind :=
      map_modifyLast _ (fun g : Segment => { g with length := g.length + 1 }) (fun _ => rfl) _
    have same : u.advanceWeb.hasPrint = u.hasPrint := by
      have any (l : List Segment) : (l.any fun g => g.kind == .print) = (l.map Segment.kind).any fun k => k == .print := by
        simp [Function.comp_def]
      simp only [State.hasPrint, State.advanceWeb, State.modifyHead, any, kinds]
    unfold RunCoherent
    rw [same]
    exact h
  exact ((((advanced (h.calm (.settleFront s))).calm (Calm.countStep _).calm).calm (.exposeLine _)).calm
    (.markZoneEntry _)).samePath (.cutterStep sample _)

/-! ### The other commands -/

theorem keptByCuts : KeptByCuts RunCoherent where
  samePath _ _ same h := h.samePath same
  halt cause s _ := halt cause s
  tail g rest s hq h := by
    obtain ⟨halt, drain, dwell, idle⟩ := h
    refine ⟨halt, drain, dwell, fun e => ?_⟩
    have none := idle e
    simp only [State.hasPrint, hq, List.any_cons, Bool.or_eq_false_iff] at none
    exact none.2
  endDrain _ draining none h := h.endDrain draining none

theorem abortRun (s : State) : RunCoherent s.abortRun := by
  refine ⟨by simp [State.abortRun, State.resetCutter, State.purgePath], by simp [State.abortRun, State.resetCutter, State.purgePath],
    by simp [State.abortRun, State.resetCutter, State.purgePath], fun _ => rfl⟩

theorem takeRunAbort {s : State} (h : RunCoherent s) (f : InFrame) : RunCoherent (s.takeRunAbort f) := by
  refine calm ?_ (Inert.removeImmediate _).calm
  repeat' split
  · exact h.calm (Inert.answer ..).calm
  · exact h.calm (Inert.answer ..).calm
  · exact abortRun _

/-- The new parameters leave every record its kind. -/
theorem applyRunParams {s : State} (h : RunCoherent s) (p : RunParams) : RunCoherent (s.applyRunParams p) := by
  have kind (old new : Nat) (g : Segment) : (g.resizePurge old new).kind = g.kind := by
    unfold Segment.resizePurge
    split <;> rfl
  have same : (s.applyRunParams p).hasPrint = s.hasPrint := by
    simp [State.applyRunParams, State.hasPrint, Function.comp_def, kind]
  unfold RunCoherent
  rw [same]
  simpa [State.applyRunParams, RunCoherent] using h

theorem takeRunparamLoad {s : State} (h : RunCoherent s) (f : InFrame) : RunCoherent (s.takeRunparamLoad f) := by
  refine calm ?_ (Inert.removeSequenced _).calm
  repeat' split
  · exact h.calm (Inert.answer ..).calm
  · exact (h.applyRunParams _).calm (Inert.answer ..).calm
  · exact h.calm (Inert.answer ..).calm

theorem acceptRunStart {s : State} (h : RunCoherent s) : RunCoherent s.acceptRunStart := by
  have started (resting : s.path.run = .idle ∨ s.path.run = .halted) : RunCoherent s.startRun := by
    obtain ⟨-, drain, -, -⟩ := h
    refine ⟨by simp [State.startRun], ?_, by simp [State.startRun], fun idle => absurd idle (by simp [State.startRun])⟩
    rcases resting with e | e <;> simpa [State.startRun, e] using drain
  unfold State.acceptRunStart
  split
  · exact started (.inl ‹_›)
  · exact started (.inr ‹_›)
  · rename_i draining
    exact h.toMoving (by simp [draining]) (by simp) (by simp)
  all_goals exact h

theorem acceptRunEnd {s : State} (h : RunCoherent s) : RunCoherent s.acceptRunEnd := by
  unfold State.acceptRunEnd
  split
  · exact h.toMoving (by simp [*]) (by simp) (by simp)
  · exact h.toMoving (by simp [*]) (by simp) (by simp)
  all_goals exact h

theorem takeRunStart {s : State} (h : RunCoherent s) (f : InFrame) : RunCoherent (s.takeRunStart f) := by
  refine calm ?_ (Inert.removeImmediate _).calm
  repeat' split
  · exact h.calm (Inert.answer ..).calm
  · exact h.acceptRunStart.calm (Inert.answer ..).calm
  · exact h.calm (Inert.answer ..).calm

theorem takeRunEnd {s : State} (h : RunCoherent s) (f : InFrame) : RunCoherent (s.takeRunEnd f) := by
  refine calm ?_ (Inert.removeImmediate _).calm
  split
  · exact h.calm (Inert.answer ..).calm
  · exact h.acceptRunEnd.calm (Inert.answer ..).calm

/-- The dwell timer runs in HALTED, and is not stopped by its expiry. -/
theorem expireDwell {s : State} (h : RunCoherent s) : RunCoherent s.expireDwell := by
  unfold State.expireDwell
  split
  · rename_i due running
    obtain ⟨haltCause, drainCause, dwell, idle⟩ := h
    have expired : RunCoherent { s with now := max s.now due, path := { s.path with dwell := .expired } } :=
      ⟨haltCause, drainCause, by simpa [running] using dwell, idle⟩
    exact calm (calm expired (.markZone (f := Segment.flagDwell) (fun _ => rfl) _)) (Inert.raise ..).calm
  all_goals exact h

end RunCoherent

theorem effect_runCoherent (c : Instr) {s : State} (h : RunCoherent s) : RunCoherent (effect c s) := by
  by_cases calm : calmCommand c = true
  · exact h.calm (effect_calm calm s)
  cases c
  case fullReset => exact ⟨by simp [effect, State.reset, PathUnit.reset], by simp [effect, State.reset, PathUnit.reset],
    by simp [effect, State.reset, PathUnit.reset], fun _ => rfl⟩
  case orderClose =>
    exact State.onSequenced_preserves (fun u _ h => h.calm (.toReading u)) (fun f u _ h => h.samePath (.takeOrderClose f u)) h
  case runparamLoad =>
    exact State.onSequenced_preserves (fun u _ h => h.calm (.toReading u)) (fun f _ _ h => h.takeRunparamLoad f) h
  case runStart => exact State.onImmediate_preserves (fun f _ h => h.takeRunStart f) h
  case runEnd => exact State.onImmediate_preserves (fun f _ h => h.takeRunEnd f) h
  case runAbort => exact State.onImmediate_preserves (fun f _ h => h.takeRunAbort f) h
  case step sample => exact RunCoherent.keptByChoice.takeStep (fun _ _ h => h) (fun sample _ h => h.issueStep sample) sample h
  case cutDone => exact RunCoherent.keptByCuts.takeCutDone h
  case cutTimeout => exact RunCoherent.keptByCuts.giveUpCut h
  case dwellExpiry => exact h.expireDwell
  case estopJamInput input active => exact RunCoherent.keptByCuts.takeStopInput input active h
  case drop place => exact (h.samePath (.judgeDrop _ s)).samePath (.expireOldest ..)
  case deliveryDeadline => exact h.samePath (.reachDeadline s)
  case pricingComplete => exact h.samePath (.completePricing s)
  all_goals exact absurd rfl calm

/-- Settles O57: a command that changes the run state sets the causes and the dwell timer with it, and enters IDLE only with no PRINT
segment left; every other command leaves them and the kinds of the records (`SamePath`). -/
theorem stepKeepsTheRunCoherent : Obligations.StepKeepsTheRunCoherent := fun _ _ =>
  step_preserves (fun _ _ h => h) (fun s pins h => h.calm (Inert.tickWith pins s).calm) fun c _ => effect_runCoherent c

end Sys2Proof.Machine
end

section
/-!
PROOFS. Every step stays within the limits of the queues, the slots and δ (sections 10.3, 7.4, 1.1, 6.2 and 8.3).
-/

namespace Sys2Proof.Machine

namespace WithinLimits

theorem calm {s t : State} (h : WithinLimits s) (k : Calm s t) : WithinLimits t := by
  obtain ⟨outbound, belt, slots, delta, progress, engine⟩ := h
  have length : t.sorter.queue.length = s.sorter.queue.length := by
    simpa [State.beltOrders] using congrArg List.length k.belt
  exact ⟨k.outbound outbound, length ▸ belt, k.slots.trans slots, by rw [k.delta]; exact delta,
    by rw [k.progress, k.cutList]; exact progress, by rw [k.engine, k.pricingQueue]; exact engine⟩

theorem inert {s t : State} (h : WithinLimits s) (k : Inert s t) : WithinLimits t := h.calm k.calm

/-! ### The belt -/

theorem popSorter {s : State} (h : WithinLimits s) : WithinLimits s.popSorter := by
  unfold State.popSorter
  split
  · exact h
  · rename_i e rest hq
    obtain ⟨outbound, belt, others⟩ := h
    have shorter : rest.length ≤ 24 := by simp [hq] at belt; omega
    exact calm (s := { s with sorter := { s.sorter with queue := rest } }) ⟨outbound, shorter, others⟩ (.dropPending ..)

theorem joinSorter {s : State} (room : s.sorter.queue.length < 24) (p : PrintRecord) (target : Target)
    (h : WithinLimits s) : WithinLimits (s.joinSorter p target) := by
  obtain ⟨outbound, -, others⟩ := h
  refine calm ?_ (.addPending ..)
  exact ⟨outbound, by simp; omega, others⟩

theorem sortPrint {s : State} (h : WithinLimits s) (p : PrintRecord) : WithinLimits (s.sortPrint p).2 := by
  have grouped := h.calm (.setGroup p s)
  unfold State.sortPrint
  dsimp only
  split
  · exact grouped
  · rename_i room
    split
    · exact grouped
    · rename_i r _
      have assigned := grouped.calm (.assign r _)
      have same : ((s.setGroup p).assign r).2.sorter.queue.length < 24 := by simpa using room
      split
      · rename_i target u e
        rw [e] at assigned same
        exact assigned.joinSorter same p target
      · rename_i u e
        rw [e] at assigned
        exact assigned

/-! ### The engine -/

/-- The engine takes a slot where one waits, so it is idle only where none does. -/
theorem engineTake {s : State} (outbound : s.link.outbound.length ≤ 64) (belt : s.sorter.queue.length ≤ 24)
    (slots : s.orders.length = 32) (delta : -240 ≤ s.cutter.delta ∧ s.cutter.delta ≤ 240)
    (progress : s.cutter.progress.isSome = true → s.cutter.cutList ≠ []) : WithinLimits s.engineTake := by
  refine ⟨by simpa using outbound, by simpa using belt, by simpa using slots, by simpa using delta, by simpa using progress, ?_⟩
  unfold State.engineTake
  split
  · simp
  · rename_i taken
    intro idle
    cases hq : s.price.queue with
    | nil => rfl
    | cons slot rest => exact absurd hq (taken slot rest idle)

theorem completionTest {s : State} (h : WithinLimits s) (n : Nat) : WithinLimits (s.completionTest n) := by
  unfold State.completionTest
  split
  · split
    · obtain ⟨outbound, belt, slots, delta, progress, -⟩ := h
      exact engineTake outbound belt (by simpa using slots) delta progress
    · exact h
  · exact h

theorem completePricing {s : State} (h : WithinLimits s) : WithinLimits s.completePricing := by
  unfold State.completePricing
  split
  · exact h
  · rename_i pricing _
    have priced (r : Order) : Calm s (s.orderPriced r) :=
      ((Inert.report ..).calm.trans (.mapBins ..)).trans (.freeOrder ..)
    have answered (u : State) (h : WithinLimits u) : WithinLimits
        (State.takeWaitingLoad { u with price := { u.price with engine := none } }).engineTake := by
      obtain ⟨outbound, belt, slots, delta, progress, -⟩ := h
      have load := Inert.takeWaitingLoad { u with price := { u.price with engine := none } }
      exact engineTake (load.outbound outbound) (by rw [load.belt]; exact belt) (by rw [load.orders]; exact slots)
        (by rw [load.cutter]; exact delta) (by rw [load.cutter]; exact progress)
    refine answered _ ?_
    split
    · exact h.calm (priced _)
    · exact h

theorem deliver {s : State} (h : WithinLimits s) (p : PrintRecord) : WithinLimits (s.deliver p) := by
  have delivered := h.calm (.updateOrder p.order (Order.deliver p) s)
  unfold State.deliver
  repeat' split
  · exact h
  · exact delivered
  · exact delivered.completionTest _
  · exact delivered.calm (.endIfDrained ..)
  · exact delivered.calm (.endIfDrained ..)
  · exact h

theorem deliverAt {s : State} (h : WithinLimits s) (p : PrintRecord) (place : Target) : WithinLimits (s.deliverAt p place) :=
  (h.inert ((Inert.report ..).trans (Inert.bump ..))).deliver p

theorem loseOldest {s : State} (h : WithinLimits s) : WithinLimits s.loseOldest := by
  unfold State.loseOldest
  split
  · exact h
  · exact (h.popSorter.calm (.rejectPrint ..)).inert (.raise ..)

theorem deliverOldest {s : State} (h : WithinLimits s) : WithinLimits s.deliverOldest := by
  unfold State.deliverOldest
  split
  · exact h
  · exact (h.popSorter.calm (.countInto ..)).deliverAt ..

theorem misdeliver {s : State} (h : WithinLimits s) (place : Target) : WithinLimits (s.misdeliver place) := by
  unfold State.misdeliver
  split
  · exact h
  · exact (h.popSorter.deliverAt ..).calm (.markStray ..)

theorem judgeDrop {s : State} (h : WithinLimits s) (place : Target) : WithinLimits (s.judgeDrop place) := by
  unfold State.judgeDrop
  repeat' split
  · exact h.calm (.markStray ..)
  · exact h.deliverOldest
  · exact h.loseOldest.deliverOldest
  · exact h.misdeliver place
  · exact h.misdeliver place

theorem expireOldest {s : State} (h : WithinLimits s) (fuel : Nat) : WithinLimits (s.expireOldest fuel) := by
  induction fuel generalizing s with
  | zero => exact h
  | succ fuel ih =>
    unfold State.expireOldest
    repeat' split
    · exact ih h.loseOldest
    all_goals exact h

/-! ### The cutter -/

theorem fixCut {s : State} (h : WithinLimits s) (b : Boundary) (cutAt : Int) : WithinLimits (s.fixCut b cutAt) := by
  obtain ⟨outbound, belt, slots, delta, -, engine⟩ := h
  exact ⟨outbound, belt, slots, delta, fun _ => by simp [State.fixCut], engine⟩

theorem scheduleCutPoint {s : State} (h : WithinLimits s) (j : Nat) (expected : Int) :
    WithinLimits (s.scheduleCutPoint j expected) := fixCut h ..

theorem declareMissing {s : State} (h : WithinLimits s) (start expected : Int) :
    WithinLimits (s.declareMissing start expected) := by
  have marked := h.calm ((Calm.setLead start .predicted s).trans (.flagAdjacent start _))
  unfold State.declareMissing
  dsimp only
  refine fixCut ?_ _ _
  split
  · refine inert ?_ (.raise ..)
    exact marked
  · exact marked

theorem testBoundaries {s : State} (h : WithinLimits s) (fuel : Nat) : WithinLimits (s.testBoundaries fuel).1 := by
  induction fuel generalizing s with
  | zero => exact h
  | succ fuel ih =>
    unfold State.testBoundaries
    repeat' split
    · exact h
    · exact h
    · exact ih (h.scheduleCutPoint ..)
    · exact h
    · exact ih (h.declareMissing ..)
    · exact h

theorem scheduleReached {s : State} (h : WithinLimits s) (fuel : Nat) : WithinLimits (s.scheduleReached fuel) := by
  induction fuel generalizing s with
  | zero => exact h
  | succ fuel ih =>
    unfold State.scheduleReached
    repeat' split
    · exact h
    · exact h
    · exact h
    · exact ih (h.scheduleCutPoint ..)
    · exact h

theorem matchPunch {s : State} (h : WithinLimits s) (start expected : Int) : WithinLimits (s.matchPunch start expected) := by
  obtain ⟨outbound, belt, slots, -, progress, engine⟩ := h.calm (.setLead start .registered s)
  unfold State.matchPunch
  refine fixCut ?_ _ _
  exact ⟨outbound, belt, slots, by simp only [clampDelta]; omega, progress, engine⟩

theorem judgePunch {s : State} (h : WithinLimits s) : WithinLimits s.judgePunch := by
  have spurious : WithinLimits s.spuriousPunch := by
    refine inert ?_ (.raise ..)
    exact h
  unfold State.judgePunch
  repeat' split
  · exact spurious
  · exact h
  · exact h
  · exact h.matchPunch ..
  · exact spurious
  · exact h

/-- The cut that is fired is of the oldest entry. -/
theorem fire {s : State} (h : WithinLimits s) (cuts : s.cutter.cutList ≠ []) : WithinLimits s.fire := by
  obtain ⟨outbound, belt, slots, delta, -, engine⟩ := h
  exact ⟨outbound, belt, slots, delta, fun _ => cuts, engine⟩

theorem cuts_of_dueEntry {s : State} {e : CutEntry} (h : s.dueEntry = some e) : s.cutter.cutList ≠ [] := by
  intro none
  simp [State.dueEntry, none] at h

theorem fireAtStep {s : State} (h : WithinLimits s) : WithinLimits s.fireAtStep := by
  unfold State.fireAtStep
  split
  · rename_i due
    obtain ⟨e, he⟩ := Option.isSome_iff_exists.mp due
    exact h.fire (cuts_of_dueEntry he)
  · exact h

theorem fireLate {s : State} (h : WithinLimits s) : WithinLimits s.fireLate := by
  unfold State.fireLate
  split
  · rename_i e due
    split
    · exact h
    · exact (h.calm (.markLate ..)).fire (by rw [(Calm.markLate e.boundary s).cutList]; exact cuts_of_dueEntry due)
  · exact h

theorem cutterStep {s : State} (h : WithinLimits s) (sample : PunchSample) : WithinLimits (s.cutterStep sample) := by
  have sampled : WithinLimits (s.samplePunch sample).1 := h
  unfold State.cutterStep
  dsimp only
  split
  · exact (sampled.testBoundaries _).judgePunch.fireAtStep
  · exact (sampled.testBoundaries _).fireAtStep

/-! ### The run -/

theorem halt {s : State} (h : WithinLimits s) (cause : HaltCause) : WithinLimits (s.halt cause) := by
  have stopped := (h.calm (.endExposure s)).calm (.stopStepping _)
  exact stopped

theorem haltIfMoving {s : State} (h : WithinLimits s) (cause : HaltCause) : WithinLimits (s.haltIfMoving cause) :=
  State.haltIfMoving_preserves (fun _ => h.halt cause) h

theorem endDrain {s : State} (h : WithinLimits s) : WithinLimits s.endDrain := by
  have stopped := h.calm (.stopStepping s)
  unfold State.endDrain
  dsimp only
  split
  · refine calm ?_ (.discardStaged ..)
    exact stopped
  · exact stopped

theorem keptByChoice : KeptByChoice WithinLimits where
  raise c s h := h.inert (.raise c s)
  halt cause _ _ h := h.halt cause
  endDrain _ _ _ h := h.endDrain
  rampBegins _ h := h
  rampEnds _ _ h := h
  paperDrain _ _ h := h
  segment _ _ _ _ _ _ h := h
  start _ _ _ _ _ h := h

theorem issueStep {s : State} (h : WithinLimits s) (sample : PunchSample) : WithinLimits (s.issueStep sample) := by
  have advanced {u : State} (h : WithinLimits u) : WithinLimits u.advanceWeb := h
  exact ((((advanced (h.calm (.settleFront s))).inert (Calm.countStep _)).calm (.exposeLine _)).calm
    (.markZoneEntry _)).cutterStep sample

theorem sendGood {s : State} (h : WithinLimits s) (p : PrintRecord) : WithinLimits (s.sendGood p) := by
  have sorted := h.sortPrint p
  unfold State.sendGood
  split <;> rename_i e <;> rw [e] at sorted
  · exact sorted
  · refine calm ?_ (.rejectPrint ..)
    exact sorted

theorem classify {s : State} (h : WithinLimits s) (g : Segment) : WithinLimits (s.classify g) := by
  unfold State.classify
  repeat' split
  · exact h.sendGood _
  · exact calm (s := s.setFlap .chute) h (.rejectPrint ..)
  · exact h

theorem freePiece {s : State} (h : WithinLimits s) : WithinLimits s.freePiece := by
  unfold State.freePiece
  split
  · exact h
  · rename_i g rest _
    have classified : WithinLimits (State.classify g { s with path := { s.path with queue := rest } }) := by
      refine classify ?_ g
      exact h
    dsimp only
    split
    · exact classified.endDrain
    · exact classified

theorem takeCutDone {s : State} (h : WithinLimits s) : WithinLimits s.takeCutDone := by
  unfold State.takeCutDone State.completeCut
  split
  · rename_i e rest _ _
    obtain ⟨outbound, belt, slots, delta, -, engine⟩ := h
    have taken : WithinLimits { s with cutter := { s.cutter with progress := none, cutList := rest } } :=
      ⟨outbound, belt, slots, delta, fun cut => absurd cut (by simp), engine⟩
    refine fireLate ?_
    split
    · exact taken.freePiece
    · exact taken
  · exact h

theorem giveUpCut {s : State} (h : WithinLimits s) : WithinLimits s.giveUpCut := by
  unfold State.giveUpCut
  split
  · rename_i progress e rest _ _
    obtain ⟨outbound, belt, slots, delta, -, engine⟩ := h
    have givenUp : WithinLimits { s with
        now := max s.now progress.due
        cutter := { s.cutter with progress := none, cutList := { e with retry := true } :: rest } } :=
      ⟨outbound, belt, slots, delta, fun cut => absurd cut (by simp), engine⟩
    exact ((givenUp.calm (.markLate ..)).inert (.raise ..)).haltIfMoving _
  · exact h

theorem takeStopInput {s : State} (h : WithinLimits s) (input : StopInput) (active : Bool) :
    WithinLimits (s.takeStopInput input active) := by
  have level : WithinLimits (s.setStopLevel input active) := by
    cases input <;> exact h
  unfold State.takeStopInput
  dsimp only
  repeat' split
  · exact h
  · exact (level.inert (.raise ..)).haltIfMoving _
  · exact level

theorem expireDwell {s : State} (h : WithinLimits s) : WithinLimits s.expireDwell := by
  unfold State.expireDwell
  split
  · rename_i due _
    have expired : WithinLimits { s with now := max s.now due, path := { s.path with dwell := .expired } } := h
    exact (expired.calm (.markZone (f := Segment.flagDwell) (fun _ => rfl) _)).inert (.raise ..)
  all_goals exact h

theorem abortRun {s : State} (h : WithinLimits s) : WithinLimits s.abortRun := by
  have awaiting (u : State) : Calm u u.abortAwaiting := by
    unfold State.abortAwaiting
    split
    · exact .withReader ..
    · exact .refl u
  have reset (u : State) (path : PathUnit) (h : WithinLimits u) :
      WithinLimits (State.resetCutter (State.purgePath { u with path := path })) := by
    obtain ⟨outbound, belt, slots, -, -, engine⟩ := h
    exact ⟨outbound, belt, slots, by simp [State.resetCutter], by simp [State.resetCutter], engine⟩
  exact reset _ _ (((((h.calm (.endExposure s)).calm (awaiting _)).calm (.stopStepping _)).calm (.abortSegments _)).calm
    (.discardStaged ..))

theorem takeRunAbort {s : State} (h : WithinLimits s) (f : InFrame) : WithinLimits (s.takeRunAbort f) := by
  refine inert ?_ (.removeImmediate _)
  have answered := h.inert (.answer f .accepted s)
  repeat' split
  · exact h.inert (.answer ..)
  · exact answered
  · exact answered.abortRun

theorem applyRunParams {s : State} (h : WithinLimits s) (p : RunParams) : WithinLimits (s.applyRunParams p) := by
  unfold State.applyRunParams State.reformCutPoints
  split
  · refine scheduleReached ?_ _
    exact h
  all_goals exact h

theorem takeRunparamLoad {s : State} (h : WithinLimits s) (f : InFrame) : WithinLimits (s.takeRunparamLoad f) := by
  refine inert ?_ (.removeSequenced _)
  repeat' split
  · exact h.inert (.answer ..)
  · exact (h.applyRunParams _).inert (.answer ..)
  · exact h.inert (.answer ..)

theorem takeRunStart {s : State} (h : WithinLimits s) (f : InFrame) : WithinLimits (s.takeRunStart f) := by
  have accepted : WithinLimits s.acceptRunStart := by
    unfold State.acceptRunStart
    split
    all_goals exact h
  refine inert ?_ (.removeImmediate _)
  repeat' split
  · exact h.inert (.answer ..)
  · exact accepted.inert (.answer ..)
  · exact h.inert (.answer ..)

theorem takeRunEnd {s : State} (h : WithinLimits s) (f : InFrame) : WithinLimits (s.takeRunEnd f) := by
  have accepted : WithinLimits s.acceptRunEnd := by
    unfold State.acceptRunEnd
    split
    all_goals exact h
  refine inert ?_ (.removeImmediate _)
  split
  · exact h.inert (.answer ..)
  · exact accepted.inert (.answer ..)

theorem takeOrderClose {s : State} (h : WithinLimits s) (f : InFrame) : WithinLimits (s.takeOrderClose f) := by
  refine inert ?_ (.removeSequenced _)
  repeat' split
  · exact h.inert (.answer ..)
  · exact h.inert (.answer ..)
  · exact ((h.calm (.updateOrder ..)).inert (.answer ..)).completionTest _
  · exact h.inert (.answer ..)

theorem reachDeadline {s : State} (h : WithinLimits s) : WithinLimits s.reachDeadline := by
  unfold State.reachDeadline
  split
  · refine expireOldest ?_ _
    exact h
  · exact h

end WithinLimits

theorem effect_withinLimits (c : Instr) {s : State} (h : WithinLimits s) : WithinLimits (effect c s) := by
  by_cases calm : calmCommand c = true
  · exact h.calm (effect_calm calm s)
  cases c
  case fullReset =>
    exact ⟨Nat.zero_le _, Nat.zero_le _, rfl, by simp [effect, State.reset, CutterUnit.reset], by simp [effect, State.reset,
      CutterUnit.reset], fun _ => rfl⟩
  case orderClose =>
    exact State.onSequenced_preserves (fun u _ h => h.calm (.toReading u)) (fun f _ _ h => h.takeOrderClose f) h
  case runparamLoad =>
    exact State.onSequenced_preserves (fun u _ h => h.calm (.toReading u)) (fun f _ _ h => h.takeRunparamLoad f) h
  case runStart => exact State.onImmediate_preserves (fun f _ h => h.takeRunStart f) h
  case runEnd => exact State.onImmediate_preserves (fun f _ h => h.takeRunEnd f) h
  case runAbort => exact State.onImmediate_preserves (fun f _ h => h.takeRunAbort f) h
  case step sample => exact WithinLimits.keptByChoice.takeStep (fun _ _ h => h) (fun sample _ h => h.issueStep sample) sample h
  case cutDone => exact h.takeCutDone
  case cutTimeout => exact h.giveUpCut
  case dwellExpiry => exact h.expireDwell
  case estopJamInput input active => exact h.takeStopInput input active
  case drop place => exact (h.judgeDrop _).expireOldest _
  case deliveryDeadline => exact h.reachDeadline
  case pricingComplete => exact h.completePricing
  all_goals exact absurd rfl calm

/-- Settles O58: a calm command keeps the limits by what it is; of the others each change of a queue, of δ, of the cut in progress and
of the engine keeps its limit. -/
theorem stepStaysWithinLimits : Obligations.StepStaysWithinLimits := fun _ _ =>
  step_preserves (fun _ _ h => h) (fun s pins h => h.inert (.tickWith pins s)) fun c _ => effect_withinLimits c

end Sys2Proof.Machine
end

section
/-!
PROOFS. Every step keeps the Store Reader coherent (section 3.1): a staged print in mode STAGED alone, line source STORE in mode FEEDING
alone.
-/

namespace Sys2Proof.Machine

/-! ### Commands that leave the reader as it is -/

theorem State.takeOrderOpen_reader (f : InFrame) (s : State) : (s.takeOrderOpen f).reader = s.reader := by
  unfold State.takeOrderOpen
  split <;> simp

theorem State.takeOrderClose_reader (f : InFrame) (s : State) : (s.takeOrderClose f).reader = s.reader := by
  unfold State.takeOrderClose
  repeat' split
  all_goals simp

theorem State.takeRunparamLoad_reader (f : InFrame) (s : State) : (s.takeRunparamLoad f).reader = s.reader := by
  unfold State.takeRunparamLoad State.applyRunParams
  repeat' split
  all_goals simp

theorem State.takeRunStart_reader (f : InFrame) (s : State) : (s.takeRunStart f).reader = s.reader := by
  unfold State.takeRunStart State.acceptRunStart State.startRun
  repeat' split
  all_goals simp

theorem State.takeRunEnd_reader (f : InFrame) (s : State) : (s.takeRunEnd f).reader = s.reader := by
  unfold State.takeRunEnd State.acceptRunEnd
  repeat' split
  all_goals simp

theorem State.expireDwell_reader (s : State) : s.expireDwell.reader = s.reader := by
  unfold State.expireDwell
  split <;> simp

theorem State.completePricing_reader (s : State) : s.completePricing.reader = s.reader := by
  have take (u : State) : u.engineTake.reader = u.reader := by simp
  unfold State.completePricing
  split
  · rfl
  · dsimp only
    rw [take, (Inert.takeWaitingLoad _).reader]
    split <;> simp

namespace ReaderCoherent

theorem congr {s t : State} (h : ReaderCoherent s) (same : t.reader = s.reader) : ReaderCoherent t := by
  unfold ReaderCoherent
  rw [same]
  exact h

theorem inert {s t : State} (h : ReaderCoherent s) (k : Inert s t) : ReaderCoherent t := h.congr k.reader

/-! ### A staged print that is discarded -/

/-- The staged print ceases to be staged, and the reader enters READING or DISCARDING. -/
theorem unstage {s : State} (h : ReaderCoherent s) (staged : s.reader.mode = .staged) {mode : ReaderMode}
    (leaves : mode ≠ .staged ∧ mode ≠ .feeding) :
    ReaderCoherent { s with reader := { s.reader with staged := none, mode := mode } } := by
  obtain ⟨-, source⟩ := h
  exact ⟨by simp [leaves], by simpa [leaves, staged] using source⟩

theorem discardStagedOf {s : State} (h : ReaderCoherent s) (n : Nat) : ReaderCoherent (s.discardStagedOf n) := by
  unfold State.discardStagedOf
  split
  · exact h
  · rename_i p held
    split
    · exact congr (h.unstage (mode := .discarding) (h.1.mp (by simp [held])) (by decide)) (by simp)
    · exact h

theorem windDown {s : State} (h : ReaderCoherent s) (n : Nat) (next : OrderState) : ReaderCoherent (s.windDown n next) := by
  refine congr (discardStagedOf (s := s.updateOrder n fun r => { r with state := next, remakes := [] }) h n) ?_
  simp [State.windDown]

theorem reject {s : State} (h : ReaderCoherent s) (order index attempt : Nat) :
    ReaderCoherent (s.reject order index attempt) := by
  have failed : ReaderCoherent (((s.updateOrder order Order.leaveFlight).raise .orderFailed).windDown order .failing) :=
    windDown (h.congr (by simp)) ..
  unfold State.reject
  dsimp only
  repeat' split
  · exact h
  · exact h.congr (by simp)
  · exact failed
  · exact h.congr (by simp)
  · exact failed
  · exact h.congr (by simp)
  · exact h.congr (by simp)
  · exact h

theorem discardStaged {s : State} (h : ReaderCoherent s) (reason : RejectReason) {mode : ReaderMode}
    (leaves : mode ≠ .staged ∧ mode ≠ .feeding) : ReaderCoherent (s.discardStaged reason mode) := by
  unfold State.discardStaged
  split
  · exact h
  · rename_i p held
    exact reject ((h.unstage (h.1.mp (by simp [held])) leaves).congr (by simp)) ..

theorem rejectPrint {s : State} (h : ReaderCoherent s) (p : PrintRecord) (l : List RejectReason) :
    ReaderCoherent (s.rejectPrint p l) :=
  reject (h.congr (by simp)) ..

/-! ### The frames at the front -/

/-- A reader that holds no staged print enters another mode than STAGED and FEEDING, with another source than STORE. -/
theorem leave {s t : State} (h : ReaderCoherent s) (unstaged : s.reader.mode ≠ .staged)
    (same : t.reader.staged = s.reader.staged) (leaves : t.reader.mode ≠ .staged ∧ t.reader.mode ≠ .feeding)
    (notStore : t.reader.source ≠ some .store) : ReaderCoherent t := by
  obtain ⟨staged, -⟩ := h
  exact ⟨by simpa [leaves, unstaged, same] using staged, by simp [leaves, notStore]⟩

/-- The source stays where the reader does not leave FEEDING. -/
theorem source_ne_store {s : State} (h : ReaderCoherent s) (mode : s.reader.mode ≠ .feeding) :
    s.reader.source ≠ some .store := fun e => mode (h.2.mp e)

theorem endStreamShort {s : State} (h : ReaderCoherent s) (feeding : s.reader.mode = .feeding) :
    ReaderCoherent s.endStreamShort :=
  h.leave (by simp [feeding]) rfl ⟨nofun, nofun⟩ nofun

theorem enterReading {s : State} (h : ReaderCoherent s) (mode : s.reader.mode = .awaitingEnd ∨ s.reader.mode = .discarding) :
    ReaderCoherent s.enterReading := by
  refine h.leave ?_ rfl ⟨nofun, nofun⟩ (h.source_ne_store ?_)
  all_goals rcases mode with e | e <;> simp [e]

theorem toReading {s : State} (h : ReaderCoherent s) : ReaderCoherent s.toReading := by
  unfold State.toReading
  split
  · rename_i feeding
    exact endStreamShort (s := s.noteHead _) h feeding
  · rename_i awaiting
    have noted : ReaderCoherent (s.noteAwaited fun n => { n with missingEnd := true }) := h.congr (by simp)
    exact noted.enterReading (.inl (by simpa using awaiting))
  · exact h.enterReading (.inr ‹_›)
  all_goals exact h

theorem takePrintHeader {s : State} (h : ReaderCoherent s) (reading : s.reader.mode = .reading) (f : InFrame) :
    ReaderCoherent (s.takePrintHeader f) := by
  have noStore := h.source_ne_store (by simp [reading])
  have refused (hd : Header) (reason : RefusalReason) : ReaderCoherent (s.refusePrint hd reason) :=
    h.leave (by simp [reading]) (by simp [State.refusePrint]) (by simp [State.refusePrint])
      (by simpa [State.refusePrint] using noStore)
  have accepted (hd : Header) (r : Order) (length : Nat) : ReaderCoherent (s.acceptPrint hd r length) := by
    constructor <;> simp [State.acceptPrint, noStore]
  unfold State.takePrintHeader
  dsimp only
  repeat' split
  · exact refused ..
  · exact refused ..
  · exact accepted ..
  · exact h

theorem takeLine {s : State} (h : ReaderCoherent s) : ReaderCoherent s.takeLine := by
  unfold State.takeLine State.takeOutOfPlace
  repeat' split
  all_goals exact h.congr (by simp)

theorem takePrintEnd {s : State} (h : ReaderCoherent s) : ReaderCoherent s.takePrintEnd := by
  unfold State.takePrintEnd State.takeOutOfPlace
  repeat' split
  · exact h.congr (by simp)
  · exact congr (h.endStreamShort ‹_›) (by simp)
  · exact congr (h.enterReading (.inl ‹_›)) (by simp)
  · exact congr (h.enterReading (.inr ‹_›)) (by simp)
  all_goals exact h

theorem resetReader {s : State} (h : ReaderCoherent s) : ReaderCoherent s.resetReader := by
  unfold State.resetReader
  split
  · exact h
  · exact h.discardStaged _ (by decide)
  · exact h.leave (by simp [*]) rfl ⟨nofun, nofun⟩ nofun
  · exact h.enterReading (.inl ‹_›)
  · exact h.enterReading (.inr ‹_›)

/-! ### The run -/

/-- The exposure ends where the paper stops; a staged print stays. -/
theorem endExposure {s : State} (h : ReaderCoherent s) : ReaderCoherent s.endExposure := by
  unfold State.endExposure
  split
  · obtain ⟨staged, -⟩ := h
    refine congr (s := { s with reader := { s.reader with
      source := none, lastLine := none, mode := if s.reader.mode = .feeding then .discarding else s.reader.mode } }) ?_ rfl
    constructor
    · cases hm : s.reader.mode <;> simp_all
    · cases hm : s.reader.mode <;> simp
  · exact h

theorem halt {s : State} (h : ReaderCoherent s) (cause : HaltCause) : ReaderCoherent (s.halt cause) :=
  congr h.endExposure (by simp [State.halt])

theorem haltIfMoving {s : State} (h : ReaderCoherent s) (cause : HaltCause) : ReaderCoherent (s.haltIfMoving cause) :=
  State.haltIfMoving_preserves (fun _ => h.halt cause) h

theorem endDrain {s : State} (h : ReaderCoherent s) : ReaderCoherent s.endDrain := by
  unfold State.endDrain
  dsimp only
  split
  · refine discardStaged ?_ _ (by decide)
    exact h
  · exact h

theorem keptByChoice : KeptByChoice ReaderCoherent where
  raise c s h := h.inert (.raise c s)
  halt cause _ _ h := h.halt cause
  endDrain _ _ _ h := h.endDrain
  rampBegins _ h := h
  rampEnds _ _ h := h
  paperDrain _ _ h := h
  segment _ _ _ _ _ _ h := h
  start _ _ _ _ _ _ := ⟨by simp [State.startPrint, State.beginSegment], by simp [State.startPrint, State.beginSegment]⟩

theorem settleFront {s : State} (h : ReaderCoherent s) : ReaderCoherent s.settleFront := by
  unfold State.settleFront
  repeat' split
  · exact h
  · exact congr (h.endStreamShort ‹_›) (by simp)
  · exact endStreamShort (s := s.noteHead _) h ‹_›
  · exact h

theorem completePrint {s : State} (h : ReaderCoherent s) : ReaderCoherent s.completePrint := by
  have completed (awaited : Option PrintKey) : ReaderCoherent { s with reader := { s.reader with
      source := none, lastLine := none, awaited := awaited,
      mode := if s.reader.mode = .feeding then .awaitingEnd else s.reader.mode } } := by
    obtain ⟨staged, -⟩ := h
    constructor
    · cases hm : s.reader.mode <;> simp_all
    · cases hm : s.reader.mode <;> simp
  unfold State.completePrint
  split
  · split
    · split
      · exact completed _
      · exact h
    · exact h
  · exact h

/-- The line of a step changes the line handed over last, and no more of the reader. -/
theorem nextLine {s : State} (h : ReaderCoherent s) (p : PrintRecord) (source : LineSource) :
    ReaderCoherent (s.nextLine p source).2 := by
  cases source
  case margin => exact h
  case cutOff => exact h.congr (by simp [State.nextLine])
  case store =>
    unfold State.nextLine
    cases s.store with
    | nil => exact congr (s := { s with reader := { s.reader with lastLine := some _ } }) h (by simp; rfl)
    | cons f rest => exact congr (s := { s with reader := { s.reader with lastLine := some _ } }) h (by simp; rfl)

theorem issueStep {s : State} (h : ReaderCoherent s) (sample : PunchSample) : ReaderCoherent (s.issueStep sample) := by
  have exposed {u : State} (h : ReaderCoherent u) : ReaderCoherent u.exposeLine := by
    unfold State.exposeLine
    split
    · refine completePrint ?_
      exact h.nextLine _ _
    · exact h
  have advanced : ReaderCoherent s.settleFront.advanceWeb := h.settleFront
  refine congr (exposed (advanced.inert (Calm.countStep _))) ?_
  simp [State.issueStep]

/-! ### The other commands -/

theorem loseOldest {s : State} (h : ReaderCoherent s) : ReaderCoherent s.loseOldest := by
  unfold State.loseOldest
  split
  · exact h
  · rename_i e _ _
    exact congr (rejectPrint (s := s.popSorter) (h.congr (by simp)) e.print [.lost]) (by simp)

theorem judgeDrop {s : State} (h : ReaderCoherent s) (place : Target) : ReaderCoherent (s.judgeDrop place) := by
  unfold State.judgeDrop
  repeat' split
  · exact h.congr (by simp)
  · exact h.congr (by simp)
  · exact h.loseOldest.congr (by simp)
  all_goals exact h.congr (by simp)

theorem expireOldest {s : State} (h : ReaderCoherent s) (fuel : Nat) : ReaderCoherent (s.expireOldest fuel) := by
  induction fuel generalizing s with
  | zero => exact h
  | succ fuel ih =>
    unfold State.expireOldest
    repeat' split
    · exact ih h.loseOldest
    all_goals exact h

theorem reachDeadline {s : State} (h : ReaderCoherent s) : ReaderCoherent s.reachDeadline := by
  unfold State.reachDeadline
  split
  · refine expireOldest ?_ _
    exact h
  · exact h

theorem classify {s : State} (h : ReaderCoherent s) (g : Segment) : ReaderCoherent (s.classify g) := by
  have good (p : PrintRecord) : ReaderCoherent (s.sendGood p) := by
    have sorted : ReaderCoherent (s.sortPrint p).2 := h.congr (by simp)
    unfold State.sendGood
    split <;> rename_i e <;> rw [e] at sorted
    · exact sorted
    · refine rejectPrint ?_ _ _
      exact sorted
  unfold State.classify
  repeat' split
  · exact good _
  · refine rejectPrint ?_ _ _
    exact h
  · exact h

theorem freePiece {s : State} (h : ReaderCoherent s) : ReaderCoherent s.freePiece := by
  unfold State.freePiece
  split
  · exact h
  · rename_i g rest _
    have classified : ReaderCoherent (State.classify g { s with path := { s.path with queue := rest } }) := by
      refine classify ?_ g
      exact h
    dsimp only
    split
    · exact classified.endDrain
    · exact classified

theorem takeCutDone {s : State} (h : ReaderCoherent s) : ReaderCoherent s.takeCutDone := by
  unfold State.takeCutDone State.completeCut
  split
  · have fired {u : State} (h : ReaderCoherent u) : ReaderCoherent u.fireLate := h.congr (by simp)
    refine fired ?_
    split
    · refine freePiece ?_
      exact h
    · exact h
  · exact h

theorem abortRun {s : State} (h : ReaderCoherent s) : ReaderCoherent s.abortRun := by
  have awaiting {u : State} (h : ReaderCoherent u) : ReaderCoherent u.abortAwaiting := by
    unfold State.abortAwaiting
    split
    · rename_i mode
      exact h.leave (by simp [mode]) rfl ⟨nofun, nofun⟩ (h.source_ne_store (by simp [mode]))
    · exact h
  have rejected {u : State} (h : ReaderCoherent u) : ReaderCoherent u.abortSegments := by
    refine List.foldlRecOn _ _ h fun u h i _ => ?_
    unfold State.abortSegment
    repeat' split
    · exact h.rejectPrint ..
    all_goals exact h
  have cleared {u : State} (h : ReaderCoherent u) : ReaderCoherent (State.resetCutter (State.purgePath { u with
      path := { u.path with run := .idle, haltCause := none, drainCause := none, dwell := .stopped } })) := h
  have stopped : ReaderCoherent s.endExposure.abortAwaiting.stopStepping := awaiting h.endExposure
  exact cleared ((rejected stopped).discardStaged .aborted (mode := .discarding) (by decide))

theorem takeRunAbort {s : State} (h : ReaderCoherent s) (f : InFrame) : ReaderCoherent (s.takeRunAbort f) := by
  refine inert ?_ (.removeImmediate _)
  have answered := h.inert (.answer f .accepted s)
  repeat' split
  · exact h.inert (.answer ..)
  · exact answered
  · exact answered.abortRun

theorem takeOrderCancel {s : State} (h : ReaderCoherent s) (f : InFrame) : ReaderCoherent (s.takeOrderCancel f) := by
  refine inert ?_ (.removeImmediate _)
  repeat' split
  · exact h.inert (.answer ..)
  · exact h.inert (.answer ..)
  · exact (h.inert (.answer ..)).windDown ..
  · exact (h.inert (.answer ..)).windDown ..
  all_goals exact h.inert (.answer ..)

theorem giveUpCut {s : State} (h : ReaderCoherent s) : ReaderCoherent s.giveUpCut := by
  unfold State.giveUpCut
  split
  · exact haltIfMoving (h.congr (by simp)) _
  · exact h

theorem takeStopInput {s : State} (h : ReaderCoherent s) (input : StopInput) (active : Bool) :
    ReaderCoherent (s.takeStopInput input active) := by
  unfold State.takeStopInput
  dsimp only
  repeat' split
  · exact h
  · exact haltIfMoving (h.congr (by simp)) _
  · exact h.congr (by simp)

end ReaderCoherent

theorem effect_readerCoherent (c : Instr) {s : State} (h : ReaderCoherent s) : ReaderCoherent (effect c s) := by
  by_cases inert : inertCommand c = true
  · exact h.inert (effect_inert inert s)
  have sequenced {kind : InKind} {act : InFrame → State → State}
      (acts : ∀ f u, u.reader.mode = .reading → ReaderCoherent u → ReaderCoherent (act f u)) :
      ReaderCoherent (s.onSequenced kind act) :=
    State.onSequenced_preserves (fun _ _ h => h.toReading) acts h
  have immediate {kind : InKind} {act : InFrame → State → State} (acts : ∀ f u, ReaderCoherent u → ReaderCoherent (act f u)) :
      ReaderCoherent (s.onImmediate kind act) :=
    State.onImmediate_preserves acts h
  cases c
  case fullReset => exact ⟨by simp [effect, State.reset, Reader.reset], by simp [effect, State.reset, Reader.reset]⟩
  case linkReset => exact ReaderCoherent.resetReader h
  case orderOpen => exact sequenced fun f u _ h => h.congr (State.takeOrderOpen_reader f u)
  case orderClose => exact sequenced fun f u _ h => h.congr (State.takeOrderClose_reader f u)
  case printHeader => exact sequenced fun f _ reading h => h.takePrintHeader reading f
  case line => exact h.takeLine
  case printEnd => exact h.takePrintEnd
  case paperLoad => exact sequenced fun f u _ h => h.inert (.takePaperLoad f u)
  case profileLoad => exact sequenced fun f u _ h => h.inert (.unlessExposing .takeProfileLoad f u)
  case lutLoad => exact sequenced fun f u _ h => h.inert (.unlessExposing .takeLutLoad f u)
  case thermalLoad => exact sequenced fun f u _ h => h.inert (.unlessExposing .takeThermalLoad f u)
  case sizeLoad => exact sequenced fun f u _ h => h.inert (.unlessExposing .takeSizeLoad f u)
  case runparamLoad => exact sequenced fun f u _ h => h.congr (State.takeRunparamLoad_reader f u)
  case runStart => exact immediate fun f u h => h.congr (State.takeRunStart_reader f u)
  case runEnd => exact immediate fun f u h => h.congr (State.takeRunEnd_reader f u)
  case runAbort => exact immediate fun f _ h => h.takeRunAbort f
  case orderCancel => exact immediate fun f _ h => h.takeOrderCancel f
  case step sample => exact ReaderCoherent.keptByChoice.takeStep (fun _ _ h => h) (fun sample _ h => h.issueStep sample) sample h
  case cutDone => exact h.takeCutDone
  case cutTimeout => exact h.giveUpCut
  case dwellExpiry => exact h.congr (State.expireDwell_reader s)
  case conversion value => exact h.congr (by simp [effect, State.takeConversion])
  case estopJamInput input active => exact h.takeStopInput input active
  case drop place => exact (h.judgeDrop _).expireOldest _
  case deliveryDeadline => exact h.reachDeadline
  case binClear bin => exact h.congr (by simp [effect])
  case pricingComplete => exact h.congr (State.completePricing_reader s)
  all_goals exact absurd rfl inert

/-- Settles O56: the reader is touched by the frames at its front, by the start, the end and the completion of a print, by a stop, and
by the discard of the staged print alone; each of them keeps the two conditions. -/
theorem stepKeepsTheReaderCoherent : Obligations.StepKeepsTheReaderCoherent := fun _ _ =>
  step_preserves (fun _ _ h => h) (fun s pins h => h.inert (.tickWith pins s)) fun c _ => effect_readerCoherent c

end Sys2Proof.Machine
end

section
/-!
PROOFS. The books of the Order Table (sections 1.1 to 1.8): for a list of the orders of the prints that the part holds, each live order's
in-flight count is the number of times that it is listed. How the operations of the Order Table and of the Price Engine keep the books.
-/

namespace Sys2Proof.Machine

/-! ### The slots of the Order Table -/

/-- The slot holds this order record. -/
def State.HasOrder (slot : Nat) (r : Order) (s : State) : Prop := s.orders[slot]? = some (some r)

theorem State.exists_hasOrder_iff_mem {r : Order} {s : State} : (∃ slot, s.HasOrder slot r) ↔ some r ∈ s.orders :=
  List.mem_iff_getElem?.symm

theorem State.findOrder_eq_none_iff {n : Nat} {s : State} :
    s.findOrder n = none ↔ ∀ slot r, s.HasOrder slot r → r.number ≠ n := by
  rw [State.findOrder, List.findSome?_eq_none_iff]
  constructor
  · intro none slot r held number
    have matched : matchOrder n (some r) = some r := matchOrder_eq_some.mpr ⟨rfl, number⟩
    simp [none _ (State.exists_hasOrder_iff_mem.mp ⟨slot, held⟩)] at matched
  · intro none o held
    cases matched : matchOrder n o with
    | none => rfl
    | some r =>
      obtain ⟨rfl, number⟩ := matchOrder_eq_some.mp matched
      obtain ⟨slot, held⟩ := State.exists_hasOrder_iff_mem.mpr held
      exact absurd number (none slot r held)

theorem State.hasOrder_of_findOrder {n : Nat} {r : Order} {s : State} (found : s.findOrder n = some r) :
    ∃ slot, s.HasOrder slot r := by
  obtain ⟨o, held, matched⟩ := List.exists_of_findSome?_eq_some found
  obtain ⟨rfl, -⟩ := matchOrder_eq_some.mp matched
  exact State.exists_hasOrder_iff_mem.mpr held

theorem State.hasOrder_of_slotOf {n slot : Nat} {s : State} (found : s.slotOf n = some slot) :
    ∃ r, s.HasOrder slot r ∧ r.number = n := by
  obtain ⟨inside, matched, -⟩ := List.findIdx?_eq_some_iff_getElem.mp found
  obtain ⟨r, matched⟩ := Option.isSome_iff_exists.mp matched
  obtain ⟨held, number⟩ := matchOrder_eq_some.mp matched
  exact ⟨r, by rw [State.HasOrder, List.getElem?_eq_getElem inside, held], number⟩

/-- The records after the update of the order of a number. -/
theorem State.hasOrder_updateOrder {n slot : Nat} {f : Order → Order} {q : Order} {s : State} :
    (s.updateOrder n f).HasOrder slot q ↔ ∃ r, s.HasOrder slot r ∧ q = if r.number = n then f r else r := by
  simp only [State.HasOrder, State.updateOrder_orders, List.getElem?_map]
  rcases s.orders[slot]? with _ | _ | r
  all_goals simp [eq_comm]

/-- The records after an order's slot has been freed. -/
theorem State.hasOrder_freeOrder {n slot : Nat} {r : Order} {s : State} :
    (s.freeOrder n).HasOrder slot r ↔ s.HasOrder slot r ∧ r.number ≠ n := by
  have freed : (s.freeOrder n).orders = s.orders.map fun o => if (matchOrder n o).isSome then none else o := by
    simp [State.freeOrder]
  simp only [State.HasOrder, freed, List.getElem?_map]
  rcases s.orders[slot]? with _ | _ | q
  · simp
  · simp [matchOrder]
  · by_cases number : q.number = n
    · simp only [Option.map_some, matchOrder, number, if_true, Option.isSome_some, Option.some.injEq, reduceCtorEq, false_iff]
      rintro ⟨rfl, other⟩
      exact other number
    · simp only [Option.map_some, matchOrder, number, if_false, Option.isSome_none, Option.some.injEq, Bool.false_eq_true]
      exact ⟨fun e => ⟨e, e ▸ number⟩, fun e => e.1⟩

/-! ### The books -/

/-- The balance that an order record shows by itself: S = D + F + (entries on the remake list) until the order is wound down, with F = 0
in PRICING (section 1.7). -/
def Order.Balances (r : Order) : Prop :=
  (r.state = .opened ∨ r.state = .closed ∨ r.state = .pricing → r.sent = r.delivered + r.inFlight + r.remakes.length) ∧
    (r.state = .pricing → r.inFlight = 0)

theorem Order.balances_of_windingDown {r : Order} (h : r.state = .cancelling ∨ r.state = .failing) : r.Balances := by
  rcases h with h | h <;> simp [Order.Balances, h]

/-- The books for the listed prints: each live order is in one slot, its F counts its listed prints, its record balances unless it is the
order that a command is about to change further, every listed print is of a live order, and the slots that the Price Engine holds are
of PRICING orders. -/
structure Books (open_ : Option Nat) (held : List Nat) (s : State) : Prop where
  distinct : ∀ i j r q, s.HasOrder i r → s.HasOrder j q → r.number = q.number → i = j
  count : ∀ i r, s.HasOrder i r → r.inFlight = held.count r.number
  balance : ∀ i r, s.HasOrder i r → some r.number ≠ open_ → r.Balances
  live : ∀ n ∈ held, ∃ i r, s.HasOrder i r ∧ r.number = n
  once : s.price.slots.Nodup
  priced : ∀ slot ∈ s.price.slots, ∃ r, s.HasOrder slot r ∧ r.state = .pricing

namespace Books

variable {open_ : Option Nat} {held : List Nat} {s t : State}

theorem congr (h : Books open_ held s) (orders : t.orders = s.orders) (slots : t.price.slots = s.price.slots) :
    Books open_ held t := by
  obtain ⟨distinct, count, balance, live, once, priced⟩ := h
  constructor
  all_goals simp only [State.HasOrder, orders, slots]
  all_goals assumption

theorem perm {l : List Nat} (h : Books open_ held s) (p : List.Perm l held) : Books open_ l s where
  distinct := h.distinct
  count i r hr := (h.count i r hr).trans (p.count_eq _).symm
  balance := h.balance
  live n hn := h.live n (p.mem_iff.mp hn)
  once := h.once
  priced := h.priced

/-- The record of a live order, by its number. -/
theorem eq_of_number (h : Books open_ held s) {i j : Nat} {r q : Order} (hr : s.HasOrder i r) (hq : s.HasOrder j q)
    (number : r.number = q.number) : r = q := by
  obtain rfl := h.distinct i j r q hr hq number
  simpa [State.HasOrder] using hr.symm.trans hq

theorem eq_of_found (h : Books open_ held s) {n i : Nat} {r q : Order} (found : s.findOrder n = some r)
    (hq : s.HasOrder i q) (number : q.number = n) : q = r := by
  obtain ⟨j, hr⟩ := State.hasOrder_of_findOrder found
  exact h.eq_of_number hq hr (number.trans (State.findOrder_number found).symm)

theorem findOrder_of_hasOrder (h : Books open_ held s) {i : Nat} {r : Order} (hr : s.HasOrder i r) :
    s.findOrder r.number = some r := by
  cases found : s.findOrder r.number with
  | none => exact absurd rfl (State.findOrder_eq_none_iff.mp found i r hr)
  | some q => rw [h.eq_of_found found hr rfl]

/-- The order of a listed print is live. -/
theorem exists_found (h : Books open_ held s) {n : Nat} (listed : n ∈ held) : ∃ r, s.findOrder n = some r := by
  obtain ⟨i, r, hr, rfl⟩ := h.live n listed
  exact ⟨r, h.findOrder_of_hasOrder hr⟩

theorem count_of_found (h : Books open_ held s) {n : Nat} {r : Order} (found : s.findOrder n = some r) :
    r.inFlight = held.count n := by
  obtain ⟨i, hr⟩ := State.hasOrder_of_findOrder found
  rw [h.count i r hr, State.findOrder_number found]

theorem balances_of_found (h : Books open_ held s) {n : Nat} {r : Order} (found : s.findOrder n = some r)
    (closed : some n ≠ open_) : r.Balances := by
  obtain ⟨i, hr⟩ := State.hasOrder_of_findOrder found
  exact h.balance i r hr (by rwa [State.findOrder_number found])

/-- The update of a live order's record, and with it of the prints listed for that order, keeps the books. -/
theorem update {now : Option Nat} {l : List Nat} {n : Nat} {f : Order → Order} {r : Order} (h : Books open_ held s)
    (found : s.findOrder n = some r) (number : ∀ q, (f q).number = q.number) (count : (f r).inFlight = l.count n)
    (others : ∀ m, m ≠ n → l.count m = held.count m) (balance : some n ≠ now → (f r).Balances)
    (opened : ∀ m, m ≠ n → some m ≠ now → some m ≠ open_) (state : r.state = .pricing → (f r).state = .pricing) :
    Books now l (s.updateOrder n f) := by
  have number' (q : Order) : (if q.number = n then f q else q).number = q.number := by
    split
    · exact number q
    · rfl
  constructor
  case distinct =>
    intro i j r q hr hq e
    obtain ⟨r, wasR, rfl⟩ := State.hasOrder_updateOrder.mp hr
    obtain ⟨q, wasQ, rfl⟩ := State.hasOrder_updateOrder.mp hq
    exact h.distinct i j r q wasR wasQ (by simpa only [number'] using e)
  case count =>
    intro i q hq
    obtain ⟨q, wasQ, rfl⟩ := State.hasOrder_updateOrder.mp hq
    rw [number']
    split
    · rename_i e
      rw [h.eq_of_found found wasQ e, count, State.findOrder_number found]
    · rw [h.count i q wasQ, others _ ‹_›]
  case balance =>
    intro i q hq closed
    obtain ⟨q, wasQ, rfl⟩ := State.hasOrder_updateOrder.mp hq
    rw [number'] at closed
    split
    · rename_i e
      rw [h.eq_of_found found wasQ e]
      exact balance (e ▸ closed)
    · exact h.balance i q wasQ (opened _ ‹_› closed)
  case live =>
    intro m hm
    by_cases e : m = n
    · subst e
      obtain ⟨i, hr⟩ := State.hasOrder_of_findOrder found
      exact ⟨i, _, State.hasOrder_updateOrder.mpr ⟨r, hr, rfl⟩, (number' r).trans (State.findOrder_number found)⟩
    · have listed : m ∈ held := List.count_pos_iff.mp (by rw [← others m e]; exact List.count_pos_iff.mpr hm)
      obtain ⟨i, q, hq, rfl⟩ := h.live m listed
      exact ⟨i, _, State.hasOrder_updateOrder.mpr ⟨q, hq, rfl⟩, number' q⟩
  case once => exact h.once
  case priced =>
    intro slot hs
    obtain ⟨q, hq, pricing⟩ := h.priced slot hs
    refine ⟨_, State.hasOrder_updateOrder.mpr ⟨q, hq, rfl⟩, ?_⟩
    split
    · rename_i e
      obtain rfl := h.eq_of_found found hq e
      exact state pricing
    · exact pricing

/-- An update that touches nothing of the accounts keeps the books. -/
theorem touch {n : Nat} {f : Order → Order} (h : Books open_ held s) (number : ∀ q, (f q).number = q.number)
    (inFlight : ∀ q, (f q).inFlight = q.inFlight) (balances : ∀ q, q.Balances → (f q).Balances)
    (state : ∀ q, (f q).state = q.state) : Books open_ held (s.updateOrder n f) := by
  cases found : s.findOrder n with
  | none =>
    refine h.congr ?_ rfl
    rw [State.updateOrder_orders]
    refine (List.map_congr_left fun o ho => ?_).trans (List.map_id' s.orders)
    cases o with
    | none => rfl
    | some r =>
      obtain ⟨i, hr⟩ := State.exists_hasOrder_iff_mem.mpr ho
      simp [State.findOrder_eq_none_iff.mp found i r hr]
  | some r =>
    exact h.update found number ((inFlight r).trans (h.count_of_found found)) (fun _ _ => rfl)
      (fun closed => balances r (h.balances_of_found found closed)) (fun _ _ closed => closed) (fun e => (state r).trans e)

/-- The slot of an order is freed that has no print listed and is not held by the Price Engine. -/
theorem free {n : Nat} (h : Books open_ held s) (unlisted : n ∉ held)
    (unpriced : ∀ slot ∈ s.price.slots, ∀ r, s.HasOrder slot r → r.number ≠ n) : Books open_ held (s.freeOrder n) where
  distinct i j r q hr hq := h.distinct i j r q (State.hasOrder_freeOrder.mp hr).1 (State.hasOrder_freeOrder.mp hq).1
  count i r hr := h.count i r (State.hasOrder_freeOrder.mp hr).1
  balance i r hr := h.balance i r (State.hasOrder_freeOrder.mp hr).1
  live m hm := by
    obtain ⟨i, r, hr, rfl⟩ := h.live m hm
    exact ⟨i, r, State.hasOrder_freeOrder.mpr ⟨hr, fun e => unlisted (e ▸ hm)⟩, rfl⟩
  once := h.once
  priced slot hs := by
    obtain ⟨r, hr, pricing⟩ := h.priced slot hs
    exact ⟨r, State.hasOrder_freeOrder.mpr ⟨hr, unpriced slot hs r hr⟩, pricing⟩

end Books

end Sys2Proof.Machine
end

section
/-!
PROOFS. The ledger of the orders through the operations of the Order Table: a rejection, a delivery, the winding down of an order, its
end, the completion test, the completion of a pricing, and the acceptance of a header (sections 1.3 to 1.8 and 8.3).
-/

namespace Sys2Proof.Machine

/-- The order of the staged print, if one is staged. -/
def State.stagedOrders (s : State) : List Nat := s.reader.staged.toList.map PrintRecord.order

/-- The books for the staged print and the listed prints beside it. -/
def Ledger (held : List Nat) (s : State) : Prop := Books none (s.stagedOrders ++ held) s

/-- The order records after a delivery: the accounts of R12, whatever the tally does. -/
theorem Order.deliver_accounts (p : PrintRecord) (r : Order) :
    (r.deliver p).number = r.number ∧ (r.deliver p).inFlight = r.inFlight - 1 ∧ (r.deliver p).delivered = r.delivered + 1 ∧
      (r.deliver p).sent = r.sent ∧ (r.deliver p).remakes = r.remakes ∧ (r.deliver p).state = r.state := by
  unfold Order.deliver Order.tally
  dsimp only
  repeat' split
  all_goals exact ⟨rfl, rfl, rfl, rfl, rfl, rfl⟩

/-- The record of an order that begins to be wound down. -/
def Order.wind (next : OrderState) (r : Order) : Order := { r with state := next, remakes := [] }

theorem State.engineTake_slots (s : State) : s.engineTake.price.slots = s.price.slots := by
  unfold State.engineTake
  split
  · rename_i idle queue
    simp [PriceEngine.slots, idle, queue]
  · rfl

/-- The entry of a remade print leaves the remake list. -/
theorem length_removeRemake {index : Nat} {l : List Remake} (listed : (l.find? fun e => e.index = index).isSome = true) :
    (removeRemake index l).length + 1 = l.length := by
  induction l with
  | nil => simp at listed
  | cons e l ih =>
    by_cases same : e.index = index
    · simp [removeRemake, same]
    · simp only [removeRemake, same, if_false, List.length_cons, Nat.add_right_cancel_iff]
      exact ih (by simpa [same] using listed)

/-- The orders whose prints a header may announce: step 2 of the check passes for OPEN and CLOSED ones alone. -/
theorem Order.live_of_passes {h : Header} {r : Order}
    (passes : (if h.remake then r.refuseRemake h.index else r.refuseOriginal h.index) = none) :
    r.state = .opened ∨ r.state = .closed := by
  unfold Order.refuseRemake Order.refuseOriginal at passes
  grind

/-- An accepted header keeps an order's balance. -/
theorem Order.acceptHeader_balances {h : Header} {used : Surface} {r : Order} (balances : r.Balances)
    (passes : (if h.remake then r.refuseRemake h.index else r.refuseOriginal h.index) = none) :
    (r.acceptHeader h used).Balances := by
  have live := Order.live_of_passes passes
  have sent := balances.1 (live.imp_right .inl)
  refine ⟨fun _ => ?_, fun pricing => by simp_all [Order.acceptHeader]⟩
  by_cases remake : h.remake = true
  · have listed : (r.remakeOf h.index).isSome = true := by
      unfold Order.refuseRemake at passes
      grind
    have := length_removeRemake listed
    simp only [Order.acceptHeader, remake, if_true]
    omega
  · simp only [Order.acceptHeader, remake, Bool.false_eq_true, if_false]
    omega

namespace Books

variable {open_ : Option Nat} {held : List Nat} {s : State}

/-- An order that is being wound down ends when nothing of it is in flight. -/
theorem endIfDrained (h : Books none held s) (n : Nat) : Books none held (s.endIfDrained n) := by
  unfold State.endIfDrained
  split
  · exact h
  · rename_i r found
    split
    · exact h
    · rename_i fate windingDown
      split
      · rename_i drained
        have reported (payload : List Byte) : Books none held (s.report .orderDone payload) := h.congr (by simp) (by simp)
        have unlisted : n ∉ held := by
          rw [← List.count_eq_zero, ← h.count_of_found found]
          exact drained
        refine (reported _).free unlisted fun slot hs q hq number => ?_
        obtain ⟨r', hr', pricing⟩ := h.priced slot (by simpa using hs)
        have same : s.HasOrder slot q := by simpa [State.HasOrder] using hq
        obtain rfl := h.eq_of_number same hr' (by rw [show q = r' by simpa [State.HasOrder] using same.symm.trans hr'])
        rw [h.eq_of_found found hr' number] at pricing
        simp [OrderState.windingDown, pricing] at windingDown
      · exact h

/-- The record of an order takes CANCELLING or FAILING with an empty remake list; what was still to be changed is settled. -/
theorem beginWindDown {n : Nat} {r : Order} {next : OrderState} (h : Books open_ held s) (found : s.findOrder n = some r)
    (exempt : ∀ m, m ≠ n → some m ≠ open_) (winds : next = .cancelling ∨ next = .failing) (unpriced : r.state ≠ .pricing) :
    Books none held (s.updateOrder n (Order.wind next)) :=
  h.update (f := Order.wind next) found (fun _ => rfl) (count := h.count_of_found (r := r) found) (fun _ _ => rfl)
    (fun _ => Order.balances_of_windingDown winds)
    (fun m ne _ => exempt m ne) (fun e => absurd e unpriced)

/-- A listed print of an order leaves flight; the order's record is left to be settled unless it is being wound down. -/
theorem leaveFlight {n : Nat} {r : Order} {now : Option Nat} (h : Books none (n :: held) s) (found : s.findOrder n = some r)
    (balance : some n ≠ now → r.state = .cancelling ∨ r.state = .failing) :
    Books now held (s.updateOrder n Order.leaveFlight) := by
  have count := h.count_of_found found
  rw [List.count_cons_self] at count
  refine h.update found (fun _ => rfl) (by simp [Order.leaveFlight, count]) (fun m ne => ?_)
    (fun closed => Order.balances_of_windingDown (balance closed)) (fun _ _ _ => by simp) id
  rw [List.count_cons_of_ne (Ne.symm ne)]

theorem not_pricing_of_listed {n : Nat} {r : Order} (h : Books none (n :: held) s) (found : s.findOrder n = some r) :
    r.state ≠ .pricing := by
  intro pricing
  have count := h.count_of_found found
  rw [List.count_cons_self, (h.balances_of_found found (by simp)).2 pricing] at count
  omega

/-- An accepted header lists one more print of its order. -/
theorem acceptHeader {h : Header} {used : Surface} {r : Order} (books : Books none held s)
    (found : s.findOrder h.order = some r)
    (passes : (if h.remake then r.refuseRemake h.index else r.refuseOriginal h.index) = none) :
    Books none (h.order :: held) (s.updateOrder h.order (Order.acceptHeader h used)) := by
  have count := books.count_of_found found
  refine books.update found (fun _ => rfl) (by simp [Order.acceptHeader, count]) (fun m ne => ?_)
    (fun _ => Order.acceptHeader_balances (books.balances_of_found found (by simp)) passes) (fun _ _ _ => by simp)
    (fun pricing => pricing)
  rw [List.count_cons_of_ne (Ne.symm ne)]

end Books

namespace Ledger

variable {held : List Nat} {s t : State}

theorem congr (h : Ledger held s) (orders : t.orders = s.orders) (staged : t.reader.staged = s.reader.staged)
    (slots : t.price.slots = s.price.slots) : Ledger held t := by
  unfold Ledger State.stagedOrders
  rw [staged]
  exact Books.congr h orders slots

theorem inert (h : Ledger held s) (k : Inert s t) : Ledger held t :=
  h.congr k.orders (by rw [k.reader]) (by simp [PriceEngine.slots, k.engine, k.pricingQueue])

theorem perm {l : List Nat} (h : Ledger held s) (p : List.Perm l held) : Ledger l s := Books.perm h (p.append_left _)

/-- The print listed first, before the staged one. -/
theorem first {n : Nat} (h : Ledger (n :: held) s) : Books none (n :: (s.stagedOrders ++ held)) s :=
  Books.perm h List.perm_middle.symm

/-- The staged print that is unstaged is one more listed print. -/
theorem unstage {p : PrintRecord} (h : Ledger held s) (staged : s.reader.staged = some p) (reader : Reader)
    (unstaged : reader.staged = none) : Ledger (p.order :: held) { s with reader := reader } := by
  simp only [Ledger, State.stagedOrders, staged, unstaged] at h ⊢
  exact Books.congr h rfl rfl

theorem endIfDrained (h : Ledger held s) (n : Nat) : Ledger held (s.endIfDrained n) := by
  have staged : (s.endIfDrained n).stagedOrders = s.stagedOrders := by simp [State.stagedOrders]
  unfold Ledger
  rw [staged]
  exact Books.endIfDrained h n

/-! ### Winding down -/

theorem discardStagedOf {n : Nat} (h : Ledger held s)
    (winds : ∀ r, s.findOrder n = some r → r.state = .cancelling ∨ r.state = .failing) :
    Ledger held (s.discardStagedOf n) := by
  unfold State.discardStagedOf
  split
  · exact h
  · rename_i p staged
    split
    · rename_i order
      subst order
      have listed : Ledger (p.order :: held) (State.reportDiscard p .cancelled { s with reader := { s.reader with
          staged := none, mode := .discarding } }) := (h.unstage staged { s.reader with staged := none, mode := .discarding } rfl).inert
            (Calm.reportDiscard ..)
      obtain ⟨r, found⟩ := listed.first.exists_found (List.mem_cons_self ..)
      have same : s.findOrder p.order = some r := by simpa [State.findOrder] using found
      exact listed.first.leaveFlight found fun _ => winds r same
    · exact h

theorem windDown {n : Nat} {r : Order} {next : OrderState} {open_ : Option Nat} (h : Books open_ (s.stagedOrders ++ held) s)
    (found : s.findOrder n = some r) (exempt : ∀ m, m ≠ n → some m ≠ open_) (winds : next = .cancelling ∨ next = .failing)
    (unpriced : r.state ≠ .pricing) : Ledger held (s.windDown n next) := by
  have wound : Ledger held (s.updateOrder n (Order.wind next)) :=
    h.beginWindDown found exempt winds unpriced
  have discarded := wound.discardStagedOf (n := n) fun q hq => by
    rw [State.findOrder_updateOrder (f := Order.wind next) (fun _ => rfl), found] at hq
    obtain rfl : _ = q := by simpa using hq
    exact winds
  have retired : Ledger held (((s.updateOrder n (Order.wind next)).discardStagedOf n
      |>.mapSegments (Segment.cancelOf n)).mapBins (Bin.retire n .held)) :=
    discarded.congr (by simp) (by simp) (by simp)
  exact retired.endIfDrained n

/-! ### Rejection and delivery -/

theorem reject {order : Nat} (index attempt : Nat) (h : Ledger (order :: held) s) :
    Ledger held (s.reject order index attempt) := by
  obtain ⟨r, found⟩ := h.first.exists_found (List.mem_cons_self ..)
  have unpriced := h.first.not_pricing_of_listed found
  have count := h.first.count_of_found found
  rw [List.count_cons_self] at count
  have balances := h.first.balances_of_found found (by simp)
  have left : Books (some order) (s.stagedOrders ++ held) (s.updateOrder order Order.leaveFlight) :=
    h.first.leaveFlight found (by simp)
  have foundLeft : (s.updateOrder order Order.leaveFlight).findOrder order = some r.leaveFlight := by
    rw [State.findOrder_updateOrder (f := Order.leaveFlight) (fun _ => rfl), found]
    rfl
  have exempt (m : Nat) (ne : m ≠ order) : some m ≠ some order := by simpa using ne
  have remade (state : r.state = .opened ∨ r.state = .closed) (e : Remake) : Ledger held
      ((s.updateOrder order Order.leaveFlight).updateOrder order fun r => { r with remakes := r.remakes ++ [e] }) := by
    refine left.update foundLeft (fun _ => rfl) (count := left.count_of_found (r := r.leaveFlight) foundLeft) (fun _ _ => rfl)
      (fun _ => ?_)
      (fun m ne _ => exempt m ne) id
    have sent := balances.1 (state.imp_right .inl)
    exact ⟨fun _ => by simp [Order.leaveFlight]; omega, fun pricing => absurd pricing unpriced⟩
  have failed : Ledger held (((s.updateOrder order Order.leaveFlight).raise .orderFailed).windDown order .failing) := by
    have raised : Books (some order) (s.stagedOrders ++ held) ((s.updateOrder order Order.leaveFlight).raise .orderFailed) :=
      left.congr (by simp) (by simp)
    refine windDown (open_ := some order) (r := r.leaveFlight) (raised.perm ?_) ?_ exempt (.inr rfl) unpriced
    · simp [State.stagedOrders]
    · simpa [State.findOrder] using foundLeft
  have counted (state : r.state = .cancelling ∨ r.state = .failing) :
      Ledger held ((s.updateOrder order Order.leaveFlight).endIfDrained order) :=
    endIfDrained (s := s.updateOrder order Order.leaveFlight) (h.first.leaveFlight found fun _ => state) order
  unfold State.reject
  simp only [found]
  split
  · split
    · exact (remade (.inl ‹_›) _).inert (.report ..)
    · exact failed
  · split
    · exact (remade (.inr ‹_›) _).inert (.report ..)
    · exact failed
  · exact counted (.inl ‹_›)
  · exact counted (.inr ‹_›)
  · exact absurd ‹_› unpriced

theorem discardStaged {reason : RejectReason} {mode : ReaderMode} (h : Ledger held s) :
    Ledger held (s.discardStaged reason mode) := by
  unfold State.discardStaged
  split
  · exact h
  · rename_i p staged
    exact ((h.unstage staged { s.reader with staged := none, mode := mode } rfl).inert (Calm.reportDiscard p reason _)).reject ..

theorem rejectPrint {p : PrintRecord} (reasons : List RejectReason) (h : Ledger (p.order :: held) s) :
    Ledger held (s.rejectPrint p reasons) :=
  ((h.inert (.report ..)).inert (Calm.countReasons ..)).reject ..

/-- The completion test: a CLOSED order that passes enters PRICING with nothing in flight, and its slot joins the pricing queue. -/
theorem completionTest (h : Ledger held s) (n : Nat) : Ledger held (s.completionTest n) := by
  unfold State.completionTest
  split
  · rename_i r slot found slotFound
    dsimp only
    split
    · rename_i complete
      obtain ⟨closed, -, drained, -⟩ : r.state = .closed ∧ r.expected = some r.delivered ∧ r.inFlight = 0 ∧ r.remakes = [] := by
        simpa [Order.complete] using complete
      obtain ⟨q, held', number⟩ := State.hasOrder_of_slotOf slotFound
      obtain rfl := Books.eq_of_found h found held' number
      have balances := (Books.balances_of_found h found (by simp)).1 (.inr (.inl closed))
      have priced : Ledger held (s.updateOrder n fun r => { r with state := .pricing }) :=
        Books.update h found (fun _ => rfl) (Books.count_of_found h (r := q) found) (fun _ _ => rfl)
          (fun _ => ⟨fun _ => balances, fun _ => drained⟩) (fun _ _ closed => closed) fun _ => rfl
      have waiting : Ledger held { s.updateOrder n (fun r => { r with state := .pricing }) with
          price := { s.price with queue := s.price.queue ++ [slot] } } := by
        obtain ⟨distinct, count, balance, live, once, engine⟩ := priced
        have joined : PriceEngine.slots { s.price with queue := s.price.queue ++ [slot] } = s.price.slots ++ [slot] := by
          simp [PriceEngine.slots]
        have new : slot ∉ s.price.slots := fun already => by
          obtain ⟨r, hr, pricing⟩ := h.priced slot already
          rw [Books.eq_of_number h hr held' (by rw [show r = q by simpa [State.HasOrder] using hr.symm.trans held'])] at pricing
          simp [closed] at pricing
        refine ⟨distinct, count, balance, live, ?_, fun other hs => ?_⟩
        · simpa only [joined, List.nodup_append_comm, List.singleton_append, List.nodup_cons] using ⟨new, once⟩
        · simp only [joined, List.mem_append, List.mem_singleton] at hs
          rcases hs with hs | rfl
          · exact engine other hs
          · exact ⟨_, State.hasOrder_updateOrder.mpr ⟨q, held', rfl⟩, by simp [number]⟩
      exact waiting.congr (by simp) (by simp) (State.engineTake_slots _)
    · exact h
  · exact h

theorem deliver {p : PrintRecord} (h : Ledger (p.order :: held) s) : Ledger held (s.deliver p) := by
  obtain ⟨r, found⟩ := h.first.exists_found (List.mem_cons_self ..)
  have unpriced := h.first.not_pricing_of_listed found
  have count := h.first.count_of_found found
  rw [List.count_cons_self] at count
  have balances := (h.first.balances_of_found found (by simp)).1
  obtain ⟨-, inFlight, delivered, sent, remakes, state⟩ := Order.deliver_accounts p r
  have counted : Ledger held (s.updateOrder p.order (Order.deliver p)) := by
    refine h.first.update found (fun q => (Order.deliver_accounts p q).1) (by rw [inFlight, count]; rfl) (fun m ne => ?_)
      (fun _ => ?_) (fun _ _ _ => by simp) (fun e => state.trans e)
    · rw [List.count_cons_of_ne (Ne.symm ne)]
      rfl
    · refine ⟨fun live => ?_, fun pricing => absurd (state.symm.trans pricing) unpriced⟩
      have := balances (state ▸ live)
      rw [sent, delivered, inFlight, remakes]
      omega
  unfold State.deliver
  simp only [found]
  split
  · exact counted
  · exact counted.completionTest _
  · exact counted.endIfDrained _
  · exact counted.endIfDrained _
  · exact absurd ‹_› unpriced

theorem deliverAt {p : PrintRecord} (place : Target) (h : Ledger (p.order :: held) s) : Ledger held (s.deliverAt p place) :=
  ((h.inert (.report ..)).inert (.bump ..)).deliver

/-! ### The end of a pricing -/

/-- The engine forgets its slot. -/
theorem idle {pricing : Pricing} (h : Ledger held s) (engine : s.price.engine = some pricing) :
    Ledger held { s with price := { s.price with engine := none } } ∧
      pricing.slot ∉ PriceEngine.slots { s.price with engine := none } := by
  obtain ⟨distinct, count, balance, live, once, priced⟩ := h
  have slots : s.price.slots = pricing.slot :: PriceEngine.slots { s.price with engine := none } := by
    simp [PriceEngine.slots, engine]
  rw [slots] at once priced
  obtain ⟨gone, once⟩ := List.nodup_cons.mp once
  exact ⟨⟨distinct, count, balance, live, once, fun slot hs => priced slot (List.mem_cons_of_mem _ hs)⟩, gone⟩

theorem completePricing (h : Ledger held s) : Ledger held s.completePricing := by
  unfold State.completePricing
  split
  · exact h
  · rename_i pricing engine
    obtain ⟨idle, gone⟩ := h.idle engine
    obtain ⟨r, held', state⟩ := h.priced pricing.slot (by simp [PriceEngine.slots, engine])
    have found := Books.findOrder_of_hasOrder h held'
    have unlisted : r.number ∉ s.stagedOrders ++ held := by
      rw [← List.count_eq_zero, ← Books.count_of_found h found]
      exact (Books.balances_of_found h found (by simp)).2 state
    have freed : Ledger held (State.freeOrder r.number { s with price := { s.price with engine := none } }) := by
      refine Books.free idle unlisted fun slot hs q hq number => gone ?_
      rwa [← h.distinct slot pricing.slot q r hq held' number]
    have ordersFreed : (s.orderPriced r).orders = (s.freeOrder r.number).orders := by simp [State.orderPriced, State.freeOrder]
    simp only [State.HasOrder] at held'
    simp only [held']
    have taken := freed.congr (t := State.takeWaitingLoad { s.orderPriced r with price := { s.price with engine := none } })
      (by rw [(Inert.takeWaitingLoad _).orders]; exact ordersFreed)
      (by rw [(Inert.takeWaitingLoad _).reader]; simp [State.orderPriced])
      (by simp [PriceEngine.slots, (Inert.takeWaitingLoad _).engine, (Inert.takeWaitingLoad _).pricingQueue])
    refine taken.congr ?_ ?_ ?_
    · simp [State.orderPriced]
    · simp [State.orderPriced]
    · rw [State.engineTake_slots]; simp [State.orderPriced]

/-! ### New orders and new prints -/

/-- A new order takes a free slot. -/
theorem openOrder {slot : Nat} {r : Order} (h : Ledger held s) (free : s.orders[slot]? = some none)
    (fresh : s.findOrder r.number = none) (empty : r.inFlight = 0) (balances : r.Balances) :
    Ledger held { s with orders := s.orders.set slot (some r) } := by
  have hasOrder (i : Nat) (q : Order) : State.HasOrder i q { s with orders := s.orders.set slot (some r) } ↔
      (i = slot ∧ q = r) ∨ (i ≠ slot ∧ s.HasOrder i q) := by
    obtain ⟨inside, -⟩ := List.getElem?_eq_some_iff.mp free
    by_cases e : slot = i
    · subst e
      simp [State.HasOrder, List.getElem?_set_self inside, eq_comm]
    · simp [State.HasOrder, List.getElem?_set_ne e, Ne.symm e]
  have other {i : Nat} {q : Order} (hq : s.HasOrder i q) : i ≠ slot := by
    rintro rfl
    simp [State.HasOrder, free] at hq
  have unlisted : r.number ∉ s.stagedOrders ++ held := fun listed => by
    obtain ⟨i, q, hq, number⟩ := h.live _ listed
    exact State.findOrder_eq_none_iff.mp fresh i q hq number
  obtain ⟨distinct, count, balance, live, once, priced⟩ := h
  refine ⟨fun i j p q hp hq number => ?_, fun i q hq => ?_, fun i q hq closed => ?_, fun n listed => ?_, once,
    fun i hi => ?_⟩
  · rcases (hasOrder i p).mp hp with ⟨rfl, rfl⟩ | ⟨-, was⟩ <;>
      rcases (hasOrder j q).mp hq with ⟨rfl, rfl⟩ | ⟨-, wasQ⟩
    · rfl
    · exact absurd number.symm (State.findOrder_eq_none_iff.mp fresh j q wasQ)
    · exact absurd number (State.findOrder_eq_none_iff.mp fresh i p was)
    · exact distinct i j p q was wasQ number
  · rcases (hasOrder i q).mp hq with ⟨rfl, rfl⟩ | ⟨-, hq⟩
    · rw [empty]
      exact (List.count_eq_zero.mpr unlisted).symm
    · exact count i q hq
  · rcases (hasOrder i q).mp hq with ⟨rfl, rfl⟩ | ⟨-, hq⟩
    · exact balances
    · exact balance i q hq closed
  · obtain ⟨i, q, hq, number⟩ := live n listed
    exact ⟨i, q, (hasOrder i q).mpr (.inr ⟨other hq, hq⟩), number⟩
  · obtain ⟨q, hq, pricing⟩ := priced i hi
    exact ⟨q, (hasOrder i q).mpr (.inr ⟨other hq, hq⟩), pricing⟩

end Ledger

end Sys2Proof.Machine
end

section
/-!
PROOFS. Every step keeps the ledger of the orders (sections 1.3 to 1.8 and 8.3): F counts the prints that the part holds, and
S = D + F + (entries on the remake list). The prints that travel are listed by their orders, in the path and on the belt.
-/

namespace Sys2Proof.Machine

/-! ### The prints that travel -/

/-- Each record of the path queue with the order of its print. -/
def State.filing (s : State) : List (SegmentKind × Option Nat) := s.path.queue.map fun g => (g.kind, g.print.map PrintRecord.order)

/-- The orders of the prints in the path and on the belt. -/
def State.travelling (s : State) : List Nat := s.filing.filterMap Prod.snd ++ s.beltOrders

theorem State.filing_eq_map_gist (s : State) : s.filing = s.pathGist.map fun l => (l.1, l.2.2.2) := by
  simp [State.filing, State.pathGist, Segment.gist, Function.comp_def]

/-- The ledger with its prints listed: the books of those that travel, and no print in a segment that is no PRINT. -/
structure WholeLedger (s : State) : Prop where
  books : Ledger s.travelling s
  filed : ∀ l ∈ s.filing, l.2.isSome = true → l.1 = .print

theorem State.prints_eq_count (n : Nat) (s : State) : s.prints n = (s.stagedOrders ++ s.travelling).count n := by
  have same (l : List PrintRecord) : (l.countP fun p => p.order == n) = (l.map PrintRecord.order).count n := by
    simp [List.count, List.countP_map, Function.comp_def]
  have path : (s.path.queue.filterMap Segment.print).map PrintRecord.order = s.filing.filterMap Prod.snd := by
    simp [State.filing, List.filterMap_map, List.map_filterMap]
  have belt : (s.sorter.queue.map SortEntry.print).map PrintRecord.order = s.beltOrders := by
    simp [State.beltOrders, Function.comp_def]
  simp only [State.prints, State.travelling, State.stagedOrders, List.count_append, same, path, belt]
  omega

/-- Two live orders of one number stand in one slot. -/
theorem State.numbers_nodup_iff (s : State) : (s.orders.filterMap fun o => o.map Order.number).Nodup ↔
    ∀ i j r q, s.HasOrder i r → s.HasOrder j q → r.number = q.number → i = j := by
  rw [List.Nodup, List.pairwise_filterMap, List.pairwise_iff_getElem]
  constructor
  · intro pairwise i j r q hr hq number
    obtain ⟨hi, hr⟩ := List.getElem?_eq_some_iff.mp hr
    obtain ⟨hj, hq⟩ := List.getElem?_eq_some_iff.mp hq
    rcases Nat.lt_trichotomy i j with lt | eq | lt
    · exact absurd number (pairwise i j hi hj lt _ (by simp [hr]) _ (by simp [hq]))
    · exact eq
    · exact absurd number.symm (pairwise j i hj hi lt _ (by simp [hq]) _ (by simp [hr]))
  · intro distinct i j hi hj lt n hn m hm
    obtain ⟨r, hr, rfl⟩ := Option.map_eq_some_iff.mp hn
    obtain ⟨q, hq, rfl⟩ := Option.map_eq_some_iff.mp hm
    intro number
    have := distinct i j r q (List.getElem?_eq_some_iff.mpr ⟨hi, hr⟩) (List.getElem?_eq_some_iff.mpr ⟨hj, hq⟩) number
    omega

theorem ledgerBalances_iff (s : State) : LedgerBalances s ↔ WholeLedger s := by
  have filed : (∀ g ∈ s.path.queue, g.print.isSome = true → g.kind = .print) ↔
      ∀ l ∈ s.filing, l.2.isSome = true → l.1 = .print := by simp [State.filing]
  unfold LedgerBalances
  rw [State.numbers_nodup_iff, filed]
  constructor
  · rintro ⟨distinct, accounts, dead, filed, once, priced⟩
    refine ⟨⟨distinct, fun i r hr => ?_, fun i r hr _ => ?_, fun n listed => ?_, once, priced⟩, filed⟩
    · rw [← State.prints_eq_count]
      exact (accounts r (State.exists_hasOrder_iff_mem.mp ⟨i, hr⟩)).1
    · exact (accounts r (State.exists_hasOrder_iff_mem.mp ⟨i, hr⟩)).2
    · cases found : s.findOrder n with
      | none => exact absurd listed (List.count_eq_zero.mp ((State.prints_eq_count n s).symm.trans (dead n found)))
      | some r =>
        obtain ⟨i, hr⟩ := State.hasOrder_of_findOrder found
        exact ⟨i, r, hr, State.findOrder_number found⟩
  · rintro ⟨⟨distinct, count, balance, live, once, priced⟩, filed⟩
    refine ⟨distinct, fun r hr => ?_, fun n none => ?_, filed, once, priced⟩
    · obtain ⟨i, hr⟩ := State.exists_hasOrder_iff_mem.mpr hr
      exact ⟨(count i r hr).trans (State.prints_eq_count ..).symm, balance i r hr (by simp)⟩
    · rw [State.prints_eq_count, List.count_eq_zero]
      intro listed
      obtain ⟨i, r, hr, number⟩ := live n listed
      exact State.findOrder_eq_none_iff.mp none i r hr number

/-! ### Changes that leave the travelling prints -/

namespace WholeLedger

variable {s t : State}

/-- Where no print moves, the books decide. -/
theorem stay (h : WholeLedger s) (filing : t.filing = s.filing) (belt : t.beltOrders = s.beltOrders)
    (books : Ledger s.travelling t) : WholeLedger t := by
  refine ⟨?_, by rw [filing]; exact h.filed⟩
  rwa [State.travelling, filing, belt]

theorem of_gist (h : WholeLedger s) (gist : t.pathGist = s.pathGist) (belt : t.beltOrders = s.beltOrders)
    (books : Ledger s.travelling t) : WholeLedger t :=
  h.stay (by rw [State.filing_eq_map_gist, State.filing_eq_map_gist, gist]) belt books

/-- A calm change keeps the ledger where it keeps the books. -/
theorem calm (h : WholeLedger s) (k : Calm s t) (books : Ledger s.travelling t) : WholeLedger t :=
  h.of_gist k.pathGist k.belt books

/-- A calm change that touches neither the orders nor the staged print. -/
theorem quiet (h : WholeLedger s) (k : Calm s t) (orders : t.orders = s.orders)
    (staged : t.reader.staged = s.reader.staged) : WholeLedger t :=
  h.calm k (h.books.congr orders staged (by simp [PriceEngine.slots, k.engine, k.pricingQueue]))

theorem inert (h : WholeLedger s) (k : Inert s t) : WholeLedger t := h.quiet k.calm k.orders (by rw [k.reader])

/-! ### The frames of the print stream -/

theorem toReading (h : WholeLedger s) : WholeLedger s.toReading := by
  have same : s.toReading.orders = s.orders ∧ s.toReading.reader.staged = s.reader.staged := by
    unfold State.toReading
    split <;> simp [State.endStreamImplicit, State.endStreamShort, State.enterReading]
  exact h.quiet (.toReading s) same.1 same.2

theorem takeLine (h : WholeLedger s) : WholeLedger s.takeLine := by
  have same : s.takeLine.orders = s.orders ∧ s.takeLine.reader.staged = s.reader.staged := by
    unfold State.takeLine State.takeOutOfPlace
    repeat' split
    all_goals simp
  exact h.quiet (.takeLine s) same.1 same.2

theorem takePrintEnd (h : WholeLedger s) : WholeLedger s.takePrintEnd := by
  have same : s.takePrintEnd.orders = s.orders ∧ s.takePrintEnd.reader.staged = s.reader.staged := by
    unfold State.takePrintEnd State.takeOutOfPlace
    repeat' split
    all_goals simp [State.endStreamShort, State.enterReading]
  exact h.quiet (.takePrintEnd s) same.1 same.2

theorem takeOrderOpen (h : WholeLedger s) (f : InFrame) : WholeLedger (s.takeOrderOpen f) := by
  refine h.calm (.takeOrderOpen f s) ?_
  unfold State.takeOrderOpen
  refine Ledger.inert ?_ (.removeSequenced _)
  split
  · exact h.books.inert (.answer ..)
  · rename_i slot r accepted
    refine Ledger.inert ?_ (.answer ..)
    unfold State.judgeOrderOpen at accepted
    dsimp only at accepted
    split at accepted
    · cases accepted
    · split at accepted
      · split at accepted
        · cases accepted
        · rename_i fresh
          split at accepted
          · cases accepted
          · rename_i free
            obtain ⟨rfl, rfl⟩ := Prod.mk.inj (Sum.inr.inj accepted)
            obtain ⟨inside, isNone, -⟩ := List.findIdx?_eq_some_iff_getElem.mp free
            refine h.books.openOrder ?_ (by simpa [Order.new] using fresh) rfl (by simp [Order.Balances, Order.new])
            rw [List.getElem?_eq_getElem inside, Option.isNone_iff_eq_none.mp isNone]
      · cases accepted

theorem takeOrderClose (h : WholeLedger s) (f : InFrame) : WholeLedger (s.takeOrderClose f) := by
  refine h.of_gist (SamePath.takeOrderClose f s).pathGist ?_ ?_
  · unfold State.takeOrderClose
    repeat' split
    all_goals simp [State.beltOrders]
  · unfold State.takeOrderClose
    refine Ledger.inert ?_ (.removeSequenced _)
    repeat' split
    · exact h.books.inert (.answer ..)
    · exact h.books.inert (.answer ..)
    · rename_i r found opened
      have number := State.findOrder_number found
      refine Ledger.completionTest (Ledger.inert ?_ (.answer ..)) _
      have balances := (Books.balances_of_found h.books found (by simp)).1 (.inl opened)
      rw [← number] at found
      exact Books.update h.books found (fun _ => rfl) (Books.count_of_found h.books (r := r) found) (fun _ _ => rfl)
        (fun _ => ⟨fun _ => balances, nofun⟩) (fun _ _ closed => closed) fun pricing => by simp [opened] at pricing
    · exact h.books.inert (.answer ..)

theorem takeOrderCancel (h : WholeLedger s) (f : InFrame) : WholeLedger (s.takeOrderCancel f) := by
  refine h.calm (.takeOrderCancel f s) ?_
  have answered (result : StatusResult) : Ledger s.travelling (s.answer f result) := h.books.inert (.answer ..)
  have wound {r : Order} (found : s.findOrder (field f.payload 0 3) = some r) (unpriced : r.state ≠ .pricing) :
      Ledger s.travelling ((s.answer f .accepted).windDown r.number .cancelling) := by
    refine Ledger.windDown (open_ := none) (r := r) (answered .accepted) ?_ (fun _ _ => by simp) (.inl rfl) unpriced
    rw [State.findOrder_number found]
    simpa [State.findOrder] using found
  unfold State.takeOrderCancel
  refine Ledger.inert ?_ (.removeImmediate _)
  repeat' split
  · exact answered _
  · exact answered _
  · exact wound ‹_› (by simp [*])
  · exact wound ‹_› (by simp [*])
  all_goals exact answered _

theorem takePrintHeader (h : WholeLedger s) (unstaged : s.reader.staged = none) (f : InFrame) :
    WholeLedger (s.takePrintHeader f) := by
  refine h.calm (.takePrintHeader f s) ?_
  have refused (hd : Header) (reason : RefusalReason) : Ledger s.travelling (s.refusePrint hd reason) :=
    h.books.congr (by simp [State.refusePrint]) (by simp [State.refusePrint]) (by simp [State.refusePrint])
  unfold State.takePrintHeader
  dsimp only
  split
  · exact refused ..
  · split
    · exact refused ..
    · rename_i passes
      split
      · rename_i r entry found _
        unfold State.refuseHeader at passes
        simp only [found] at passes
        split at passes
        · cases passes
        · rename_i second
          have accepted := Books.acceptHeader (used := s.exposure.paper.surface) h.books found second
          have listed : s.stagedOrders = [] := by simp [State.stagedOrders, unstaged]
          rw [listed, List.nil_append] at accepted
          unfold Ledger
          rw [← State.findOrder_number found] at accepted
          exact (accepted.congr (by simp [State.acceptPrint]) (by simp [State.acceptPrint])).perm
            (by simp [State.acceptPrint, State.stagedOrders, State.findOrder_number found, PrintRecord.ofHeader])
      · exact h.books

/-! ### The run -/

theorem endExposure_staged (s : State) : s.endExposure.reader.staged = s.reader.staged := by
  unfold State.endExposure
  split <;> simp

/-- A staged print that is discarded. -/
theorem discardStaged (h : WholeLedger s) (reason : RejectReason) (mode : ReaderMode) :
    WholeLedger (s.discardStaged reason mode) :=
  h.calm (.discardStaged ..) h.books.discardStaged

theorem withPath (h : WholeLedger s) {path : PathUnit} (queue : path.queue = s.path.queue) :
    WholeLedger { s with path := path } :=
  h.stay (by simp [State.filing, queue]) rfl (h.books.congr rfl rfl rfl)

theorem halt (h : WholeLedger s) (cause : HaltCause) : WholeLedger (s.halt cause) := by
  have stopped : WholeLedger s.endExposure.stopStepping :=
    h.quiet ((Calm.endExposure s).trans (.stopStepping _)) (by simp) (by simp [endExposure_staged])
  exact stopped.withPath rfl

theorem haltIfMoving (h : WholeLedger s) (cause : HaltCause) : WholeLedger (s.haltIfMoving cause) :=
  State.haltIfMoving_preserves (fun _ => h.halt cause) h

theorem endDrain (h : WholeLedger s) : WholeLedger s.endDrain := by
  have stopped := (h.quiet (.stopStepping s) (by simp) (by simp)).withPath
    (path := { s.stopStepping.path with run := .idle, drainCause := none }) rfl
  unfold State.endDrain
  dsimp only
  split
  · exact stopped.discardStaged _ _
  · exact stopped

/-- A segment begins without a print. -/
theorem beginSegment (h : WholeLedger s) (kind : SegmentKind) (planned : Nat) : WholeLedger (s.beginSegment kind planned none) := by
  have filing : (s.beginSegment kind planned none).filing = s.filing ++ [(kind, none)] := by
    simp [State.filing, State.beginSegment, Segment.fresh]
  refine ⟨?_, ?_⟩
  · rw [State.travelling, filing]
    have books : Ledger s.travelling (s.beginSegment kind planned none) := h.books.congr rfl rfl rfl
    simpa [State.travelling, State.beltOrders] using books
  · rw [filing]
    simpa [or_imp, forall_and] using h.filed

/-- The staged print goes into the path. -/
theorem startPrint {p : PrintRecord} (h : WholeLedger s) (staged : s.reader.staged = some p) : WholeLedger (s.startPrint p) := by
  have filing : (s.startPrint p).filing = s.filing ++ [(.print, some p.order)] := by
    simp [State.filing, State.startPrint, State.beginSegment, Segment.fresh]
  refine ⟨?_, ?_⟩
  · have listed := h.books.unstage staged (s.startPrint p).reader (by simp [State.startPrint, State.beginSegment])
    have started : Ledger (p.order :: s.travelling) (s.startPrint p) := listed.congr rfl rfl rfl
    refine started.perm ?_
    rw [State.travelling, filing]
    simp [State.travelling, State.beltOrders, State.startPrint, State.beginSegment]
  · rw [filing]
    simpa [or_imp, forall_and] using h.filed

theorem keptByChoice : KeptByChoice WholeLedger where
  raise c s h := h.inert (.raise c s)
  halt cause _ _ h := h.halt cause
  endDrain _ _ _ h := h.endDrain
  rampBegins _ h := h.withPath rfl
  rampEnds _ _ h := h.withPath rfl
  paperDrain _ _ h := h.withPath rfl
  segment kind planned _ _ _ _ h := h.beginSegment kind planned
  start _ _ staged _ _ h := h.startPrint staged

end WholeLedger

end Sys2Proof.Machine
end

section
/-!
PROOFS. The ledger of the orders through the commands that move prints: the step, the cut, the drop, the deadline and RUN ABORT; and the
six properties of the state after reset.
-/

namespace Sys2Proof.Machine

/-! ### Marks of the Sorter Unit that are none of the accounts -/

namespace Ledger

variable {held : List Nat} {s t : State}

theorem touch {n : Nat} {f : Order → Order} (h : Ledger held s) (number : ∀ q, (f q).number = q.number)
    (inFlight : ∀ q, (f q).inFlight = q.inFlight) (balances : ∀ q, q.Balances → (f q).Balances)
    (state : ∀ q, (f q).state = q.state) : Ledger held (s.updateOrder n f) :=
  Books.touch h number inFlight balances state

theorem markStray (h : Ledger held s) (place : Target) (excepted : Option Nat) : Ledger held (s.markStray place excepted) := by
  have attended {u : State} (n : Nat) (h : Ledger held u) : Ledger held (u.attendOwner n excepted) := by
    unfold State.attendOwner
    repeat' split
    · exact h.touch (fun _ => rfl) (fun _ => rfl) (fun _ => id) (fun _ => rfl)
    all_goals exact h
  unfold State.markStray
  split
  · rename_i n
    have counted : Ledger held (s.updateBin n fun b => { b with stray := saturate 255 b.stray }) :=
      h.congr (by simp) (by simp) (by simp)
    exact (attended n (counted.inert (.raise .sortMismatch _))).congr (by simp) (by simp) (by simp)
  · exact h.congr (by simp) (by simp) (by simp)

theorem setGroup (h : Ledger held s) (p : PrintRecord) : Ledger held (s.setGroup p) := by
  unfold State.setGroup
  split
  · refine h.touch (fun q => ?_) (fun q => ?_) (fun q => ?_) (fun q => ?_)
    · split <;> rfl
    · split <;> rfl
    · split <;> exact id
    · split <;> rfl
  · exact h

theorem assign (h : Ledger held s) (r : Order) : Ledger held (s.assign r).2 := by
  unfold State.assign
  repeat' split
  · exact h
  · have lent (n : Nat) (f : Bin → Bin) : Ledger held (s.updateBin n f) := h.congr (by simp) (by simp) (by simp)
    exact (lent ..).touch (fun _ => rfl) (fun _ => rfl) (fun _ => id) (fun _ => rfl)
  · exact (h.touch (f := Order.flagTray) (fun _ => rfl) (fun _ => rfl) (fun _ => id) (fun _ => rfl)).inert (.raise ..)
  · exact h.inert (.raise ..)

theorem sortPrint (h : Ledger held s) (p : PrintRecord) : Ledger held (s.sortPrint p).2 := by
  have grouped := h.setGroup p
  unfold State.sortPrint
  dsimp only
  repeat' split
  · exact grouped
  · exact grouped
  · rename_i r _ _ target u assigned
    have := grouped.assign r
    rw [assigned] at this
    exact this.congr (by simp [State.joinSorter]) (by simp [State.joinSorter]) (by simp [State.joinSorter])
  · rename_i r _ _ u assigned
    have := grouped.assign r
    rw [assigned] at this
    exact this

end Ledger

/-- A print that gets a target joins the belt. -/
theorem State.beltOrders_of_sorted {p : PrintRecord} {s t : State} {target : Target}
    (sorted : s.sortPrint p = (.ok target, t)) : t.beltOrders = s.beltOrders ++ [p.order] := by
  have belt (r : Order) : ((s.setGroup p).assign r).2.beltOrders = s.beltOrders :=
    ((Calm.setGroup p s).trans (.assign r _)).belt
  unfold State.sortPrint at sorted
  dsimp only at sorted
  repeat' split at sorted
  · cases sorted
  · cases sorted
  · rename_i r _ _ target u assigned
    obtain ⟨-, rfl⟩ := Prod.mk.inj sorted
    have := belt r
    rw [assigned] at this
    simp only [State.joinSorter, (Calm.addPending target _).belt, ← this]
    simp [State.beltOrders]
  · cases sorted

/-- A print that is refused does not. -/
theorem State.beltOrders_of_refused {p : PrintRecord} {s t : State} {reason : RejectReason}
    (refused : s.sortPrint p = (.error reason, t)) : t.beltOrders = s.beltOrders := by
  have grouped := (Calm.setGroup p s).belt
  unfold State.sortPrint at refused
  dsimp only at refused
  repeat' split at refused
  · obtain ⟨-, rfl⟩ := Prod.mk.inj refused
    exact grouped
  · obtain ⟨-, rfl⟩ := Prod.mk.inj refused
    exact grouped
  · cases refused
  · rename_i r _ _ u assigned
    obtain ⟨-, rfl⟩ := Prod.mk.inj refused
    have := ((Calm.setGroup p s).trans (.assign r _)).belt
    rwa [assigned] at this

namespace WholeLedger

variable {s t : State}

/-! ### The step -/

theorem advanceWeb (h : WholeLedger s) : WholeLedger s.advanceWeb :=
  h.stay (map_modifyLast _ (fun g : Segment => { g with length := g.length + 1 }) (fun _ => rfl) _) rfl
    (h.books.congr rfl rfl rfl)

theorem cutterStep (h : WholeLedger s) (sample : PunchSample) : WholeLedger (s.cutterStep sample) :=
  h.of_gist (SamePath.cutterStep sample s).pathGist (by simp [State.beltOrders]) (h.books.congr (by simp) (by simp) (by simp))

theorem settleFront_accounts (s : State) :
    s.settleFront.orders = s.orders ∧ s.settleFront.reader.staged = s.reader.staged := by
  unfold State.settleFront
  repeat' split
  all_goals simp [State.endStreamShort, State.endStreamImplicit]

theorem completePrint_accounts (s : State) :
    s.completePrint.orders = s.orders ∧ s.completePrint.reader.staged = s.reader.staged := by
  unfold State.completePrint
  repeat' split
  all_goals simp

theorem nextLine_accounts (p : PrintRecord) (source : LineSource) (s : State) :
    (s.nextLine p source).2.orders = s.orders ∧ (s.nextLine p source).2.reader.staged = s.reader.staged := by
  cases source
  case margin => simp [State.nextLine]
  case cutOff => simp [State.nextLine]
  case store => cases store : s.store <;> simp [State.nextLine, store]

theorem exposeLine_accounts (s : State) :
    s.exposeLine.orders = s.orders ∧ s.exposeLine.reader.staged = s.reader.staged := by
  unfold State.exposeLine
  split
  · rename_i p _ _
    dsimp only
    rw [(completePrint_accounts _).1, (completePrint_accounts _).2]
    exact nextLine_accounts ..
  · simp

theorem issueStep (h : WholeLedger s) (sample : PunchSample) : WholeLedger (s.issueStep sample) := by
  have settled := h.quiet (.settleFront s) (settleFront_accounts s).1 (settleFront_accounts s).2
  have exposed := settled.advanceWeb.inert (Calm.countStep _) |>.quiet (.exposeLine _) (exposeLine_accounts _).1
    (exposeLine_accounts _).2
  have zoned := exposed.quiet (.markZoneEntry _) (by simp) (by simp)
  exact zoned.cutterStep sample

/-! ### The belt -/

/-- The oldest entry leaves the belt; what then is done with its print decides. -/
theorem popped {e : SortEntry} {rest : List SortEntry} (h : WholeLedger s) (belt : s.sorter.queue = e :: rest)
    (path : t.pathGist = s.popSorter.pathGist) (same : t.beltOrders = s.popSorter.beltOrders)
    (books : ∀ held, Ledger (e.print.order :: held) s.popSorter → Ledger held t) : WholeLedger t := by
  have queue : s.popSorter.sorter.queue = rest := by simp [State.popSorter, belt]
  have filing : t.filing = s.filing := by
    rw [State.filing_eq_map_gist, path, ← State.filing_eq_map_gist]
    simp [State.filing]
  have popped : s.beltOrders = e.print.order :: t.beltOrders := by
    rw [same]
    simp [State.beltOrders, queue, belt]
  have listed : Ledger s.travelling s.popSorter := h.books.congr (by simp) (by simp) (by simp)
  refine ⟨books _ (listed.perm ?_), by rw [filing]; exact h.filed⟩
  rw [State.travelling, State.travelling, filing, popped]
  exact List.perm_middle.symm

theorem loseOldest (h : WholeLedger s) : WholeLedger s.loseOldest := by
  unfold State.loseOldest
  split
  · exact h
  · rename_i e rest belt
    have calm := (Calm.rejectPrint e.print [.lost] s.popSorter).trans (Inert.raise .sortLost _).calm
    exact h.popped belt calm.pathGist calm.belt fun _ books => (books.rejectPrint (p := e.print) [.lost]).inert (.raise ..)

theorem deliverOldest (h : WholeLedger s) : WholeLedger s.deliverOldest := by
  unfold State.deliverOldest
  split
  · exact h
  · rename_i e rest belt
    refine h.popped belt (by simp [State.pathGist]) (by simp [State.beltOrders]) fun _ books => Ledger.deliverAt _ ?_
    exact books.congr (by simp) (by simp) (by simp)

theorem markStray (h : WholeLedger s) (place : Target) (excepted : Option Nat) : WholeLedger (s.markStray place excepted) :=
  h.calm (.markStray ..) (h.books.markStray place excepted)

theorem misdeliver (h : WholeLedger s) (place : Target) : WholeLedger (s.misdeliver place) := by
  unfold State.misdeliver
  split
  · exact h
  · rename_i e rest belt
    refine markStray ?_ ..
    exact h.popped belt (by simp [State.pathGist]) (by simp [State.beltOrders]) fun _ books =>
      Ledger.deliverAt (p := e.print.noteMisdelivered) place books

theorem judgeDrop (h : WholeLedger s) (place : Target) : WholeLedger (s.judgeDrop place) := by
  unfold State.judgeDrop
  repeat' split
  · exact h.markStray ..
  · exact h.deliverOldest
  · exact h.loseOldest.deliverOldest
  · exact h.misdeliver place
  · exact h.misdeliver place

theorem expireOldest (h : WholeLedger s) (fuel : Nat) : WholeLedger (s.expireOldest fuel) := by
  induction fuel generalizing s with
  | zero => exact h
  | succ fuel ih =>
    unfold State.expireOldest
    repeat' split
    · exact ih h.loseOldest
    all_goals exact h

theorem withNow (h : WholeLedger s) (now : Nat) : WholeLedger { s with now := now } := h.stay rfl rfl (h.books.congr rfl rfl rfl)

theorem reachDeadline (h : WholeLedger s) : WholeLedger s.reachDeadline := by
  unfold State.reachDeadline
  split
  · exact (h.withNow _).expireOldest _
  · exact h

/-! ### The cut -/

/-- A print that has left the path and is listed apart is rejected. -/
theorem rejected {p : PrintRecord} (filed : ∀ l ∈ s.filing, l.2.isSome = true → l.1 = .print)
    (books : Ledger (p.order :: s.travelling) s) (reasons : List RejectReason) : WholeLedger (s.rejectPrint p reasons) := by
  have calm := Calm.rejectPrint p reasons s
  have filing : (s.rejectPrint p reasons).filing = s.filing := by
    rw [State.filing_eq_map_gist, calm.pathGist, ← State.filing_eq_map_gist]
  refine ⟨?_, by rw [filing]; exact filed⟩
  rw [State.travelling, filing, calm.belt]
  exact books.rejectPrint reasons

/-- A good print joins the belt, or is refused and rejected. -/
theorem sendGood {p : PrintRecord} (filed : ∀ l ∈ s.filing, l.2.isSome = true → l.1 = .print)
    (books : Ledger (p.order :: s.travelling) s) : WholeLedger (s.sendGood p) := by
  have sorted := books.sortPrint p
  have filing : (s.sortPrint p).2.filing = s.filing := by simp [State.filing]
  unfold State.sendGood
  split
  · rename_i target t e
    rw [e] at sorted filing
    refine ⟨?_, fun l hl => filed l (filing ▸ hl)⟩
    refine Ledger.congr (s := t) (sorted.perm ?_) rfl rfl rfl
    have joined : (t.setFlap .conveyor).travelling = s.filing.filterMap Prod.snd ++ (s.beltOrders ++ [p.order]) := by
      rw [← filing, ← State.beltOrders_of_sorted e]
      rfl
    rw [joined, State.travelling, ← List.append_assoc]
    exact List.perm_append_singleton ..
  · rename_i reason t e
    rw [e] at sorted filing
    have same : (t.setFlap .chute).travelling = s.travelling := by
      rw [State.travelling, State.travelling, ← filing, ← State.beltOrders_of_refused e]
      rfl
    refine rejected (s := t.setFlap .chute) (fun l hl => filed l (filing ▸ hl)) ?_ [reason]
    rw [same]
    exact sorted.congr rfl rfl rfl

/-- The piece of a record that has left the path. -/
theorem classify {g : Segment} (filed : ∀ l ∈ s.filing, l.2.isSome = true → l.1 = .print)
    (own : g.print.isSome = true → g.kind = .print)
    (books : Ledger (g.print.toList.map PrintRecord.order ++ s.travelling) s) : WholeLedger (s.classify g) := by
  unfold State.classify
  split
  · rename_i p _ print
    rw [print] at books
    split
    · exact sendGood filed books
    · exact rejected (s := s.setFlap .chute) filed (books.congr rfl rfl rfl) _
  · rename_i noPrint
    have none : g.print = none := by
      cases print : g.print with
      | none => rfl
      | some p => exact absurd print (noPrint p (own (by simp [print])))
    rw [none] at books
    exact ⟨books.congr rfl rfl rfl, filed⟩

theorem freePiece (h : WholeLedger s) : WholeLedger s.freePiece := by
  unfold State.freePiece
  split
  · exact h
  · rename_i g rest queue
    obtain ⟨books, filed⟩ := h
    have filing : s.filing = (g.kind, g.print.map PrintRecord.order) ::
        State.filing { s with path := { s.path with queue := rest } } := by simp [State.filing, queue]
    have listed : s.travelling = g.print.toList.map PrintRecord.order ++
        State.travelling { s with path := { s.path with queue := rest } } := by
      rw [State.travelling, State.travelling, filing]
      cases g.print <;> rfl
    rw [filing] at filed
    rw [listed] at books
    have classified : WholeLedger (State.classify g { s with path := { s.path with queue := rest } }) :=
      classify (fun l hl => filed l (List.mem_cons_of_mem _ hl))
        (by simpa using filed _ (List.mem_cons_self ..)) (books.congr rfl rfl rfl)
    dsimp only
    split
    · exact classified.endDrain
    · exact classified

theorem takeCutDone (h : WholeLedger s) : WholeLedger s.takeCutDone := by
  have fired {u : State} (h : WholeLedger u) : WholeLedger u.fireLate :=
    h.of_gist (SamePath.fireLate u).pathGist (by simp [State.beltOrders]) (h.books.congr (by simp) (by simp) (by simp))
  unfold State.takeCutDone State.completeCut
  split
  · rename_i e rest _ _
    have taken : WholeLedger { s with cutter := { s.cutter with progress := none, cutList := rest } } :=
      h.stay rfl rfl (h.books.congr rfl rfl rfl)
    refine fired ?_
    split
    · exact taken.freePiece
    · exact taken.stay rfl rfl (taken.books.congr rfl rfl rfl)
  · exact h.inert (.bump ..)

theorem giveUpCut (h : WholeLedger s) : WholeLedger s.giveUpCut := by
  unfold State.giveUpCut
  split
  · rename_i progress e rest _ _
    have givenUp : WholeLedger { s with
        now := max s.now progress.due
        cutter := { s.cutter with progress := none, cutList := { e with retry := true } :: rest } } :=
      h.stay rfl rfl (h.books.congr rfl rfl rfl)
    exact haltIfMoving ((givenUp.quiet (.markLate ..) (by simp) (by simp)).inert (.raise ..)) _
  · exact h

theorem takeStopInput (h : WholeLedger s) (input : StopInput) (active : Bool) : WholeLedger (s.takeStopInput input active) := by
  have level : WholeLedger (s.setStopLevel input active) :=
    h.stay (by simp [State.filing]) (by simp [State.beltOrders]) (h.books.congr (by simp) (by simp) (by simp))
  unfold State.takeStopInput
  dsimp only
  repeat' split
  · exact h
  · exact (level.inert (.raise ..)).haltIfMoving _
  · exact level

/-! ### RUN ABORT -/

/-- The records behind the first few are still listed when those have been rejected. -/
theorem abortSegments_firstFew (h : WholeLedger s) (n : Nat) (inside : n ≤ s.path.queue.length) :
    Calm s ((List.range n).foldl (fun s i => s.abortSegment i) s) ∧
      Ledger ((s.filing.drop n).filterMap Prod.snd ++ s.beltOrders) ((List.range n).foldl (fun s i => s.abortSegment i) s) := by
  induction n with
  | zero => exact ⟨.refl s, h.books⟩
  | succ n ih =>
    obtain ⟨calm, books⟩ := ih (by omega)
    rw [List.range_succ, List.foldl_append, List.foldl_cons, List.foldl_nil]
    generalize (List.range n).foldl (fun s i => s.abortSegment i) s = u at calm books
    have lt : n < s.filing.length := by simpa [State.filing] using inside
    have filing : u.filing = s.filing := by
      rw [State.filing_eq_map_gist, calm.pathGist, ← State.filing_eq_map_gist]
    rw [List.drop_eq_getElem_cons lt] at books
    obtain ⟨entry, he⟩ : ∃ entry, s.filing[n] = entry := ⟨_, rfl⟩
    have held : u.filing[n]? = some entry := by rw [filing, List.getElem?_eq_getElem lt, he]
    rw [State.filing, List.getElem?_map] at held
    obtain ⟨g, queue, rfl⟩ := Option.map_eq_some_iff.mp held
    rw [he] at books
    unfold State.abortSegment
    simp only [queue]
    cases print : g.print with
    | none =>
      rw [print] at books
      exact ⟨calm, by simpa using books⟩
    | some p =>
      rw [print] at books
      exact ⟨calm.trans (.rejectPrint ..), Ledger.rejectPrint _ (by simpa using books)⟩

theorem abortRun (h : WholeLedger s) : WholeLedger s.abortRun := by
  have awaiting {u : State} (h : WholeLedger u) : WholeLedger u.abortAwaiting := by
    unfold State.abortAwaiting
    split
    · exact h.quiet (.withReader ..) rfl rfl
    · exact h
  have stopped : WholeLedger s.endExposure.abortAwaiting.stopStepping :=
    (awaiting (h.quiet (.endExposure s) (by simp) (endExposure_staged s))).quiet (.stopStepping _) (by simp) (by simp)
  have rejected {u : State} (h : WholeLedger u) : Ledger u.beltOrders u.abortSegments ∧ u.abortSegments.beltOrders = u.beltOrders := by
    obtain ⟨calm, books⟩ := h.abortSegments_firstFew u.path.queue.length le_rfl
    have none : u.filing.drop u.path.queue.length = [] := List.drop_eq_nil_of_le (by simp [State.filing])
    rw [none] at books
    exact ⟨books, calm.belt⟩
  have purged {u : State} {held : List Nat} (books : Ledger held u) (belt : u.beltOrders = held) :
      WholeLedger (State.resetCutter (State.purgePath { u with
        path := { u.path with run := .idle, haltCause := none, drainCause := none, dwell := .stopped } })) := by
    refine ⟨?_, ?_⟩
    · subst belt
      exact books.congr rfl rfl rfl
    · intro l hl
      simp [State.filing, State.resetCutter, State.purgePath, Segment.purge] at hl
      simp [hl]
  obtain ⟨books, belt⟩ := rejected stopped
  exact purged books.discardStaged ((Calm.discardStaged ..).belt.trans belt)

theorem takeRunAbort (h : WholeLedger s) (f : InFrame) : WholeLedger (s.takeRunAbort f) := by
  refine inert ?_ (.removeImmediate _)
  have answered := h.inert (.answer f .accepted s)
  repeat' split
  · exact h.inert (.answer ..)
  · exact answered
  · exact answered.abortRun

/-! ### The other commands -/

theorem takeRunparamLoad (h : WholeLedger s) (f : InFrame) : WholeLedger (s.takeRunparamLoad f) := by
  have applied (p : RunParams) : WholeLedger (s.applyRunParams p) := by
    refine h.stay ?_ (by simp [State.applyRunParams, State.beltOrders]) (h.books.congr ?_ ?_ ?_)
    · have same (old new : Nat) (g : Segment) : ((g.resizePurge old new).kind, (g.resizePurge old new).print.map PrintRecord.order) =
          (g.kind, g.print.map PrintRecord.order) := by
        unfold Segment.resizePurge
        split <;> rfl
      simp [State.filing, State.applyRunParams, same]
    all_goals simp [State.applyRunParams]
  unfold State.takeRunparamLoad
  refine inert ?_ (.removeSequenced _)
  repeat' split
  · exact h.inert (.answer ..)
  · exact (applied _).inert (.answer ..)
  · exact h.inert (.answer ..)

theorem takeRunStart (h : WholeLedger s) (f : InFrame) : WholeLedger (s.takeRunStart f) := by
  have accepted : WholeLedger s.acceptRunStart := by
    unfold State.acceptRunStart State.startRun
    split
    all_goals exact h.stay rfl rfl (h.books.congr rfl rfl rfl)
  unfold State.takeRunStart
  refine inert ?_ (.removeImmediate _)
  repeat' split
  · exact h.inert (.answer ..)
  · exact accepted.inert (.answer ..)
  · exact h.inert (.answer ..)

theorem takeRunEnd (h : WholeLedger s) (f : InFrame) : WholeLedger (s.takeRunEnd f) := by
  have accepted : WholeLedger s.acceptRunEnd := by
    unfold State.acceptRunEnd
    split
    all_goals exact h.withPath rfl
  unfold State.takeRunEnd
  refine inert ?_ (.removeImmediate _)
  split
  · exact h.inert (.answer ..)
  · exact accepted.inert (.answer ..)

theorem expireDwell (h : WholeLedger s) : WholeLedger s.expireDwell := by
  unfold State.expireDwell
  split
  · rename_i due _
    have expired := (h.withNow (max s.now due)).withPath (path := { s.path with dwell := .expired }) rfl
    exact (quiet expired (.markZone (f := Segment.flagDwell) (fun _ => rfl) _) (by simp) (by simp)).inert (.raise ..)
  all_goals exact h

theorem clearBin (h : WholeLedger s) (bin : Nat) : WholeLedger (s.clearBin bin) := by
  refine h.calm (.clearBin bin s) ?_
  have emptied : Ledger s.travelling (s.updateBin bin Bin.cleared) := h.books.congr (by simp) (by simp) (by simp)
  unfold State.clearBin
  repeat' split
  · exact h.books
  · exact emptied.touch (fun _ => rfl) (fun _ => rfl) (fun _ => id) (fun _ => rfl)
  · exact emptied

theorem linkReset (h : WholeLedger s) : WholeLedger s.resetLink.resetReader := by
  refine h.calm (.linkReset s) ?_
  have link : Ledger s.travelling s.resetLink := h.books.congr rfl rfl rfl
  unfold State.resetReader
  repeat' split
  · exact link
  · exact link.discardStaged
  all_goals exact link.congr rfl rfl rfl

theorem completePricing (h : WholeLedger s) : WholeLedger s.completePricing := by
  refine h.of_gist (SamePath.completePricing s).pathGist ?_ h.books.completePricing
  have taken (u : State) : u.takeWaitingLoad.beltOrders = u.beltOrders := (Inert.takeWaitingLoad u).calm.belt
  have engine (u : State) : u.engineTake.beltOrders = u.beltOrders := by simp [State.beltOrders]
  unfold State.completePricing
  split
  · rfl
  · dsimp only
    rw [engine, taken]
    split <;> simp [State.beltOrders, State.orderPriced]

theorem reset : WholeLedger State.reset := by
  have empty (slot : Nat) (r : Order) : ¬ State.reset.HasOrder slot r := by
    have slots : State.reset.orders = List.replicate 32 none := rfl
    rw [State.HasOrder, slots, List.getElem?_replicate]
    split <;> simp
  exact ⟨⟨fun i _ r _ hr => absurd hr (empty i r), fun i r hr => absurd hr (empty i r), fun i r hr => absurd hr (empty i r),
    nofun, .nil, nofun⟩, nofun⟩

end WholeLedger

/-- Every command keeps the ledger; a header finds nothing staged because the reader is coherent. -/
theorem effect_wholeLedger (c : Instr) {s : State} (coherent : ReaderCoherent s) (h : WholeLedger s) :
    WholeLedger (effect c s) := by
  by_cases inert : inertCommand c = true
  · exact h.inert (effect_inert inert s)
  have sequenced {kind : InKind} {act : InFrame → State → State}
      (acts : ∀ f u, u.reader.mode = .reading → ReaderCoherent u ∧ WholeLedger u → WholeLedger (act f u)) :
      WholeLedger (s.onSequenced kind act) := by
    unfold State.onSequenced
    repeat' split
    · rename_i front
      exact acts _ _ (State.toReading_mode front.2) ⟨coherent.toReading, h.toReading⟩
    all_goals exact h
  have immediate {kind : InKind} {act : InFrame → State → State} (acts : ∀ f u, WholeLedger u → WholeLedger (act f u)) :
      WholeLedger (s.onImmediate kind act) :=
    State.onImmediate_preserves acts h
  cases c
  case fullReset => exact WholeLedger.reset.stay rfl rfl (WholeLedger.reset.books.congr rfl rfl rfl)
  case linkReset => exact h.linkReset
  case orderOpen => exact sequenced fun f _ _ h => h.2.takeOrderOpen f
  case orderClose => exact sequenced fun f _ _ h => h.2.takeOrderClose f
  case printHeader =>
    refine sequenced fun f u reading h => h.2.takePrintHeader ?_ f
    have unstaged := (not_congr h.1.1).mpr (by simp [reading])
    simpa using unstaged
  case line => exact h.takeLine
  case printEnd => exact h.takePrintEnd
  case paperLoad => exact sequenced fun f u _ h => h.2.inert (.takePaperLoad f u)
  case profileLoad => exact sequenced fun f u _ h => h.2.inert (.unlessExposing .takeProfileLoad f u)
  case lutLoad => exact sequenced fun f u _ h => h.2.inert (.unlessExposing .takeLutLoad f u)
  case thermalLoad => exact sequenced fun f u _ h => h.2.inert (.unlessExposing .takeThermalLoad f u)
  case sizeLoad => exact sequenced fun f u _ h => h.2.inert (.unlessExposing .takeSizeLoad f u)
  case runparamLoad => exact sequenced fun f _ _ h => h.2.takeRunparamLoad f
  case runStart => exact immediate fun f _ h => h.takeRunStart f
  case runEnd => exact immediate fun f _ h => h.takeRunEnd f
  case runAbort => exact immediate fun f _ h => h.takeRunAbort f
  case orderCancel => exact immediate fun f _ h => h.takeOrderCancel f
  case step sample =>
    exact WholeLedger.keptByChoice.takeStep (fun now _ h => h.withNow now) (fun sample _ h => h.issueStep sample) sample h
  case cutDone => exact h.takeCutDone
  case cutTimeout => exact h.giveUpCut
  case dwellExpiry => exact h.expireDwell
  case conversion value => exact h.quiet (.takeConversion value s) (by simp [effect, State.takeConversion]) (by simp [effect, State.takeConversion])
  case estopJamInput input active => exact h.takeStopInput input active
  case drop place => exact (h.judgeDrop _).expireOldest _
  case deliveryDeadline => exact h.reachDeadline
  case binClear bin => exact h.clearBin bin
  case pricingComplete => exact h.completePricing
  all_goals exact absurd rfl inert

/-- Settles O59: the prints that the part holds are listed by their orders, and each operation of the Order Table keeps the books of that
list; a print that moves from the reader to the path, to the belt, or out of the part is moved in the list, or leaves it with its order's
in-flight count. -/
theorem stepKeepsTheLedger : Obligations.StepKeepsTheLedger := by
  intro s t coherent balances stepped
  rw [ledgerBalances_iff] at balances ⊢
  have kept := step_preserves (P := fun s => ReaderCoherent s ∧ WholeLedger s)
    (fun _ _ h => ⟨h.1, h.2.stay rfl rfl (h.2.books.congr rfl rfl rfl)⟩)
    (fun s pins h => ⟨h.1.inert (.tickWith pins s), h.2.inert (.tickWith pins s)⟩)
    (fun c _ h => ⟨effect_readerCoherent c h.1, effect_wholeLedger c h.1 h.2⟩) ⟨coherent, balances⟩ stepped
  exact kept.2

/-- Settles O60: each of the six properties is read off the empty records of the state after reset. -/
theorem resetIsCoherent : Obligations.ResetIsCoherent :=
  ⟨⟨rfl, rfl⟩, ⟨rfl, Nat.le_of_ble_eq_true rfl, rfl⟩, ⟨by decide, by decide⟩, ⟨by decide, by decide, by decide, by decide⟩,
    ⟨by decide, by decide, rfl, by decide, by decide, by decide⟩, (ledgerBalances_iff _).mpr .reset⟩

end Sys2Proof.Machine
end

section
/-!
PROOFS. The machine and its link: the queue of commands, the reset pin, the full reset, the break, the outbound queue and its transmitter
(chapters 00 and 10), and the raise of a cause (section 9.2).
-/

namespace Sys2Proof.Machine

/-- Settles O1: the step takes the front command by definition. -/
theorem stepTakesFrontCommand : Obligations.StepTakesFrontCommand := by
  intro c rest s waiting
  simp only [step, waiting]

/-! ### Commands in and out of reset -/

/-- In reset a well-formed command other than the two of the reset pin does nothing. -/
theorem exec_of_inReset {c : Instr} {s : State} (held : s.inReset = true) (wellFormed : c.wellFormed = true)
    (notFull : c ≠ .fullReset) (notRelease : c ≠ .resetPinRelease) : exec c s = .next s := by
  have waits := State.event_of_inReset (f := effect c) held
  cases c
  case fullReset => exact absurd rfl notFull
  case resetPinRelease => exact absurd rfl notRelease
  case drop place => simpa [exec_eq, waits, Instr.wellFormed, wellFormedPlace] using wellFormed
  case binClear bin => simpa [exec_eq, waits, Instr.wellFormed] using wellFormed
  all_goals exact waits

/-- Settles O3: a well-formed command has its effect out of reset; in reset it waits, unless it is one of the two reset commands. -/
theorem commandsCompleteOrAreNamed : Obligations.CommandsCompleteOrAreNamed := by
  refine ⟨⟨fun c s wellFormed => ?completes, fun place s bad => ?drop, fun bin s bad => ?clear⟩,
    fun c s held wellFormed notFull notRelease => exec_of_inReset held wellFormed notFull notRelease⟩
  case completes =>
    cases held : s.inReset with
    | false => exact ⟨_, exec_of_not_inReset wellFormed held⟩
    | true =>
      by_cases full : c = .fullReset
      · subst full
        exact ⟨_, rfl⟩
      · by_cases release : c = .resetPinRelease
        · subst release
          exact ⟨_, rfl⟩
        · exact ⟨s, exec_of_inReset held wellFormed full release⟩
  case drop =>
    have outside : ¬ (1 ≤ place ∧ place ≤ 25) := by simpa [Instr.wellFormed, wellFormedPlace] using bad
    rw [exec_eq]
    exact if_neg outside
  case clear =>
    have outside : ¬ (1 ≤ bin ∧ bin ≤ 24) := by simpa [Instr.wellFormed] using bad
    rw [exec_eq]
    exact if_neg outside

/-- Settles O4: each value stands in the state after reset. -/
theorem fullResetClearsTheMachine : Obligations.FullResetClearsTheMachine := by
  refine ⟨fun s => ⟨_, rfl, rfl, rfl, ?path, ?cutter, ?stream, ?price, ?exposure, ?monitor, ?sorter, ?alerts, ?link⟩, fun s => ⟨?held, ?out⟩⟩
  case path => exact ⟨rfl, rfl, rfl, rfl, rfl, rfl, rfl, rfl⟩
  case cutter => exact ⟨rfl, rfl, rfl, rfl, rfl, rfl, rfl, rfl, rfl⟩
  case stream => exact ⟨rfl, rfl, rfl, rfl, rfl, rfl⟩
  case price => exact ⟨rfl, rfl, rfl, rfl, rfl, rfl, rfl⟩
  case exposure => exact ⟨rfl, rfl, rfl, rfl, rfl, rfl, rfl, rfl, rfl, rfl, rfl, rfl⟩
  case monitor => exact ⟨_, _, rfl, rfl, rfl, rfl⟩
  case sorter => exact ⟨rfl, rfl, rfl, rfl, rfl, rfl, rfl, rfl, rfl⟩
  case alerts => exact ⟨rfl, rfl, rfl, rfl, rfl, rfl⟩
  case link => exact ⟨rfl, rfl, rfl, rfl, rfl, rfl, rfl, rfl⟩
  case held =>
    intro held
    change Host.Outcome.next (if s.inReset then s.leaveReset else s) = _
    rw [if_pos held]
    rfl
  case out =>
    intro out
    change Host.Outcome.next (if s.inReset then s.leaveReset else s) = _
    rw [if_neg (by simp [out])]

/-! ### The break -/

theorem exec_frameArrival {bytes : List Byte} {s : State} (out : s.inReset = false) :
    exec (.frameArrival bytes) s = .next (s.receive bytes) := State.event_of_not_inReset out

/-- Settles O5: a link reset clears the link and leaves the reader by its mode; the break lasts until the line returns to marking. -/
theorem breakResetsTheLink : Obligations.BreakResetsTheLink := by
  refine ⟨fun s out => ?reset, fun s out => ⟨fun held => ⟨?resume, fun bytes => ?deaf⟩, fun free => ?marking⟩⟩
  case reset =>
    have acts : exec .linkReset s = .next s.resetLink.resetReader := exec_of_not_inReset rfl out
    have mode : s.resetLink.reader.mode = s.reader.mode := rfl
    refine ⟨fun reading => ?_, fun feeding => ?_, fun leaves => ?_, fun p staged held => ?_⟩
    · rw [acts, State.resetReader, mode, reading]
      rfl
    · rw [acts, State.resetReader, mode, feeding]
      rfl
    · rcases leaves with e | e <;> rw [acts, State.resetReader, mode, e] <;> rfl
    · have same : s.resetLink.reader.staged = some p := held
      rw [acts, State.resetReader, mode, staged]
      simp only [State.discardStaged, same]
      rfl
  case resume =>
    have acts := exec_of_not_inReset (c := .lineReturnsToMarking) rfl out
    rw [acts, effect, if_pos held]
    rfl
  case deaf =>
    rw [exec_frameArrival out, State.receive, if_pos held]
  case marking =>
    have acts := exec_of_not_inReset (c := .lineReturnsToMarking) rfl out
    rw [acts, effect, if_neg (by simp [free])]

/-! ### Inbound frames -/

theorem InKind.ofCode_code (k : InKind) : InKind.ofCode k.code = some k := by cases k <;> rfl

theorem frameCheck_lt (bytes : List Byte) : (frameCheck bytes).toNat < 65536 := (frameCheck bytes).isLt

/-- A frame with a good check is admitted as it stands. -/
theorem exec_frameArrival_frameBytes {k : InKind} {tag : Byte} {payload : List Byte} {s : State} (out : s.inReset = false)
    (marking : s.link.breakHeld = false) (hunting : s.link.receiver = .hunting) (allowed : payload.length ≤ 11600) :
    exec (.frameArrival (frameBytes k.code tag payload)) s =
      .next (s.admitFrame { kind := k, tag := tag, payload := payload }) := by
  let check := (frameCheck ([k.code, tag] ++ bytesOf 2 payload.length ++ payload)).toNat
  have bytes : frameBytes k.code tag payload =
      [0xA5, k.code, tag] ++ bytesOf 2 payload.length ++ (payload ++ bytesOf 2 check) := by simp [frameBytes, check]
  have carried : numberOf (bytesOf 2 check) = check := numberOf_bytesOf (frameCheck_lt _)
  have received := State.receive_frame k.code tag (body := payload ++ bytesOf 2 check) allowed (by simp) marking hunting
  rw [exec_frameArrival out, bytes, received]
  simp only [State.judgeFrame, List.take_left, List.drop_left, carried, InKind.ofCode_code]
  exact congrArg Host.Outcome.next (if_pos rfl)

/-- Settles O6: the receiver takes the frame from its bytes, its check agrees, and its group's credit decides. -/
theorem goodFrameIsStored : Obligations.GoodFrameIsStored := by
  intro k tag payload s out marking hunting allowed
  rw [exec_frameArrival_frameBytes out marking hunting allowed]
  refine ⟨fun group credit => ?_, fun group credit => ?_, fun none => ?_⟩
  · simp [State.admitFrame, State.available, State.useCredit, group, credit]
  · simp [State.admitFrame, State.available, State.useCredit, group, credit]
  · simp [State.admitFrame, State.available, none]

/-! ### Outbound frames -/

theorem bytesOf_one (v : Nat) : bytesOf 1 v = [BitVec.ofNat 8 v] := by simp [bytesOf]

/-- Settles O8: the queue, its frames, the CREDIT frame, and the frame that is begun, each from its definition. -/
theorem transmitterBeginsFrames : Obligations.TransmitterBeginsFrames := by
  refine ⟨fun f s => ⟨fun room => ?_, fun full => ?_⟩, fun f result kind payload s => ⟨?_, rfl⟩, fun s out => ⟨fun due => ?_, fun stream command => ?_⟩,
    fun f rest s out queue => ?_⟩
  · simp [State.queueFrame, room]
  · simp [State.queueFrame, full.not_gt, saturate]
  · simp [State.answer, statusFrame, bytesOf_one]
  · rw [exec_of_not_inReset rfl out, effect, State.sendCredit, if_pos (by simpa [State.creditDue] using due)]
    simp [State.beginFrame, creditFrame, bytesOf_one, OutFrame.lineTime]
  · rw [exec_of_not_inReset rfl out, effect, State.sendCredit, if_neg (by simp [State.creditDue, stream, command])]
  · have acts := exec_of_not_inReset (c := .frameTransmit) rfl out
    rw [effect, State.transmit, queue] at acts
    refine ⟨fun stream command plain => ?_, fun stream command marked => ?_, fun due => ?_⟩
    · rw [acts]
      simp [State.creditDue, stream, command, plain, State.beginFrame, OutFrame.lineTime]
    · rw [acts]
      simp [State.creditDue, stream, command, marked, State.beginFrame, OutFrame.lineTime]
    · rw [acts]
      simp [State.creditDue, due]

/-! ### A raise -/

/-- Settles O9: the raise sets the record and then reports it where it is enabled and not yet reported. -/
theorem raiseCountsAndReports : Obligations.RaiseCountsAndReports := by
  intro c s twenty r n
  have inside : c.code < s.alerts.causes.length := by rw [twenty]; cases c <;> decide
  have count : saturate 255 r.count = n := rfl
  have record : (s.setCause c { r with count := n, pending := true }).cause c = { r with count := n, pending := true } := by
    simp [State.cause, State.setCause, inside]
  unfold State.raise State.reportCause
  dsimp only
  rw [show s.cause c = r from rfl, count, record]
  by_cases tells : r.enabled = true ∧ r.reported = false
  · rw [if_pos tells, if_pos (by simp [tells])]
    simp [State.report, State.setCause, alertPayload, bytesOf_one, tells]
  · rw [if_neg tells, if_neg (by simpa using tells)]
    rfl

end Sys2Proof.Machine
end

section
/-!
PROOFS. Fields of a payload (section 11.1): the bytes of a number are read back wherever they stand.
-/

namespace Sys2Proof.Machine

/-- A field is the number of the bytes that stand there. -/
theorem field_of_append (before bytes after : List Byte) :
    field (before ++ bytes ++ after) before.length bytes.length = numberOf bytes := by
  simp [field]

theorem field_bytesOf {n v : Nat} (before after : List Byte) (inRange : v < 256 ^ n) :
    field (before ++ bytesOf n v ++ after) before.length n = v := by
  have read := field_of_append before (bytesOf n v) after
  rwa [length_bytesOf, numberOf_bytesOf inRange] at read

theorem getElem?_bytesOf {n i : Nat} (v : Nat) (inside : i < n) :
    (bytesOf n v)[i]? = some (BitVec.ofNat 8 (v / 256 ^ (n - 1 - i))) := by
  induction n generalizing i with
  | zero => omega
  | succ n ih =>
    cases i with
    | zero => simp [bytesOf]
    | succ i =>
      rw [bytesOf, List.getElem?_cons_succ, ih (by omega), show n + 1 - 1 - (i + 1) = n - 1 - i by omega]

theorem fieldOrZero_of_short {payload : List Byte} {offset n : Nat} (short : payload.length < offset + n) :
    fieldOrZero payload offset n = 0 := if_neg (by omega)

theorem fieldOrZero_of_reaches {payload : List Byte} {offset n : Nat} (reaches : offset + n ≤ payload.length) :
    fieldOrZero payload offset n = field payload offset n := if_pos reaches

/-- A number in two's complement: the residue is below half the range where the number is not below 0. -/
theorem fieldInt_bytesOfInt {n : Nat} {v : Int} (before after : List Byte) (positive : 0 < n)
    (low : -(256 ^ n / 2 : Nat) ≤ v) (high : v < (256 ^ n / 2 : Nat)) :
    fieldInt (before ++ bytesOfInt n v ++ after) before.length n = v := by
  obtain ⟨half, whole⟩ : ∃ half : Nat, 256 ^ n = 2 * half := by
    obtain ⟨m, rfl⟩ := Nat.exists_eq_add_of_lt positive
    exact ⟨128 * 256 ^ m, by rw [zero_add, pow_succ]; ring⟩
  have halved : 256 ^ n / 2 = half := by omega
  rw [halved] at low high
  have residue : v % (256 ^ n : Nat) = if 0 ≤ v then v else v + 2 * half := by
    rw [whole]
    push_cast
    split
    · exact Int.emod_eq_of_lt (by omega) (by omega)
    · rw [← Int.add_emod_right]
      exact Int.emod_eq_of_lt (by omega) (by omega)
  have inRange : (v % (256 ^ n : Nat)).toNat < 256 ^ n := by
    rw [residue, whole]
    split <;> omega
  rw [fieldInt, bytesOfInt, field_bytesOf before after inRange, halved, residue, whole]
  push_cast
  split
  · rw [if_pos (by omega)]
    omega
  · rw [if_neg (by omega)]
    omega

theorem InKind.code_of_ofCode {b : Byte} {k : InKind} (known : InKind.ofCode b = some k) : k.code = b := by
  unfold InKind.ofCode at known
  split at known
  case h_24 => cases known
  all_goals
    rename_i value
    obtain rfl := Option.some.inj known
    exact BitVec.eq_of_toNat_eq value.symm

/-- Settles O10: by the round trips of `bytesOf` and of the kind codes at any place. -/
theorem fieldsReadBack : Obligations.FieldsReadBack := by
  refine ⟨fun n v i inside => getElem?_bytesOf v inside, fun n v inRange => ⟨length_bytesOf n v, numberOf_bytesOf inRange⟩,
    fun n v before after inRange => ⟨field_bytesOf before after inRange, ?_⟩, fun payload offset n short => fieldOrZero_of_short short,
    fun n v before after positive low high => fieldInt_bytesOfInt before after positive low high, InKind.ofCode_code,
    fun b k known => InKind.code_of_ofCode known⟩
  rw [fieldOrZero_of_reaches (by simp), field_bytesOf before after inRange]

end Sys2Proof.Machine
end

section
/-!
PROOFS. A step with no command waiting (00_scope, "Block Overview"; sections 10.4 and 10.5): the timed events in their order, what the
part does at once, and the microsecond that passes where there is neither.
-/

namespace Sys2Proof.Machine

/-! ### One microsecond -/

theorem State.advanceClock_eq (s : State) :
    s.advanceClock.now = s.now + 1 ∧ s.advanceClock.link = s.link := ⟨rfl, rfl⟩

/-- The samples of the stop inputs post their events alone. -/
theorem State.mem_sampleStops {pins : Pins} {s : State} {c : Instr} (posted : c ∈ (s.sampleStops pins).2) :
    ∃ input active, c = .estopJamInput input active := by
  have event {input : StopInput} {q : Qualifier} (h : c ∈ stopEvent input q) : ∃ input active, c = .estopJamInput input active := by
    unfold stopEvent at h
    split at h
    · exact ⟨_, _, List.mem_singleton.mp h⟩
    · cases h
  unfold State.sampleStops at posted
  split at posted
  · exact (List.mem_append.mp posted).elim event event
  · cases posted

/-- The samples of the sorter's inputs post drops and clears alone. -/
theorem State.mem_sampleSorter {pins : Pins} {s : State} {c : Instr} (posted : c ∈ (s.sampleSorter pins).2) :
    ∃ place, c = .drop place ∨ c = clearCommand place := by
  unfold State.sampleSorter at posted
  split at posted
  · rcases List.mem_append.mp posted with h | h
    · obtain ⟨place, -, rfl⟩ := List.mem_map.mp h
      exact ⟨place, .inl rfl⟩
    · obtain ⟨place, -, rfl⟩ := List.mem_map.mp h
      exact ⟨place, .inr rfl⟩
  · cases posted

/-- The command of a line event is posted by the watch on the line alone. -/
theorem State.mem_pending_tickWith {pins : Pins} {s : State} {c : Instr} (line : c = .linkReset ∨ c = .lineReturnsToMarking) :
    c ∈ (s.tickWith pins).pending ↔ c ∈ (s.advanceClock.watchLine pins).2 := by
  have notStops (u : State) : c ∉ (u.sampleStops pins).2 := fun posted => by
    obtain ⟨input, active, rfl⟩ := State.mem_sampleStops posted
    simp at line
  have notPlaces (u : State) : c ∉ (u.sampleSorter pins).2 := fun posted => by
    obtain ⟨place, rfl | rfl⟩ := State.mem_sampleSorter posted
    · simp at line
    · unfold clearCommand at line
      split at line <;> simp at line
  simp [State.tickWith, notStops, notPlaces]

/-- What the watch on the line leaves: the count of spacing. -/
theorem State.watchLine_link (pins : Pins) (s : State) :
    (s.watchLine pins).1.link = { s.link with spacing :=
      if pins.spacing = false then 0 else if s.link.breakHeld = true then s.link.spacing
      else if s.link.spacing < 10 then s.link.spacing + 1 else s.link.spacing } := by
  cases spacing : pins.spacing
  case false => simp [State.watchLine, spacing]
  case true =>
    by_cases held : s.link.breakHeld = true
    · have same : s.watchLine pins = (s, []) := by simp [State.watchLine, spacing, held]
      rw [same, if_neg (by decide), if_pos held]
    · simp [State.watchLine, saturate, spacing, held]

/-- A microsecond passes: the clock, the pulses, and the line; the samplers change the levels of their inputs alone. -/
theorem State.tickWith_link (pins : Pins) (s : State) : (s.tickWith pins).link = (s.advanceClock.watchLine pins).1.link := by
  unfold State.tickWith State.sampleStops State.sampleSorter
  dsimp only
  repeat' split
  all_goals rfl

theorem State.tickWith_rest (pins : Pins) (s : State) :
    let t := s.tickWith pins
    t.now = s.now + 1 ∧ t.store = s.store ∧ t.commands = s.commands ∧ t.orders = s.orders ∧
      t.reader = s.reader ∧ t.path = s.path ∧ t.exposure = s.exposure ∧ t.cutter = s.cutter ∧ t.monitor = s.monitor ∧
      t.price = s.price ∧ t.link.outbound = s.link.outbound ∧ t.sorter.queue = s.sorter.queue ∧
      t.sorter.bins = s.sorter.bins ∧ t.alerts.causes = s.alerts.causes ∧ t.alerts.counters = s.alerts.counters ∧
      t.outputs = s.advanceClock.outputs := by
  unfold State.tickWith State.watchLine State.sampleStops State.sampleSorter
  dsimp only
  repeat' split
  all_goals exact ⟨rfl, rfl, rfl, rfl, rfl, rfl, rfl, rfl, rfl, rfl, rfl, rfl, rfl, rfl, rfl, rfl⟩

theorem State.linkReset_posted (pins : Pins) (s : State) : .linkReset ∈ (s.watchLine pins).2 ↔
    pins.spacing = true ∧ s.link.breakHeld = false ∧ (s.link.spacing = 9 ∨ s.link.spacing = 10) := by
  unfold State.watchLine saturate
  cases pins.spacing <;> cases held : s.link.breakHeld <;> simp [held]
  split <;> omega

theorem State.lineReturnsToMarking_posted (pins : Pins) (s : State) : .lineReturnsToMarking ∈ (s.watchLine pins).2 ↔
    pins.spacing = false ∧ s.link.breakHeld = true := by
  unfold State.watchLine
  cases pins.spacing <;> cases held : s.link.breakHeld <;> simp [held]

/-! ### The timed events -/

open Classical in
/-- The timed events in their order, each where its time has come. -/
theorem State.dueEvents_eq (pins : Pins) (s : State) : s.dueEvents pins =
    (if s.stepping = true ∧ s.exposure.stepDue ≤ s.now then [.step (if pins.hole then .hole else .paper)] else []) ++
    (if s.monitor.conversionDue ≤ s.now then [.conversion (pins.temperatures.getD s.monitor.converting 0)] else []) ++
    (if ∃ p, s.cutter.progress = some p ∧ p.due ≤ s.now then [.cutTimeout] else []) ++
    (if ∃ due, s.path.dwell = .running due ∧ due ≤ s.now then [.dwellExpiry] else []) ++
    (if ∃ e rest, s.sorter.queue = e :: rest ∧ e.deadline ≤ s.now then [.deliveryDeadline] else []) ++
    (if ∃ p, s.price.engine = some p ∧ p.due ≤ s.now then [.pricingComplete] else []) := by
  unfold State.dueEvents whenDue
  refine congrArg₂ _ (congrArg₂ _ (congrArg₂ _ (congrArg₂ _ (congrArg₂ _ ?step rfl) ?cut) ?dwell) ?lost) ?priced
  case step => cases s.stepping <;> simp
  case cut => cases s.cutter.progress <;> simp
  case dwell => cases s.path.dwell <;> simp
  case lost => cases s.sorter.queue <;> simp
  case priced => cases s.price.engine <;> simp

/-! ### What the part does at once -/

theorem InKind.readerCommand_eq_some_iff (k : InKind) (c : Instr) : k.readerCommand = some c ↔
    (k, c) ∈ [(InKind.orderOpen, Instr.orderOpen), (.orderClose, .orderClose), (.printHeader, .printHeader),
      (.line, .line), (.printEnd, .printEnd), (.paperLoad, .paperLoad), (.profileLoad, .profileLoad),
      (.lutLoad, .lutLoad), (.thermalLoad, .thermalLoad), (.sizeLoad, .sizeLoad), (.runparamLoad, .runparamLoad)] := by
  cases k <;> simp [InKind.readerCommand, eq_comm]

theorem State.frontWaits_iff (k : InKind) (s : State) : s.frontWaits k = true ↔
    (s.reader.mode = .staged ∨ s.reader.mode = .feeding ∧ k = .line ∨
      s.reader.mode = .reading ∧ s.reader.source.isSome = true ∧ k ∈ [InKind.profileLoad, .lutLoad, .thermalLoad, .sizeLoad]) := by
  cases hm : s.reader.mode <;> cases k <;> simp [State.frontWaits, hm, InKind.waitsForExposure, State.exposing]

theorem queryCommand_eq (code : Nat) : queryCommand code =
    [Instr.queryOrder, .queryBin, .queryPath, .queryMonitor, .queryRun, .queryTable, .queryCounters, .queryAlerts].getD
      (code - 1) .queryOrder := by
  unfold queryCommand
  split
  case h_9 =>
    rename_i n1 n2 n3 n4 n5 n6 n7 n8
    rcases code with _ | _ | _ | _ | _ | _ | _ | _ | _ | n
    · rfl
    all_goals simp at n1 n2 n3 n4 n5 n6 n7 n8 ⊢
  all_goals rfl

theorem InFrame.ownerCommand_eq_some_iff (f : InFrame) (c : Instr) : f.ownerCommand = some c ↔
    ((f.kind, c) ∈ [(InKind.runStart, Instr.runStart), (.runEnd, .runEnd), (.runAbort, .runAbort),
      (.orderCancel, .orderCancel), (.binRelease, .binRelease), (.alertClear, .alertClear),
      (.alertEnable, .alertEnable), (.monitorLoad, .monitorLoad), (.sortmapLoad, .sortmapLoad),
      (.priceLoad, .priceLoad), (.promoLoad, .promoLoad)] ∨
    f.kind = .query ∧
      c = [Instr.queryOrder, .queryBin, .queryPath, .queryMonitor, .queryRun, .queryTable, .queryCounters,
        .queryAlerts].getD (fieldOrZero f.payload 0 1 - 1) .queryOrder) := by
  rw [← queryCommand_eq]
  cases hk : f.kind <;> simp [InFrame.ownerCommand, hk, eq_comm]

theorem State.commandWaits_iff (k : InKind) (s : State) : s.commandWaits k = true ↔
    (k = .priceLoad ∨ k = .promoLoad) ∧ s.price.engine.isSome = true := by
  simp [State.commandWaits]

theorem State.readerAction_eq_some_iff (c : Instr) (s : State) : s.readerAction = some c ↔
    ∃ f, s.store.head? = some f ∧ ¬ s.frontWaits f.kind = true ∧ f.kind.readerCommand = some c := by
  unfold State.readerAction
  cases s.store with
  | nil => simp
  | cons f rest => simp

theorem State.commandAction_eq_some_iff (c : Instr) (s : State) : s.commandAction = some c ↔
    ∃ f, s.commands.head? = some f ∧ ¬ s.commandWaits f.kind = true ∧ f.ownerCommand = some c := by
  unfold State.commandAction
  cases s.commands with
  | nil => simp
  | cons f rest => simp

theorem State.atOnce_of_reader {c : Instr} {s : State} (acts : s.readerAction = some c) : s.atOnce = some c := by
  rw [State.atOnce, acts]

theorem State.atOnce_of_owner {c : Instr} {s : State} (reader : s.readerAction = none) (acts : s.commandAction = some c) :
    s.atOnce = some c := by rw [State.atOnce, reader, acts]

theorem State.atOnce_of_neither {s : State} (reader : s.readerAction = none) (owner : s.commandAction = none) :
    s.atOnce = s.transmitterAction := by rw [State.atOnce, reader, owner]

theorem Option.eq_none_of_forall_ne_some {α : Type} {o : Option α} (h : ∀ a, ¬ o = some a) : o = none := by
  cases o with
  | none => rfl
  | some a => exact absurd rfl (h a)

/-! ### The idle step -/

theorem step_of_empty {s : State} (empty : s.pending = []) : step s = .next s.idle := by rw [step, empty]

/-- Settles O2: the idle step posts the first timed event, else what is done at once, else it ticks. -/
theorem stepIdlesByItself : Obligations.StepIdlesByItself := by
  refine ⟨fun s empty => ⟨fun held => ?held, fun c out next => ?posts, fun out next => ?ticks⟩, fun pins s => ?timed, fun s => ?atOnce⟩
  case held => rw [step_of_empty empty, State.idle, if_pos held]
  case posts => rw [step_of_empty empty, State.idle, if_neg (by simp [out]), next]
  case ticks =>
    intro pins
    refine ⟨s.tickWith pins, ?_, ?_⟩
    · rw [step_of_empty empty, State.idle, if_neg (by simp [out]), next]
    obtain ⟨now, store, commands, orders, reader, path, exposure, cutter, monitor, price, outbound, queue, bins, causes, counters,
      outputs⟩ := State.tickWith_rest pins s
    have link := State.tickWith_link pins s
    rw [State.watchLine_link] at link
    refine ⟨now, store, commands, orders, reader, path, exposure, cutter, monitor, price, outbound, queue, bins, causes, counters,
      outputs, by rw [link]; rfl, by rw [link]; rfl, ?_, ?_⟩
    · rw [State.mem_pending_tickWith (.inl rfl), State.linkReset_posted]
      rfl
    · rw [State.mem_pending_tickWith (.inr rfl), State.lineReturnsToMarking_posted]
      rfl
  case timed =>
    intro stepTime conversionTime cutTime dwellTime lostTime pricedTime
    have events := State.dueEvents_eq pins s
    refine ⟨fun h1 => ?_, fun h1 h2 => ?_, fun h1 h2 h3 => ?_, fun h1 h2 h3 h4 => ?_, fun h1 h2 h3 h4 h5 => ?_,
      fun h1 h2 h3 h4 h5 h6 => ?_, fun h1 h2 h3 h4 h5 h6 => ?_⟩
    · rw [if_pos h1] at events
      exact State.nextCommand_cons events
    · rw [if_neg h1, if_pos h2] at events
      exact State.nextCommand_cons events
    · rw [if_neg h1, if_neg h2, if_pos h3] at events
      exact State.nextCommand_cons events
    · rw [if_neg h1, if_neg h2, if_neg h3, if_pos h4] at events
      exact State.nextCommand_cons events
    · rw [if_neg h1, if_neg h2, if_neg h3, if_neg h4, if_pos h5] at events
      exact State.nextCommand_cons events
    · rw [if_neg h1, if_neg h2, if_neg h3, if_neg h4, if_neg h5, if_pos h6] at events
      exact State.nextCommand_cons events
    · rw [if_neg h1, if_neg h2, if_neg h3, if_neg h4, if_neg h5, if_neg h6] at events
      exact State.nextCommand_nil events
  case atOnce =>
    intro readerCommand readerWaits ownerCommand ownerWaits readerActs ownerActs creditDue
    have reader (c : Instr) : readerActs c ↔ s.readerAction = some c := by
      rw [State.readerAction_eq_some_iff]
      simp only [State.frontWaits_iff, InKind.readerCommand_eq_some_iff]
      rfl
    have owner (c : Instr) : ownerActs c ↔ s.commandAction = some c := by
      rw [State.commandAction_eq_some_iff]
      simp only [State.commandWaits_iff, InFrame.ownerCommand_eq_some_iff]
      rfl
    simp only [reader, owner]
    refine ⟨fun c acts => State.atOnce_of_reader acts,
      fun idle c acts => State.atOnce_of_owner (Option.eq_none_of_forall_ne_some idle) acts, fun idle unowned => ?_⟩
    rw [State.atOnce_of_neither (Option.eq_none_of_forall_ne_some idle) (Option.eq_none_of_forall_ne_some unowned)]
    have due : s.creditDue = true ↔ creditDue := by simp [State.creditDue, creditDue]
    refine ⟨fun free credit => ?_, fun free credit waiting => ?_, fun free credit none => ?_, fun busy => ?_⟩
    · rw [State.transmitterAction, if_pos free, if_pos (due.mpr credit)]
    · rw [State.transmitterAction, if_pos free, if_neg (mt due.mp credit), if_neg (by simpa using waiting)]
    · rw [State.transmitterAction, if_pos free, if_neg (mt due.mp credit), if_pos (by simp [none])]
    · rw [State.transmitterAction, if_neg (by omega)]

end Sys2Proof.Machine
end

section
/-!
PROOFS. Frames leave the two fronts beside what their owners do: an operation that neither reads nor changes the stores and the returned
credit does the same whether a frame has left its front before or leaves it after.
-/

namespace Sys2Proof.Machine

/-- Other contents of the two stores, with another count of returned credit of each. -/
def State.withFronts (store commands : List InFrame) (stream command : Nat) (s : State) : State :=
  { s with
    store := store
    commands := commands
    link := { s.link with returnedStream := stream, returnedCommand := command } }

section
variable {store commands : List InFrame} {stream command : Nat} {s : State}

theorem State.removeImmediate_eq_withFronts {f : InFrame} {rest : List InFrame} (queued : s.commands = f :: rest) :
    s.removeImmediate = s.withFronts s.store rest s.link.returnedStream (s.link.returnedCommand + 1) :=
  State.removeImmediate_cons queued

theorem State.removeSequenced_eq_withFronts {f : InFrame} {rest : List InFrame} (stored : s.store = f :: rest) :
    s.removeSequenced = s.withFronts rest s.commands (s.link.returnedStream + 1) s.link.returnedCommand :=
  State.removeSequenced_cons stored

theorem State.queueFrame_withFronts (f : OutFrame) :
    (s.withFronts store commands stream command).queueFrame f = (s.queueFrame f).withFronts store commands stream command := by
  unfold State.queueFrame State.withFronts
  dsimp only
  split <;> rfl

theorem State.answer_withFronts (f : InFrame) (result : StatusResult) :
    (s.withFronts store commands stream command).answer f result = (s.answer f result).withFronts store commands stream command :=
  State.queueFrame_withFronts _

theorem State.report_withFronts (k : OutKind) (payload : List Byte) :
    (s.withFronts store commands stream command).report k payload =
      (s.report k payload).withFronts store commands stream command :=
  State.queueFrame_withFronts (s := { s with freeTags := s.freeTags + 1 }) _

theorem State.reportCause_withFronts (c : Cause) :
    (s.withFronts store commands stream command).reportCause c = (s.reportCause c).withFronts store commands stream command := by
  have same : (s.withFronts store commands stream command).cause c = s.cause c := rfl
  unfold State.reportCause
  rw [same]
  dsimp only
  split
  · exact State.report_withFronts (s := s.setCause c { s.cause c with reported := true }) ..
  · rfl

theorem State.raise_withFronts (c : Cause) :
    (s.withFronts store commands stream command).raise c = (s.raise c).withFronts store commands stream command :=
  State.reportCause_withFronts (s := s.setCause c _) c

theorem State.reportDiscard_withFronts (p : PrintRecord) (reason : RejectReason) :
    (s.withFronts store commands stream command).reportDiscard p reason =
      (s.reportDiscard p reason).withFronts store commands stream command := by
  unfold State.reportDiscard
  rw [State.report_withFronts]
  rfl

theorem State.discardStagedOf_withFronts (n : Nat) :
    (s.withFronts store commands stream command).discardStagedOf n =
      (s.discardStagedOf n).withFronts store commands stream command := by
  have same : (s.withFronts store commands stream command).reader.staged = s.reader.staged := rfl
  unfold State.discardStagedOf
  rw [same]
  split
  · rfl
  · rename_i p staged
    split
    · exact congrArg (State.updateOrder n Order.leaveFlight)
        (State.reportDiscard_withFronts (s := { s with reader := { s.reader with staged := none, mode := .discarding } }) p _)
    · rfl

theorem State.endIfDrained_withFronts (n : Nat) :
    (s.withFronts store commands stream command).endIfDrained n =
      (s.endIfDrained n).withFronts store commands stream command := by
  have same : (s.withFronts store commands stream command).findOrder n = s.findOrder n := rfl
  unfold State.endIfDrained
  rw [same]
  split
  · rfl
  · rename_i r _
    cases r.state.windingDown with
    | none => rfl
    | some fate =>
      dsimp only
      split
      · exact congrArg (State.freeOrder n) (State.report_withFronts (s := s) ..)
      · rfl

theorem State.windDown_withFronts (n : Nat) (next : OrderState) :
    (s.withFronts store commands stream command).windDown n next =
      (s.windDown n next).withFronts store commands stream command := by
  unfold State.windDown
  have discarded := State.discardStagedOf_withFronts (store := store) (commands := commands) (stream := stream)
    (command := command) (s := s.updateOrder n fun r => { r with state := next, remakes := [] }) n
  have ended := State.endIfDrained_withFronts (store := store) (commands := commands) (stream := stream)
    (command := command) (s := (((s.updateOrder n fun r => { r with state := next, remakes := [] }).discardStagedOf n).mapSegments
      (Segment.cancelOf n)).mapBins (Bin.retire n .held)) n
  rw [← ended]
  exact congrArg (fun u => State.endIfDrained n (State.mapBins (Bin.retire n .held) (State.mapSegments (Segment.cancelOf n) u))) discarded

end

end Sys2Proof.Machine
end

section
/-!
PROOFS. The accounts of an order (chapter 01): ORDER CLOSE and the completion test, the rejection of a print, the end of an order that is
wound down, and ORDER CANCEL.
-/

namespace Sys2Proof.Machine

/-! ### The record of an order -/

/-- The remake list without the first entry of an index. -/
theorem removeRemake_eq_eraseP (index : Nat) (l : List Remake) : removeRemake index l = l.eraseP fun e => e.index = index := by
  induction l with
  | nil => rfl
  | cons e l ih =>
    by_cases same : e.index = index
    · simp [removeRemake, same]
    · simp [removeRemake, same, ih]

theorem Order.remakeOf_isSome_iff (index : Nat) (r : Order) : (r.remakeOf index).isSome = true ↔ ∃ e ∈ r.remakes, e.index = index := by
  simp [Order.remakeOf]

/-- Settles O13: by the operations on an order record, field by field. -/
theorem orderLedgerBalances : Obligations.OrderLedgerBalances := by
  intro r h used p balanced before
  refine ⟨fun original => ?_, fun remake listed => ?_, fun entry flying => ?_, fun flying => ?_⟩
  · simp only [Order.acceptHeader, original, balanced, Bool.false_eq_true, if_false, and_self, and_true] at before ⊢
    omega
  · have length := length_removeRemake (index := h.index) ((Order.remakeOf_isSome_iff ..).mpr listed)
    refine ⟨?_, ?_, ?_, ?_, ?_, ?_⟩
    · simp only [Order.acceptHeader, remake, balanced, if_true] at before ⊢
      omega
    · simp [Order.acceptHeader, remake]
    · simp [Order.acceptHeader]
    · simp [Order.acceptHeader]
    · simpa [Order.acceptHeader, remake] using length
    · simpa [Order.acceptHeader, remake, removeRemake_eq_eraseP] using List.eraseP_sublist
  · simp only [Order.leaveFlight, balanced, List.length_append, List.length_singleton, true_and] at before ⊢
    omega
  · obtain ⟨-, inFlight, delivered, sent, remakes, -⟩ := Order.deliver_accounts p r
    simp only [balanced, inFlight, delivered, sent, remakes, true_and, and_true] at before ⊢
    omega

/-! ### The completion test -/

theorem State.engineTake_withStore (store : List InFrame) (link : LinkPort) (s : State) :
    State.engineTake { s with store := store, link := link } = { s.engineTake with store := store, link := link } := by
  cases engine : s.price.engine <;> cases queue : s.price.queue <;> simp [State.engineTake, engine, queue]

theorem State.completionTest_withStore (store : List InFrame) (link : LinkPort) (n : Nat) (s : State) :
    State.completionTest n { s with store := store, link := link } = { s.completionTest n with store := store, link := link } := by
  have found : State.findOrder n { s with store := store, link := link } = s.findOrder n := rfl
  have slot : State.slotOf n { s with store := store, link := link } = s.slotOf n := rfl
  unfold State.completionTest
  rw [found, slot]
  split
  · dsimp only
    split
    · exact State.engineTake_withStore store link { s.updateOrder n (fun r => { r with state := .pricing }) with
        price := { s.price with queue := s.price.queue ++ [_] } }
    · rfl
  · rfl

/-- The removal of the frame at the front and the completion test, in whichever order. -/
theorem State.removeSequenced_completionTest {f : InFrame} {rest : List InFrame} (n : Nat) {s : State} (stored : s.store = f :: rest) :
    (s.completionTest n).removeSequenced = s.removeSequenced.completionTest n := by
  rw [State.removeSequenced_cons stored, State.removeSequenced_cons (g := f) (rest := rest) (by simp [stored]),
    State.completionTest_withStore rest { s.link with returnedStream := s.link.returnedStream + 1 } n s]
  simp

theorem State.completionTest_stays {n slot : Nat} {r : Order} {s : State} (found : s.findOrder n = some r)
    (at_ : s.slotOf n = some slot) (incomplete : r.complete = false) : s.completionTest n = s := by
  simp [State.completionTest, found, at_, incomplete]

theorem State.completionTest_passes {n slot : Nat} {r : Order} {s : State} (found : s.findOrder n = some r)
    (at_ : s.slotOf n = some slot) (complete : r.complete = true) :
    s.completionTest n = State.engineTake { s.updateOrder n (fun r => { r with state := .pricing }) with
      price := { s.price with queue := s.price.queue ++ [slot] } } := by
  simp [State.completionTest, found, at_, complete]

theorem exec_orderClose_front {f : InFrame} {rest : List InFrame} {s : State} (front : StoreFront .orderClose f rest s)
    (reading : s.reader.mode = .reading) : exec .orderClose s = .next (s.takeOrderClose f) := by
  rw [exec_of_not_inReset rfl front.1, effect, State.onSequenced_reading front reading]

/-- Settles O12: by the branches of the completion test, and of `takeOrderClose` on the front frame. -/
theorem orderCloseMakesTheCompletionTest : Obligations.OrderCloseMakesTheCompletionTest := by
  refine ⟨fun f rest s front reading => ?close, fun n slot r s found at_ => ⟨fun incomplete => ?stays, fun closed expected drained remakes => ?passes⟩⟩
  case close =>
    rw [exec_orderClose_front front reading]
    obtain ⟨-, stored, -⟩ := front
    refine ⟨fun length => ?_, fun length none => ?_, fun r length found state => ?_, fun r length found state => ?_⟩
    · simp [State.takeOrderClose, length, State.removeSequenced_answer stored]
    · simp [State.takeOrderClose, length, none, State.removeSequenced_answer stored]
    · simp [State.takeOrderClose, length, found, state, State.removeSequenced_answer stored]
    · have queued : ((s.updateOrder r.number Order.close).answer f .accepted).store = f :: rest := by simp [stored]
      have answered := State.removeSequenced_answer (f := f) (s := s.updateOrder r.number Order.close) stored .accepted
      simp only [State.takeOrderClose, length, found, state, ne_eq, not_true_eq_false, if_false, if_true,
        State.removeSequenced_completionTest _ queued, answered]
      rfl
  case stays =>
    refine State.completionTest_stays found at_ ?_
    simp only [Order.complete, decide_eq_false_iff_not]
    tauto
  case passes =>
    have complete : r.complete = true := by simp [Order.complete, closed, expected, drained, remakes]
    rw [State.completionTest_passes found at_ complete]
    refine ⟨fun busy => ?_, fun idle empty => ⟨s.now + min 1000 (Config.pricingDelay s.now), by omega, by omega, ?_⟩⟩
    · obtain ⟨pricing, engine⟩ := Option.isSome_iff_exists.mp busy
      simp [State.engineTake, engine]
    · simp [State.engineTake, idle, empty]

/-! ### Rejection -/

/-- Settles O14: by the branches of `reject` for an order that is not wound down. -/
theorem rejectionAsksForARemake : Obligations.RejectionAsksForARemake := by
  intro n index attempt r s found live left
  have rejected : s.reject n index attempt =
      if attempt + 1 ≤ s.path.params.aMax ∧ r.remakes.length < 16 then
        State.report .remake (remakePayload n index (attempt + 1))
          (left.updateOrder n fun r => { r with remakes := r.remakes ++ [{ index := index, attempt := attempt + 1 }] })
      else (left.raise .orderFailed).windDown n .failing := by
    rcases live with state | state <;> simp only [State.reject, found, state] <;> rfl
  refine ⟨fun within room => ?_, fun beyond => ?_⟩
  · rw [rejected, if_pos ⟨within, room⟩]
    rfl
  · rw [rejected, if_neg (by omega)]

/-- The search for an order where the slots of a number have been freed. -/
theorem findSome?_freed (n m : Nat) (l : List (Option Order)) :
    (l.map fun o => if o.map Order.number = some n then none else o).findSome? (matchOrder m) =
      if m = n then none else l.findSome? (matchOrder m) := by
  induction l with
  | nil => simp
  | cons o l ih =>
    rw [List.map_cons, List.findSome?_cons, ih, List.findSome?_cons]
    cases o with
    | none => simp [matchOrder]
    | some r =>
      by_cases own : r.number = n
      · by_cases same : m = n
        · simp [own, same, matchOrder]
        · simp [own, same, matchOrder, Ne.symm same]
      · by_cases same : m = n
        · simp [own, same, matchOrder]
        · simp [own, same]

/-- The record of a bin where all have been changed. -/
theorem State.bin_map {n : Nat} {b : Bin} {f : Bin → Bin} {s t : State} (changed : t.sorter.bins = s.sorter.bins.map f)
    (held : s.bin n = some b) : t.bin n = some (f b) := by
  unfold State.bin at held ⊢
  split at held
  · cases held
  · rw [if_neg ‹_›, changed, List.getElem?_map, held]
    rfl

/-- Settles O15: the rejection takes the print out of flight, and the order ends if that leaves none. -/
theorem windingDownOrderEnds : Obligations.WindingDownOrderEnds := by
  intro n index attempt r fate s found winds left
  have fated : r.state.windingDown = some fate := by
    rcases winds with ⟨state, rfl⟩ | ⟨state, rfl⟩ <;> simp [state, OrderState.windingDown]
  have rejected : s.reject n index attempt = left.endIfDrained n := by
    rcases winds with ⟨state, -⟩ | ⟨state, -⟩ <;> simp only [State.reject, found, state] <;> rfl
  have foundLeft : left.findOrder n = some r.leaveFlight := by
    change (s.updateOrder n Order.leaveFlight).findOrder n = _
    rw [State.findOrder_updateOrder (f := Order.leaveFlight) (fun _ => rfl), found]
    rfl
  refine ⟨fun more => ?_, fun last => ?_⟩
  · rw [rejected]
    exact State.endIfDrained_stays foundLeft (.inr (by simp [Order.leaveFlight]; omega))
  · intro t done
    have ended := rejected.trans (State.endIfDrained_ends foundLeft fated (by simp [Order.leaveFlight]; omega))
    have bins : t.sorter.bins = s.sorter.bins.map fun b => if b.owner = some n then { b with ownerLive := false } else b := by
      rw [show t = _ from ended]
      simp [left]
    have search (m : Nat) : t.findOrder m = if m = n then none else left.findOrder m := by
      change t.orders.findSome? (matchOrder m) = if m = n then none else left.orders.findSome? (matchOrder m)
      rw [← findSome?_freed n m left.orders, show t = _ from ended]
    refine ⟨?_, ?_, by simp [search], fun other ne => ?_, fun k b held => ?_, ?_⟩
    · rw [show t = _ from ended]
      rfl
    · rw [show t = _ from ended]
      rfl
    · rw [search, if_neg ne]
      exact State.findOrder_updateOrder_of_ne (f := Order.leaveFlight) (fun _ => rfl) ne s
    · exact State.bin_map (f := fun b => if b.owner = some n then { b with ownerLive := false } else b) bins held
    · rw [show t = _ from ended]
      simp [left]

/-! ### ORDER CANCEL -/

theorem exec_orderCancel_front {f : InFrame} {rest : List InFrame} {s : State} (front : CommandFront .orderCancel f rest s) :
    exec .orderCancel s = .next (s.takeOrderCancel f) := by
  rw [exec_of_not_inReset rfl front.1, effect, State.onImmediate_front front]

/-- The removal of the frame at the front and the winding down of an order, in whichever order. -/
theorem State.removeImmediate_windDown {f : InFrame} {rest : List InFrame} (n : Nat) (next : OrderState) {s : State}
    (queued : s.commands = f :: rest) : (s.windDown n next).removeImmediate = s.removeImmediate.windDown n next := by
  rw [State.removeImmediate_eq_withFronts queued, State.windDown_withFronts,
    State.removeImmediate_eq_withFronts (f := f) (rest := rest) (by simp [queued])]
  simp

/-- What winding an order down leaves before its end is tested: its record in its next state with its remake list empty, its segments
flagged, its FILLING bins HELD; `flying` is what becomes of F. -/
def State.woundFrom (n : Nat) (next : OrderState) (s u : State) (flying : Nat → Nat) : State :=
  { u with
    orders := (s.orders.map fun o => o.map fun q =>
      if q.number = n then { q with state := next, remakes := [], inFlight := flying q.inFlight } else q)
    path := { s.path with queue := (s.path.queue.map fun g =>
      if (g.print.map PrintRecord.order) = some n then { g with flags := { g.flags with cancelled := true } } else g) }
    sorter := { s.sorter with bins := (s.sorter.bins.map fun b =>
      if b.owner = some n ∧ b.state = .filling then { b with state := .held } else b) } }

theorem Segment.cancelOf_eq (n : Nat) : Segment.cancelOf n = fun g : Segment =>
    if (g.print.map PrintRecord.order) = some n then { g with flags := { g.flags with cancelled := true } } else g := by
  funext g
  unfold Segment.cancelOf
  cases g.print <;> simp

/-- A report beside another content of the Order Table. -/
theorem State.report_withOrders (k : OutKind) (payload : List Byte) (s : State) (orders : List (Option Order)) :
    State.report k payload { s with orders := orders } = { s.report k payload with orders := orders } := by
  unfold State.report State.queueFrame
  dsimp only
  split <;> rfl

theorem State.windDown_eq_of_unstaged {n : Nat} {s : State} (next : OrderState)
    (unstaged : ∀ p, s.reader.staged = some p → p.order ≠ n) : s.windDown n next = (State.woundFrom n next s s id).endIfDrained n := by
  have kept : (s.updateOrder n fun r => { r with state := next, remakes := [] }).discardStagedOf n =
      s.updateOrder n fun r => { r with state := next, remakes := [] } := by
    unfold State.discardStagedOf
    split
    · rfl
    · exact if_neg (unstaged _ ‹_›)
  unfold State.windDown
  rw [kept, Segment.cancelOf_eq]
  rfl

theorem State.windDown_eq_of_staged {n : Nat} {p : PrintRecord} {s : State} (next : OrderState)
    (staged : s.reader.staged = some p) (own : p.order = n) : s.windDown n next =
      (State.woundFrom n next s
        (State.reportDiscard p .cancelled { s with reader := { s.reader with staged := none, mode := .discarding } })
        (· - 1)).endIfDrained n := by
  have told := State.report_withOrders .printFate (discardedPayload p .cancelled)
    { s with reader := { s.reader with staged := none, mode := .discarding } }
    (s.updateOrder n fun r => { r with state := next, remakes := [] }).orders
  have discarded : (s.updateOrder n fun r => { r with state := next, remakes := [] }).discardStagedOf n =
      { State.reportDiscard p .cancelled { s with reader := { s.reader with staged := none, mode := .discarding } } with
        orders := (State.woundFrom n next s s (· - 1)).orders } := by
    have same : (s.updateOrder n fun r => { r with state := next, remakes := [] }).reader.staged = some p := staged
    have orders : ((s.updateOrder n fun r => { r with state := next, remakes := [] }).updateOrder n Order.leaveFlight).orders =
        (State.woundFrom n next s s (· - 1)).orders := by
      simp only [State.updateOrder_orders, State.woundFrom, List.map_map]
      refine List.map_congr_left fun o _ => ?_
      cases o with
      | none => rfl
      | some r => by_cases e : r.number = n <;> simp [e, Order.leaveFlight]
    rw [← orders]
    unfold State.discardStagedOf
    simp only [same]
    rw [if_pos own]
    exact congrArg (fun u => (u.bump (.rejected .cancelled)).updateOrder n Order.leaveFlight) told
  have path (u : State) : (State.reportDiscard p .cancelled u).path = u.path := by simp
  have sorter (u : State) : (State.reportDiscard p .cancelled u).sorter = u.sorter := by simp
  unfold State.windDown
  rw [discarded, Segment.cancelOf_eq, State.woundFrom, State.mapBins, State.mapSegments]
  simp only [path, sorter]
  rfl

/-- Settles O16: winding an order down leaves its record, its segments and its bins (`State.woundFrom`), and then the order ends if
nothing of it is in flight. -/
theorem orderCancelByState : Obligations.OrderCancelByState := by
  refine ⟨fun f rest s front => ?cancel, fun n r next fate s found winds => ?winding⟩
  case cancel =>
    rw [exec_orderCancel_front front]
    obtain ⟨-, queued, -⟩ := front
    refine ⟨fun length => ?_, fun length none => ?_, fun r length found => ⟨fun state => ?_, fun state => ?_, fun state => ?_⟩⟩
    · simp [State.takeOrderCancel, length, State.removeImmediate_answer queued]
    · simp [State.takeOrderCancel, length, none, State.removeImmediate_answer queued]
    · simp [State.takeOrderCancel, length, found, state, State.removeImmediate_answer queued]
    · rcases state with state | state <;>
        simp [State.takeOrderCancel, length, found, state, State.removeImmediate_answer queued]
    · have wound := State.removeImmediate_windDown (f := f) (rest := rest) (s := s.answer f .accepted) r.number .cancelling
        (by simp [queued])
      rw [State.removeImmediate_answer queued] at wound
      rcases state with state | state <;> simp only [State.takeOrderCancel, length, found, state] <;>
        exact congrArg Host.Outcome.next wound
  case winding =>
    intro wound ended
    have fated : next.windingDown = some fate := by
      rcases winds with ⟨rfl, rfl⟩ | ⟨rfl, rfl⟩ <;> rfl
    have flown (u : State) (flying : Nat → Nat) : (State.woundFrom n next s u flying).findOrder n =
        some { r with state := next, remakes := [], inFlight := flying r.inFlight } := by
      have updated := State.findOrder_updateOrder (number := n)
        (f := fun q : Order => { q with state := next, remakes := [], inFlight := flying q.inFlight }) (fun _ => rfl) s
      rw [found] at updated
      exact updated
    have stays (u : State) (flying : Nat → Nat) (more : 0 < flying r.inFlight) :
        (State.woundFrom n next s u flying).endIfDrained n = State.woundFrom n next s u flying :=
      State.endIfDrained_stays (flown u flying) (.inr more)
    have ends (u : State) (flying : Nat → Nat) (none : flying r.inFlight = 0) (price : u.price = s.price) :
        (State.woundFrom n next s u flying).endIfDrained n = ended (State.woundFrom n next s u flying) := by
      rw [State.endIfDrained_ends (flown u flying) fated none]
      simp only [ended, ← price]
      rfl
    refine ⟨fun unstaged => ⟨fun more => ?_, fun none => ?_⟩, fun p staged own => ⟨fun more => ?_, fun last => ?_⟩⟩
    · rw [State.windDown_eq_of_unstaged next unstaged]
      exact stays s id more
    · rw [State.windDown_eq_of_unstaged next unstaged]
      exact ends s id none rfl
    · rw [State.windDown_eq_of_staged next staged own]
      exact stays _ (· - 1) (Nat.sub_pos_of_lt more)
    · rw [State.windDown_eq_of_staged next staged own]
      have price (u : State) : (State.reportDiscard p .cancelled u).price = u.price := by simp
      exact ends _ (· - 1) (Nat.sub_eq_zero_of_le last) (price _)

end Sys2Proof.Machine
end

section
/-!
PROOFS. The Store Reader at its front (chapter 03): a frame that ends the stream, the header check and its outcome, and LINE and PRINT END
in each mode.
-/

namespace Sys2Proof.Machine

/-! ### The end of a stream -/

/-- The end of the stream that is being fed, at a head segment that is written out. -/
theorem State.endStreamShort_of_queue {queue : List Segment} {g : Segment} {s : State} (head : s.path.queue = queue ++ [g]) :
    s.endStreamShort = { s with
      reader := { s.reader with mode := .reading, source := some .margin }
      path := { s.path with queue := (queue ++
        [{ g with
          flags := { g.flags with short := true }
          print := g.print.map fun p => { p with notes := { p.notes with short := true } } }]) } } := by
  simp [State.endStreamShort, State.noteHead, State.modifyHead, head]

theorem State.endStreamImplicit_of_queue {queue : List Segment} {g : Segment} {s : State} (head : s.path.queue = queue ++ [g]) :
    s.endStreamImplicit = { s with
      reader := { s.reader with mode := .reading, source := some .margin }
      path := { s.path with queue := (queue ++
        [{ g with
          flags := { g.flags with short := true }
          print := g.print.map fun p => { p with notes := { p.notes with missingEnd := true, short := true } } }]) } } := by
  have noted : (s.noteHead fun n => { n with missingEnd := true }).path.queue =
      queue ++ [{ g with print := g.print.map fun p => { p with notes := { p.notes with missingEnd := true } } }] := by
    simp [State.noteHead, State.modifyHead, head]
  rw [State.endStreamImplicit, State.endStreamShort_of_queue noted]
  simp [State.noteHead, State.modifyHead, Function.comp_def]

/-- The note on the print whose PRINT END is awaited. -/
theorem State.noteAwaited_of_key {key : PrintKey} {f : Notes → Notes} {s : State} (awaited : s.reader.awaited = some key) :
    s.noteAwaited f = { s with
      path := { s.path with queue := (s.path.queue.map fun g => { g with print := g.print.map fun p =>
        if p.key = key then { p with notes := f p.notes } else p }) }
      sorter := { s.sorter with queue := (s.sorter.queue.map fun e =>
        if e.print.key = key then { e with print := { e.print with notes := f e.print.notes } } else e) } } := by
  have belt : (fun e : SortEntry => { e with print := if e.print.key = key then { e.print with notes := f e.print.notes } else e.print }) =
      fun e => if e.print.key = key then { e with print := { e.print with notes := f e.print.notes } } else e := by
    funext e
    split <;> rfl
  unfold State.noteAwaited
  rw [awaited]
  simp only [belt]
  rfl

/-! ### Any frame but LINE and PRINT END -/

/-- Each command of the reader but those two acts, by its kind, on the front. -/
theorem exists_act_of_readerCommand {kind : InKind} {c : Instr} (command : kind.readerCommand = some c) (notLine : kind ≠ .line)
    (notEnd : kind ≠ .printEnd) :
    ∃ act, ∀ s : State, s.inReset = false → exec c s = .next (s.onSequenced kind act) := by
  cases kind
  case line => exact absurd rfl notLine
  case printEnd => exact absurd rfl notEnd
  case runStart | runEnd | runAbort | orderCancel | binRelease | alertClear | alertEnable | monitorLoad | sortmapLoad | priceLoad |
    promoLoad | query => cases command
  all_goals
    obtain rfl := Option.some.inj command
    exact ⟨_, fun s out => State.event_of_not_inReset out⟩

theorem State.onSequenced_front {kind : InKind} {act : InFrame → State → State} {f : InFrame} {rest : List InFrame} {s : State}
    (front : StoreFront kind f rest s) (mode : s.reader.mode ≠ .staged) : s.onSequenced kind act = act f s.toReading := by
  simp [State.onSequenced, front.2.1, front.2.2, mode]

/-- The frame is acted on as in READING, once the reader has turned to it. -/
theorem exec_eq_exec_toReading {kind : InKind} {c : Instr} {f : InFrame} {rest : List InFrame} {s u : State}
    (command : kind.readerCommand = some c) (notLine : kind ≠ .line) (notEnd : kind ≠ .printEnd) (front : StoreFront kind f rest s)
    (mode : s.reader.mode ≠ .staged) (turned : s.toReading = u) (same : StoreFront kind f rest u) (reading : u.reader.mode = .reading) :
    exec c s = exec c u := by
  obtain ⟨act, acts⟩ := exists_act_of_readerCommand command notLine notEnd
  rw [acts s front.1, acts u same.1, State.onSequenced_front front mode, State.onSequenced_reading same reading, turned]

/-- Settles O17: by the mode: the command for the front frame is that of the state that `toReading` leaves. -/
theorem otherFramesEndTheStream : Obligations.OtherFramesEndTheStream := by
  intro kind c f rest s command notLine notEnd front
  refine ⟨fun staged => ?_, fun discarding => ?_, fun g queue feeding head => ?_, fun key awaitingEnd awaited => ?_⟩
  · obtain ⟨act, acts⟩ := exists_act_of_readerCommand command notLine notEnd
    rw [acts s front.1, State.onSequenced_staged staged]
  · exact exec_eq_exec_toReading command notLine notEnd front (by simp [discarding]) (by simp [State.toReading, discarding]; rfl)
      front rfl
  · refine exec_eq_exec_toReading command notLine notEnd front (by simp [feeding]) ?_ front rfl
    rw [State.toReading, feeding]
    exact State.endStreamImplicit_of_queue head
  · refine exec_eq_exec_toReading command notLine notEnd front (by simp [awaitingEnd]) ?_ front rfl
    rw [State.toReading, awaitingEnd]
    exact congrArg State.enterReading (State.noteAwaited_of_key awaited)

/-! ### The header check -/

theorem headerFormed_iff (payload : List Byte) : headerFormed payload = true ↔ payload.length = 9 ∧ field payload 5 1 ≤ 1 := by
  have yesNo (n : Nat) : (yesNoOf n).isSome = true ↔ n ≤ 1 := by
    rcases n with _ | _ | n <;> simp [yesNoOf]
  unfold headerFormed
  simp only [Bool.and_eq_true, beq_iff_eq, yesNo]
  refine and_congr_right fun length => ?_
  rw [fieldOrZero_of_reaches (by omega)]

/-- Step 2 of the check decides, and what passes it is judged by the paper. -/
theorem State.refuseHeader_of_found {h : Header} {r : Order} {s : State} (found : s.findOrder h.order = some r) :
    s.refuseHeader h = (if h.remake then r.refuseRemake h.index else r.refuseOriginal h.index).or (s.refusePaper h.size) := by
  unfold State.refuseHeader
  rw [found]
  dsimp only
  cases (if h.remake then r.refuseRemake h.index else r.refuseOriginal h.index) <;> rfl

theorem State.refusePaper_eq (size : Nat) (s : State) : s.refusePaper size =
    match s.exposure.sizes[size]? with
    | none => some .noSize
    | some entry =>
      if entry.loaded = false then some .noSize
      else if s.exposure.paper.loaded = false ∨ s.exposure.paper.width ≠ entry.width then some .paperWidth
      else if s.usable s.exposure.paper.profile = false then some .noProfile
      else none := by
  unfold State.refusePaper
  cases s.exposure.sizes[size]? <;> simp

theorem exec_printHeader_front {f : InFrame} {rest : List InFrame} {s : State} (front : StoreFront .printHeader f rest s)
    (reading : s.reader.mode = .reading) : exec .printHeader s = .next (s.takePrintHeader f) := by
  rw [exec_of_not_inReset rfl front.1, effect, State.onSequenced_reading front reading]

/-- A refused header: the frame is gone, its fate is sent, it is counted, and the reader discards. -/
theorem State.refusePrint_eq {f : InFrame} {rest : List InFrame} {s : State} (stored : s.store = f :: rest) (h : Header)
    (reason : RefusalReason) : s.refusePrint h reason =
      State.report .printFate (bytesOf 1 0 ++ bytesOf 3 h.order ++ bytesOf 2 h.index ++ yesNo h.remake ++ bytesOf 1 reason.code)
        { s with
          store := rest
          link := { s.link with returnedStream := s.link.returnedStream + 1 }
          reader := { s.reader with mode := .discarding }
          alerts := { s.alerts with counters := s.alerts.counters.modify 12 fun n => if n < 4294967295 then n + 1 else n } } := by
  unfold State.refusePrint
  rw [State.removeSequenced_cons (g := f) (rest := rest) (by simp [stored])]
  unfold State.report State.queueFrame
  dsimp only
  split <;> rfl

/-- Settles O18: the five steps of the check one after another, and what `refusePrint` leaves. -/
theorem refusedHeaderIsReported : Obligations.RefusedHeaderIsReported := by
  refine ⟨fun h s => ⟨fun none => ?_, fun r found => ?steps⟩, fun f rest reason s front reading refused => ?reported⟩
  · simp [State.refuseHeader, none]
  case steps =>
    rw [State.refuseHeader_of_found found]
    refine ⟨fun original state => ?_, fun original state index => ?_, fun original state index last count => ?_, fun remake bad => ?_,
      fun passes => ?_⟩
    · simp [original, Order.refuseOriginal, state]
    · simp [original, Order.refuseOriginal, state, index]
    · simp [original, Order.refuseOriginal, state, index, count]
      omega
    · have refused : r.refuseRemake h.index = some .notPending := by
        refine if_neg fun passes => ?_
        obtain ⟨e, listed, same⟩ := (Order.remakeOf_isSome_iff ..).mp passes.2
        exact bad.elim (fun state => state passes.1) fun none => none e listed same
      simp [remake, refused]
    · have second : (if h.remake then r.refuseRemake h.index else r.refuseOriginal h.index) = none := by
        rcases passes with ⟨original, state, index, last, count⟩ | ⟨remake, state, listed⟩
        · simp [original, Order.refuseOriginal, state, index, count]
          omega
        · rw [if_pos remake]
          exact if_pos ⟨state, (Order.remakeOf_isSome_iff ..).mpr listed⟩
      rw [second, Option.none_or]
      exact State.refusePaper_eq ..
  case reported =>
    rw [exec_printHeader_front front reading, ← State.refusePrint_eq front.2.1]
    refine congrArg Host.Outcome.next ?_
    unfold State.takePrintHeader
    rcases refused with ⟨length, rfl⟩ | ⟨length, flag, rfl⟩ | ⟨length, flag, refused⟩
    · exact if_pos (mt (headerFormed_iff _).mp fun h => length h.1)
    · exact if_pos (mt (headerFormed_iff _).mp fun h => by omega)
    · dsimp only
      rw [if_neg (not_not_intro ((headerFormed_iff _).mpr ⟨length, flag⟩)), refused]

theorem Surface.ofHeader_eq (n : Nat) : Surface.ofHeader n = if n = 1 then .lustre else .glossy := by
  rcases n with _ | _ | n <;> simp [Surface.ofHeader, Surface.ofCode]

/-- The fields of a header of nine bytes. -/
def headerFields (payload : List Byte) : Header where
  order := field payload 0 3
  index := field payload 3 2
  remake := decide (field payload 5 1 = 1)
  size := field payload 6 1
  wanted := if field payload 7 1 = 1 then .lustre else .glossy
  charge := decide (field payload 8 1 ≠ 1)

theorem parseHeader_eq {payload : List Byte} (length : payload.length = 9) : parseHeader payload = headerFields payload := by
  have read (offset n : Nat) (within : offset + n ≤ 9) : fieldOrZero payload offset n = field payload offset n :=
    fieldOrZero_of_reaches (by omega)
  rw [parseHeader, read 0 3 (by omega), read 3 2 (by omega), read 5 1 (by omega), read 6 1 (by omega), read 7 1 (by omega),
    read 8 1 (by omega), Surface.ofHeader_eq]
  rfl

/-- What the acceptance of a header makes of an order record. -/
theorem acceptHeader_headerFields (payload : List Byte) (used : Surface) : Order.acceptHeader (headerFields payload) used =
    fun q : Order => { q with
      sent := if field payload 5 1 = 1 then q.sent else q.sent + 1
      inFlight := q.inFlight + 1
      remakes := if field payload 5 1 = 1 then q.remakes.eraseP (fun e => e.index = field payload 3 2) else q.remakes
      flags := { q.flags with substituted := q.flags.substituted || decide (used ≠ (headerFields payload).wanted) } } := by
  funext q
  simp [Order.acceptHeader, removeRemake_eq_eraseP, headerFields]

theorem attemptOf_headerFields (payload : List Byte) (r : Order) : r.attemptOf (headerFields payload) =
    if field payload 5 1 = 1 then ((r.remakes.find? fun e => e.index = field payload 3 2).map Remake.attempt).getD 1 else 1 := by
  simp [Order.attemptOf, Order.remakeOf, headerFields]

/-- Settles O19: by what `acceptPrint` writes into the reader and into the order. -/
theorem acceptedHeaderIsStaged : Obligations.AcceptedHeaderIsStaged := by
  intro f rest r entry s front reading length flag passes found size index wanted paper attempt
  have order : s.findOrder (headerFields f.payload).order = some r := found
  have loaded : s.exposure.sizes[(headerFields f.payload).size]? = some entry := size
  rw [exec_printHeader_front front reading]
  unfold State.takePrintHeader
  dsimp only
  rw [if_neg (not_not_intro ((headerFormed_iff _).mpr ⟨length, flag⟩)), passes, parseHeader_eq length]
  simp only [order, loaded]
  refine congrArg Host.Outcome.next ?_
  rw [State.acceptPrint, State.removeSequenced_cons (g := f) (rest := rest) (by simpa using front.2.1),
    acceptHeader_headerFields, attemptOf_headerFields]
  rfl

/-! ### LINE and PRINT END -/

/-- Settles O20: by the five modes of the reader, for each of the two kinds. -/
theorem lineAndPrintEndByMode : Obligations.LineAndPrintEndByMode := by
  refine ⟨fun f rest s front => ?line, fun f rest s front => ?printEnd⟩
  case line =>
    have acts : exec .line s = .next s.takeLine := exec_of_not_inReset rfl front.1
    intro removed
    obtain ⟨-, stored, kind⟩ := front
    have gone : s.removeSequenced = removed := State.removeSequenced_cons stored
    have taken : s.takeLine = match s.reader.mode with
        | .reading => s.takeOutOfPlace
        | .awaitingEnd => (s.noteAwaited fun n => { n with long := true }).removeSequenced
        | .discarding => s.removeSequenced
        | .staged | .feeding => s := by
      unfold State.takeLine
      rw [stored]
      exact if_pos kind
    rw [acts, taken]
    refine ⟨fun reading => ?_, fun discarding => ?_, fun key awaitingEnd awaited => ?_, fun waits => ?_⟩
    · rw [reading]
      exact congrArg (fun u => Host.Outcome.next (State.bump .outOfPlace u)) gone
    · rw [discarding]
      exact congrArg Host.Outcome.next gone
    · rw [awaitingEnd]
      dsimp only
      rw [State.noteAwaited_of_key awaited]
      exact congrArg Host.Outcome.next (State.removeSequenced_cons (by exact stored))
    · rcases waits with mode | mode <;> rw [mode]
  case printEnd =>
    have acts : exec .printEnd s = .next s.takePrintEnd := exec_of_not_inReset rfl front.1
    intro removed
    obtain ⟨-, stored, kind⟩ := front
    have gone : s.removeSequenced = removed := State.removeSequenced_cons stored
    have taken : s.takePrintEnd = match s.reader.mode with
        | .reading => s.takeOutOfPlace
        | .feeding => s.endStreamShort.removeSequenced
        | .awaitingEnd | .discarding => s.enterReading.removeSequenced
        | .staged => s := by
      unfold State.takePrintEnd
      rw [stored]
      exact if_pos kind
    rw [acts, taken]
    refine ⟨fun reading => ?_, fun g queue feeding head => ?_, fun leaves => ?_, fun staged => ?_⟩
    · rw [reading]
      exact congrArg (fun u => Host.Outcome.next (State.bump .outOfPlace u)) gone
    · rw [feeding]
      dsimp only
      rw [State.endStreamShort_of_queue head]
      exact congrArg Host.Outcome.next (State.removeSequenced_cons (by exact stored))
    · rcases leaves with mode | mode <;> rw [mode] <;>
        exact congrArg Host.Outcome.next (State.removeSequenced_cons (s := s.enterReading) stored)
    · rw [staged]

end Sys2Proof.Machine
end

section
/-!
PROOFS. The loads that replace a table, and RUN START and RUN END by the run state (sections 2.3, 3.1, 4.3, 5.6, 7.8 and 8.5).
-/

namespace Sys2Proof.Machine

/-! ### A command with its frame at the front -/

section
variable {kind : InKind} {act : InFrame → State → State} {c : Instr} {f : InFrame} {rest : List InFrame} {s : State}

theorem exec_store_front (front : StoreFront kind f rest s) (reading : s.reader.mode = .reading) (wellFormed : c.wellFormed = true)
    (acts : effect c s = s.onSequenced kind act) : exec c s = .next (act f s) := by
  rw [exec_of_not_inReset wellFormed front.1, acts, State.onSequenced_reading front reading]

theorem exec_command_front (front : CommandFront kind f rest s) (wellFormed : c.wellFormed = true)
    (acts : effect c s = s.onImmediate kind act) : exec c s = .next (act f s) := by
  rw [exec_of_not_inReset wellFormed front.1, acts, State.onImmediate_front front]

theorem State.unlessExposing_exposing (exposing : s.reader.source.isSome = true) : s.unlessExposing act f = s := if_pos exposing

theorem State.unlessExposing_dark (dark : s.reader.source = none) : s.unlessExposing act f = act f s :=
  if_neg (by simp [State.exposing, dark])

theorem State.whenEngineIdle_busy (busy : s.price.engine.isSome = true) : s.whenEngineIdle act f = s :=
  if_neg (by simpa [Option.isSome_iff_ne_none] using busy)

theorem State.whenEngineIdle_idle (idle : s.price.engine = none) : s.whenEngineIdle act f = act f s := if_pos (by simp [idle])

end

/-! ### The loads of the exposure tables -/

/-- A load of an exposure table: it waits while a print is exposing, and else its check refuses it or it replaces its table. -/
theorem exec_exposureLoad {α : Type} {kind : InKind} {act : InFrame → State → State} {c : Instr} {f : InFrame} {rest : List InFrame}
    {s : State} {parsed : Option α} {replaced : α → State} (front : StoreFront kind f rest s) (reading : s.reader.mode = .reading)
    (wellFormed : c.wellFormed = true) (acts : effect c s = s.onSequenced kind (State.unlessExposing act))
    (stays : ∀ a, (replaced a).store = s.store) (refused : parsed = none → act f s = (s.answer f .range).removeSequenced)
    (accepted : ∀ a, parsed = some a → act f s = ((replaced a).answer f .accepted).removeSequenced) :
    (s.reader.source.isSome = true → exec c s = .next s) ∧
      (s.reader.source = none → parsed = none → exec c s = .next (answeredStore f .range s)) ∧
      (∀ a, s.reader.source = none → parsed = some a → exec c s = .next (answeredStore f .accepted (replaced a))) := by
  rw [exec_store_front front reading wellFormed acts]
  obtain ⟨-, stored, -⟩ := front
  refine ⟨fun exposing => ?_, fun dark none => ?_, fun a dark some => ?_⟩
  · rw [State.unlessExposing_exposing exposing]
  · rw [State.unlessExposing_dark dark, refused none, State.removeSequenced_answer stored]
  · rw [State.unlessExposing_dark dark, accepted a some, State.removeSequenced_answer ((stays a).trans stored)]

theorem Surface.ofCode_eq_none_iff : ∀ n : Nat, Surface.ofCode n = none ↔ 1 < n
  | 0 | 1 => by decide
  | n + 2 => by simp [Surface.ofCode]

theorem Surface.ofCode_of_le {n : Nat} (known : n ≤ 1) : Surface.ofCode n = some (if n = 1 then .lustre else .glossy) := by
  interval_cases n <;> rfl

/-- PAPER LOAD by its check. -/
theorem State.takePaperLoad_refused {f : InFrame} {rest : List InFrame} {s : State} (stored : s.store = f :: rest)
    (idle : s.path.run = .idle) (bad : f.payload.length ≠ 7 ∨ field f.payload 0 2 ∉ widthCodes ∨ 1 < field f.payload 2 1 ∨
      3 < field f.payload 3 1 ∨ 4000000 < field f.payload 4 3) : s.takePaperLoad f = answeredStore f .range s := by
  rw [State.takePaperLoad, if_neg (not_not_intro idle), ← State.removeSequenced_answer stored]
  cases code : Surface.ofCode (field f.payload 2 1) with
  | none => rfl
  | some surface =>
    have known : ¬ 1 < field f.payload 2 1 := by simp [← Surface.ofCode_eq_none_iff, code]
    exact congrArg State.removeSequenced (if_neg fun good => by
      obtain ⟨length, width, profile, remaining⟩ := good
      rcases bad with h | h | h | h | h
      · exact h length
      · exact h width
      · exact known h
      · omega
      · omega)

/-- Settles O21: by the refusals and the replacement of each of the five loads. -/
theorem exposureLoadsReplaceTheirTables : Obligations.ExposureLoadsReplaceTheirTables := by
  refine ⟨fun f rest s front reading => ?paper, fun f rest s reading => ⟨fun front => ?profile, fun front => ?lut, fun front => ?thermal,
    fun front => ?size⟩⟩
  case paper =>
    intro width
    have acts : exec .paperLoad s = .next (s.takePaperLoad f) := exec_store_front front reading rfl rfl
    obtain ⟨-, stored, -⟩ := front
    rw [acts]
    refine ⟨fun moving => ?_, fun idle bad => ?_, fun idle length wide surface profile remaining => ?_⟩
    · rw [State.takePaperLoad, if_pos moving, State.removeSequenced_answer stored]
    · rw [State.takePaperLoad_refused stored idle bad]
    · rw [State.takePaperLoad, if_neg (not_not_intro idle), Surface.ofCode_of_le surface]
      dsimp only
      rw [if_pos ⟨length, wide, profile, remaining⟩]
      exact congrArg Host.Outcome.next (State.removeSequenced_answer (by exact stored) _)
  case profile =>
    obtain ⟨waits, refused, accepted⟩ := exec_exposureLoad (parsed := parseProfileLoad f.payload)
      (replaced := fun a : Nat × Profile => { s with exposure := { s.exposure with
      profiles := s.exposure.profiles.set a.1 a.2, profileGeneration := (s.exposure.profileGeneration + 1) % 65536 } })
      front reading (c := .profileLoad) rfl rfl (fun _ => rfl) (fun h => by rw [State.takeProfileLoad, h])
      (fun a h => by rw [State.takeProfileLoad, h]; rfl)
    exact ⟨waits, refused, fun slot profile => accepted (slot, profile)⟩
  case lut =>
    obtain ⟨waits, refused, accepted⟩ := exec_exposureLoad (parsed := parseLutLoad f.payload)
      (replaced := fun a : Nat × List Nat => { s with exposure := { s.exposure with
      luts := s.exposure.luts.set a.1 { loaded := true, entries := a.2 }, lutGeneration := (s.exposure.lutGeneration + 1) % 65536 } })
      front reading (c := .lutLoad) rfl rfl (fun _ => rfl) (fun h => by rw [State.takeLutLoad, h])
      (fun a h => by rw [State.takeLutLoad, h]; rfl)
    exact ⟨waits, refused, fun i entries => accepted (i, entries)⟩
  case thermal =>
    exact exec_exposureLoad (parsed := parseThermalLoad f.payload)
      (replaced := fun table => { s with exposure := { s.exposure with
      thermal := table, thermalGeneration := (s.exposure.thermalGeneration + 1) % 65536 } })
      front reading (c := .thermalLoad) rfl rfl (fun _ => rfl) (fun h => by rw [State.takeThermalLoad, h])
      (fun a h => by rw [State.takeThermalLoad, h]; rfl)
  case size =>
    obtain ⟨waits, refused, accepted⟩ := exec_exposureLoad (parsed := parseSizeLoad f.payload)
      (replaced := fun a : Nat × SizeEntry => { s with exposure := { s.exposure with
      sizes := s.exposure.sizes.set a.1 a.2, sizeGeneration := (s.exposure.sizeGeneration + 1) % 65536 } })
      front reading (c := .sizeLoad) rfl rfl (fun _ => rfl) (fun h => by rw [State.takeSizeLoad, h])
      (fun a h => by rw [State.takeSizeLoad, h]; rfl)
    exact ⟨waits, refused, fun i entry => accepted (i, entry)⟩

/-! ### RUN START and RUN END -/

theorem exec_runStart_front {f : InFrame} {rest : List InFrame} {s : State} (front : CommandFront .runStart f rest s)
    (empty : f.payload = []) :
    exec .runStart s = .next ((if s.judgeRunStart = .accepted then s.acceptRunStart else s).answer f s.judgeRunStart).removeImmediate := by
  rw [exec_command_front front rfl rfl, State.takeRunStart, if_neg (by simp [empty])]

/-- A refused RUN START. -/
theorem exec_runStart_refused {f : InFrame} {rest : List InFrame} {s : State} {result : StatusResult}
    (front : CommandFront .runStart f rest s) (empty : f.payload = []) (judged : s.judgeRunStart = result)
    (refused : result ≠ .accepted) : exec .runStart s = .next (answeredCommand f result s) := by
  rw [exec_runStart_front front empty, judged, if_neg refused, State.removeImmediate_answer front.2.1]

theorem exec_runStart_accepted {f : InFrame} {rest : List InFrame} {s : State} (front : CommandFront .runStart f rest s)
    (empty : f.payload = []) (judged : s.judgeRunStart = .accepted) :
    exec .runStart s = .next (answeredCommand f .accepted s.acceptRunStart) := by
  have queued : s.acceptRunStart.commands = f :: rest := by
    unfold State.acceptRunStart
    split <;> exact front.2.1
  rw [exec_runStart_front front empty, judged, if_pos rfl, State.removeImmediate_answer queued]

/-- The judgement of a RUN START at rest, its refusals in order. -/
theorem State.judgeRunStart_atRest {s : State} (atRest : s.path.run = .idle ∨ s.path.run = .halted) : s.judgeRunStart =
    if s.exposure.paper.loaded = false ∨ s.exposure.paper.remaining < s.path.params.lCut + 240 + s.path.params.wasteUnit then .noPaper
    else if s.alerts.estop.level = true ∨ s.alerts.jam.level = true then .blocked
    else if s.path.queue.length = 128 then .busy
    else .accepted := by
  unfold State.judgeRunStart
  rcases atRest with run | run <;> simp [run, State.paperReserve]

/-- Settles O25: by the run state, with the refusals in their order. -/
theorem runStartAndEndByState : Obligations.RunStartAndEndByState := by
  refine ⟨fun f rest s front => ?start, fun f rest s front => ?finish⟩
  case start =>
    intro short blocked full atRest
    refine ⟨fun payload => ?_, fun empty => ⟨fun rest_ none => ?_, fun rest_ paper stopped => ?_, fun rest_ paper free full => ?_,
      fun rest_ paper free room => ?_, fun draining cause => ?_, fun draining cause => ?_, fun moving => ?_⟩⟩
    · rw [exec_command_front front rfl rfl, State.takeRunStart, if_pos (by simpa using payload), State.removeImmediate_answer front.2.1]
    · exact exec_runStart_refused front empty (by rw [State.judgeRunStart_atRest rest_, if_pos none]) (by decide)
    · exact exec_runStart_refused front empty (by rw [State.judgeRunStart_atRest rest_, if_neg paper, if_pos stopped]) (by decide)
    · exact exec_runStart_refused front empty (by rw [State.judgeRunStart_atRest rest_, if_neg paper, if_neg free, if_pos full])
        (by decide)
    · rw [exec_runStart_accepted front empty (by rw [State.judgeRunStart_atRest rest_, if_neg paper, if_neg free, if_neg room])]
      rcases rest_ with run | run <;> rw [State.acceptRunStart, run] <;> rfl
    · rw [exec_runStart_accepted front empty (by simp [State.judgeRunStart, draining, cause]), State.acceptRunStart, draining]
    · exact exec_runStart_refused front empty (by simp [State.judgeRunStart, draining, cause]) (by decide)
    · exact exec_runStart_refused front empty (by rcases moving with run | run <;> simp [State.judgeRunStart, run]) (by decide)
  case finish =>
    have acts : exec .runEnd s = .next (s.takeRunEnd f) := exec_command_front front rfl rfl
    rw [acts]
    refine ⟨fun payload => ?_, fun empty => ⟨fun moving => ?_, fun stays => ?_, fun halted => ?_⟩⟩
    · rw [State.takeRunEnd, if_pos (by simpa using payload), State.removeImmediate_answer front.2.1]
    · rw [State.takeRunEnd, if_neg (by simp [empty])]
      rcases moving with run | run <;> rw [State.acceptRunEnd, run] <;>
        exact congrArg Host.Outcome.next (State.removeImmediate_answer (by exact front.2.1) _)
    · rw [State.takeRunEnd, if_neg (by simp [empty])]
      rcases stays with run | run <;> rw [State.acceptRunEnd, run] <;>
        exact congrArg Host.Outcome.next (State.removeImmediate_answer front.2.1 _)
    · rw [State.takeRunEnd, if_neg (by simp [empty]), State.acceptRunEnd, halted]
      exact congrArg Host.Outcome.next (State.removeImmediate_answer front.2.1 _)

/-! ### The loads of the other owners -/

/-- Settles O28: by the refusals and the replacement of each of the four loads. -/
theorem ownersLoadTheirTables : Obligations.OwnersLoadTheirTables := by
  refine ⟨fun f rest s => ⟨fun front => ?monitor, fun front => ?sortmap⟩, fun f rest s => ⟨fun front => ?price, fun front => ?promo⟩⟩
  case monitor =>
    have acts : exec .monitorLoad s = .next (s.takeMonitorLoad f) := exec_command_front front rfl rfl
    rw [acts, State.takeMonitorLoad]
    refine ⟨fun bad => ?_, fun l0 l1 l2 l3 c0 c1 c2 c3 parsed channels => ?_⟩
    · rw [bad, State.removeImmediate_answer front.2.1]
    · rw [parsed, channels]
      exact congrArg Host.Outcome.next (State.removeImmediate_answer (by exact front.2.1) _)
  case sortmap =>
    have acts : exec .sortmapLoad s = .next (s.takeSortmapLoad f) := exec_command_front front rfl rfl
    rw [acts, State.takeSortmapLoad]
    refine ⟨fun bad => ?_, fun windows capacity lamps parsed => ⟨fun crowded => ?_, fun within => ?_⟩⟩
    · rw [bad, State.removeImmediate_answer front.2.1]
    · rw [parsed]
      dsimp only
      rw [if_pos (by simpa using crowded), State.removeImmediate_answer front.2.1]
    · rw [parsed]
      dsimp only
      rw [if_neg (by simpa using within)]
      exact congrArg Host.Outcome.next (State.removeImmediate_answer (by exact front.2.1) _)
  case price =>
    have acts : exec .priceLoad s = .next (s.whenEngineIdle State.takePriceLoad f) := exec_command_front front rfl rfl
    rw [acts]
    refine ⟨fun busy => ?_, fun idle bad => ?_, fun rows surcharges idle parsed => ?_⟩
    · rw [State.whenEngineIdle_busy busy]
    · rw [State.whenEngineIdle_idle idle, State.takePriceLoad, bad, State.removeImmediate_answer front.2.1]
    · rw [State.whenEngineIdle_idle idle, State.takePriceLoad, parsed]
      exact congrArg Host.Outcome.next (State.removeImmediate_answer (by exact front.2.1) _)
  case promo =>
    have acts : exec .promoLoad s = .next (s.whenEngineIdle State.takePromoLoad f) := exec_command_front front rfl rfl
    rw [acts]
    refine ⟨fun busy => ?_, fun idle bad => ?_, fun records idle parsed => ?_⟩
    · rw [State.whenEngineIdle_busy busy]
    · rw [State.whenEngineIdle_idle idle, State.takePromoLoad, bad, State.removeImmediate_answer front.2.1]
    · rw [State.whenEngineIdle_idle idle, State.takePromoLoad, parsed]
      exact congrArg Host.Outcome.next (State.removeImmediate_answer (by exact front.2.1) _)

end Sys2Proof.Machine
end

section
/-!
PROOFS. RUNPARAM LOAD (sections 2.8 and 6.3): the parameters, the PURGE record, and the cut points that are formed afresh and scheduled.
-/

namespace Sys2Proof.Machine

/-! ### Scheduling the cut points that are reached -/

theorem State.scheduleReached_of_record (fuel : Nat) {s : State} (record : ∀ j, s.cutter.current ≠ some (.cutPoint j)) :
    s.scheduleReached fuel = s := by
  cases fuel with
  | zero => rfl
  | succ fuel =>
    unfold State.scheduleReached
    split
    · rfl
    · rfl
    · exact absurd ‹_› (record _)

theorem State.expectedAt_cutPoint {g : Segment} {s : State} (purge : s.purgeRecord = some g) (j : Nat) :
    s.expectedAt (.cutPoint j) =
      some (g.start + (j * s.path.params.wasteUnit : Nat) + s.path.params.lCut - s.path.params.dSensor + s.cutter.delta) := by
  simp [State.expectedAt, State.boundaryStart, purge]

theorem State.scheduleReached_ahead {j : Nat} {expected : Int} {s : State} (fuel : Nat) (watched : s.cutter.current = some (.cutPoint j))
    (at_ : s.expectedAt (.cutPoint j) = some expected) (ahead : s.path.position < expected) : s.scheduleReached fuel = s := by
  cases fuel with
  | zero => rfl
  | succ fuel =>
    unfold State.scheduleReached
    simp only [watched, at_]
    exact if_neg ahead.not_ge

theorem State.scheduleReached_reached {j : Nat} {expected : Int} {s : State} (fuel : Nat) (watched : s.cutter.current = some (.cutPoint j))
    (at_ : s.expectedAt (.cutPoint j) = some expected) (reached : expected ≤ s.path.position) :
    s.scheduleReached (fuel + 1) = (s.scheduleCutPoint j expected).scheduleReached fuel := by
  rw [State.scheduleReached]
  simp only [watched, at_]
  exact if_pos reached

theorem State.cutPointOr_inside {g : Segment} {j : Nat} {s : State} (purge : s.purgeRecord = some g)
    (inside : j * s.path.params.wasteUnit < g.length) : s.cutPointOr j = some (.cutPoint j) := by
  simp [State.cutPointOr, purge, inside]

theorem State.cutPointOr_beyond {g : Segment} {j : Nat} {s : State} (purge : s.purgeRecord = some g)
    (beyond : g.length ≤ j * s.path.params.wasteUnit) : s.cutPointOr j = firstStartAfter g.start s.path.queue := by
  simp [State.cutPointOr, purge, beyond.not_gt]

theorem firstStartAfter_ne_cutPoint (position : Int) (queue : List Segment) (j : Nat) :
    firstStartAfter position queue ≠ some (.cutPoint j) := by
  simp [firstStartAfter]

/-- With fuel for the cut points left, a cut point that is under watch afterwards lies ahead. -/
theorem State.scheduleReached_lies_ahead {g : Segment} {j : Nat} (fuel : Nat) : ∀ {k : Nat} {s : State}, 0 < s.path.params.wasteUnit →
    s.purgeRecord = some g → s.cutter.current = some (.cutPoint k) → g.length / s.path.params.wasteUnit + 1 ≤ k + fuel →
    (k * s.path.params.wasteUnit < g.length ∨ 1 ≤ fuel) → (s.scheduleReached fuel).cutter.current = some (.cutPoint j) →
    (s.path.position : Int) <
      g.start + (j * s.path.params.wasteUnit : Nat) + s.path.params.lCut - s.path.params.dSensor + s.cutter.delta := by
  induction fuel with
  | zero =>
    intro k s wide purge _ enough inside _
    have inside : k * s.path.params.wasteUnit < g.length := inside.resolve_right (by omega)
    have most : k ≤ g.length / s.path.params.wasteUnit := (Nat.le_div_iff_mul_le wide).mpr inside.le
    omega
  | succ fuel ih =>
    intro k s wide purge watched enough _ final
    have at_ := State.expectedAt_cutPoint purge k
    by_cases ahead : (s.path.position : Int) <
        g.start + (k * s.path.params.wasteUnit : Nat) + s.path.params.lCut - s.path.params.dSensor + s.cutter.delta
    · rw [State.scheduleReached_ahead _ watched at_ ahead, watched] at final
      obtain rfl : k = j := by simpa using final
      exact ahead
    · rw [State.scheduleReached_reached fuel watched at_ (not_lt.mp ahead)] at final
      by_cases inside : (k + 1) * s.path.params.wasteUnit < g.length
      · have left : g.length / s.path.params.wasteUnit + 1 ≤ k + 1 + fuel := by omega
        exact ih (s := s.scheduleCutPoint k _) wide purge (State.cutPointOr_inside purge inside) left (.inl inside) final
      · have beyond : (s.scheduleCutPoint k (g.start + (k * s.path.params.wasteUnit : Nat) + s.path.params.lCut -
            s.path.params.dSensor + s.cutter.delta)).cutter.current = firstStartAfter g.start s.path.queue :=
          State.cutPointOr_beyond purge (not_lt.mp inside)
        rw [State.scheduleReached_of_record fuel (by rw [beyond]; exact firstStartAfter_ne_cutPoint _ _), beyond] at final
        exact absurd final (firstStartAfter_ne_cutPoint _ _ _)

/-! ### The cut point that is formed afresh -/

/-- The least j of 1 or more whose cut position lies beyond a web position. -/
theorem least_beyond {before : Int} {wide : Nat} (positive : 0 < wide) :
    1 ≤ (max 1 (before / (wide : Int) + 1)).toNat ∧ before < ((max 1 (before / (wide : Int) + 1)).toNat * wide : Nat) ∧
      ∀ j : Nat, 1 ≤ j → j < (max 1 (before / (wide : Int) + 1)).toNat → ((j * wide : Nat) : Int) ≤ before := by
  have wide' : (0 : Int) < wide := by exact_mod_cast positive
  have quotient := Int.mul_ediv_add_emod before wide
  have remainder := Int.emod_lt_of_pos before wide'
  have cast : (((max 1 (before / (wide : Int) + 1)).toNat : Nat) : Int) = max 1 (before / (wide : Int) + 1) :=
    Int.toNat_of_nonneg (le_trans zero_le_one (le_max_left ..))
  refine ⟨by omega, ?_, fun j _ less => ?_⟩
  · push_cast
    rw [cast]
    calc before < (before / (wide : Int) + 1) * wide := by linarith
      _ ≤ max 1 (before / (wide : Int) + 1) * wide := by gcongr; exact le_max_right ..
  · have within : (j : Int) ≤ before / (wide : Int) := by omega
    push_cast
    exact (Int.le_ediv_iff_mul_le wide').mp within

/-! ### The load -/

theorem RunParams.valid_iff (p : RunParams) : p.valid = true ↔
    900 ≤ p.linePeriod ∧ p.linePeriod ≤ 20000 ∧ 12000 ≤ p.lCut ∧ p.lCut ≤ 60000 ∧ 60 ≤ p.dSensor ∧ p.dSensor ≤ 1200 ∧
      6 ≤ p.window ∧ p.window ≤ 120 ∧ 1200 ≤ p.zIn ∧ p.zIn < p.zOut ∧ p.zOut ≤ p.lCut - 1200 ∧ 600 ≤ p.wasteUnit ∧
      p.wasteUnit ≤ 2400 ∧ 600 ≤ p.rampLength ∧ p.rampLength ≤ 6000 ∧ 1 ≤ p.prefill ∧ p.prefill ≤ 40 ∧ 1 ≤ p.tDwell ∧
      p.tDwell ≤ 600 ∧ 10 ≤ p.tCut ∧ p.tCut ≤ 500 ∧ 500 ≤ p.tDel ∧ p.tDel ≤ 10000 ∧ 1 ≤ p.aMax ∧ p.aMax ≤ 7 := by
  simp only [RunParams.valid, decide_eq_true_eq]
  omega

/-- Settles O22: the load itself, then the cut points: the least one beyond the last, and fuel enough to pass those reached. -/
theorem runparamLoadReplacesTheParameters : Obligations.RunparamLoadReplacesTheParameters := by
  refine ⟨fun f rest s front reading => ?load, fun fuel s => ⟨fun record => State.scheduleReached_of_record fuel record,
    fun j g watched purge => ?schedule, fun j g wide purge final => ?fuelled⟩, fun s g purge wide => ?resume⟩
  case load =>
    have acts : exec .runparamLoad s = .next (s.takeRunparamLoad f) := exec_store_front front reading rfl rfl
    obtain ⟨-, stored, -⟩ := front
    intro p inRange
    have valid : p.valid = true ↔ inRange := RunParams.valid_iff p
    rw [acts, State.takeRunparamLoad]
    refine ⟨fun moving => ?_, fun idle bad => ?_, fun idle length good => ?_⟩
    · rw [if_pos moving, State.removeSequenced_answer stored]
    · rw [if_neg (not_not_intro idle), if_neg fun good => bad.elim (fun length => length good.1) fun out => out (valid.mp good.2), State.removeSequenced_answer stored]
    · intro loaded
      rw [if_neg (not_not_intro idle), if_pos ⟨length, valid.mpr good⟩]
      have answered : ((s.applyRunParams p).answer f .accepted).removeSequenced = answeredStore f .accepted (s.applyRunParams p) :=
        State.removeSequenced_answer (g := f) (rest := rest) (by simpa [State.applyRunParams] using stored) _
      have applied : s.applyRunParams p = loaded.reformCutPoints := rfl
      rw [answered, applied, State.reformCutPoints]
      refine ⟨fun record => ?_, fun j watched => ?_⟩
      · split
        · exact absurd ‹_› (record _)
        · rfl
        · rfl
      · have same : loaded.cutter.current = some (.cutPoint j) := watched
        rw [same]
        rfl
  case schedule =>
    intro cutAt scheduled
    have at_ : s.expectedAt (.cutPoint j) = some (cutAt - s.path.params.dSensor) := by
      rw [State.expectedAt_cutPoint purge]
      exact congrArg some (by simp only [cutAt]; ring)
    refine ⟨fun ahead => State.scheduleReached_ahead fuel watched at_ ahead, fun reached => ?_⟩
    have same : s.scheduleCutPoint j (cutAt - s.path.params.dSensor) = scheduled := by
      rw [State.scheduleCutPoint, Int.sub_add_cancel]
      rfl
    rw [State.scheduleReached_reached fuel watched at_ reached, same]
  case fuelled =>
    cases watched : s.cutter.current with
    | none =>
      rw [State.scheduleReached_of_record _ (by simp [watched]), watched] at final
      cases final
    | some b =>
      cases b with
      | record start =>
        rw [State.scheduleReached_of_record _ (by simp [watched]), watched] at final
        cases final
      | cutPoint k =>
        have fuel : s.boundaryFuel = s.path.queue.length + 1 + (g.length / s.path.params.wasteUnit + 1) := by
          simp [State.boundaryFuel, purge, Nat.max_eq_right wide]
        have enough : g.length / s.path.params.wasteUnit + 1 ≤ k + s.boundaryFuel ∧ 1 ≤ s.boundaryFuel := by
          rw [fuel]
          generalize g.length / s.path.params.wasteUnit = q
          omega
        exact State.scheduleReached_lies_ahead _ wide purge watched enough.1 (.inr enough.2) final
  case resume =>
    intro cutAt
    refine ⟨fun fresh => by simp [State.resumeIndex, fresh], fun last scheduled => ?_, fun j inside => State.cutPointOr_inside purge inside,
      fun j beyond => State.cutPointOr_beyond purge beyond⟩
    obtain ⟨atLeast, beyond, others⟩ :=
      least_beyond (before := last - g.start - s.path.params.lCut - s.cutter.delta) wide
    have index : s.resumeIndex = (max 1 ((last - g.start - s.path.params.lCut - s.cutter.delta) /
        (s.path.params.wasteUnit : Int) + 1)).toNat := by
      simp only [State.resumeIndex, scheduled, purge]
    rw [index]
    refine ⟨atLeast, ?_, fun j one less => ?_⟩
    · simp only [cutAt]
      linarith
    · have := others j one less
      simp only [cutAt]
      linarith

end Sys2Proof.Machine
end

section
/-!
PROOFS. A payload as the bytes of the fields of a table, one after another (sections 11.1 and 11.2). An equation between a payload
and the bytes of a table is read from the left: each field that stands at the front of the rest takes its bytes off.
-/

namespace Sys2Proof.Machine

/-! ### A field that stands at the front of the rest of a payload -/

theorem numberOf_append (first second : List Byte) :
    numberOf (first ++ second) = numberOf first * 256 ^ second.length + numberOf second := by
  induction second using List.reverseRecOn with
  | nil => simp [numberOf]
  | append_singleton bytes b ih =>
    simp only [numberOf] at ih ⊢
    rw [← List.append_assoc, List.foldl_concat, List.foldl_concat, ih, List.length_append, List.length_singleton, pow_succ]
    ring

theorem numberOf_lt (bytes : List Byte) : numberOf bytes < 256 ^ bytes.length := by
  induction bytes using List.reverseRecOn with
  | nil => simp [numberOf]
  | append_singleton bytes b ih =>
    have byte := b.isLt
    simp only [numberOf] at ih ⊢
    rw [List.foldl_concat, List.length_append, List.length_singleton, pow_succ]
    omega

/-- The bytes of a number show its residue. -/
theorem bytesOf_mod (n v : Nat) : bytesOf n (v % 256 ^ n) = bytesOf n v := by
  induction n generalizing v with
  | zero => rfl
  | succ n ih =>
    have high : BitVec.ofNat 8 (v % 256 ^ (n + 1) / 256 ^ n) = BitVec.ofNat 8 (v / 256 ^ n) := by
      rw [pow_succ, Nat.mod_mul_right_div_self]
      exact BitVec.eq_of_toNat_eq (by simp)
    rw [bytesOf, bytesOf, high, ← ih, Nat.mod_mod_of_dvd v (pow_dvd_pow 256 (Nat.le_succ n)), ih]

theorem bytesOf_numberOf (bytes : List Byte) : bytesOf bytes.length (numberOf bytes) = bytes := by
  induction bytes with
  | nil => rfl
  | cons b bytes ih =>
    have rest := numberOf_lt bytes
    have whole : numberOf (b :: bytes) = b.toNat * 256 ^ bytes.length + numberOf bytes := by
      rw [← List.singleton_append, numberOf_append]
      simp [numberOf]
    have high : numberOf (b :: bytes) / 256 ^ bytes.length = b.toNat := by
      rw [whole, Nat.mul_comm, Nat.mul_add_div (by positivity), Nat.div_eq_of_lt rest, Nat.add_zero]
    have low : bytesOf bytes.length (numberOf (b :: bytes)) = bytesOf bytes.length (numberOf bytes) := by
      rw [whole]
      rw [← bytesOf_mod, Nat.mul_comm, Nat.mul_add_mod, bytesOf_mod]
    rw [List.length_cons, bytesOf, high, low, ih, BitVec.ofNat_toNat, BitVec.setWidth_eq]


/-- A payload's bytes from an offset on are some bytes and a rest: those bytes stand there, and the rest behind them. -/
theorem drop_eq_append_iff {payload bytes rest : List Byte} {offset n : Nat} (length : bytes.length = n) :
    payload.drop offset = bytes ++ rest ↔
      payload.drop offset = bytes ++ payload.drop (offset + n) ∧ payload.drop (offset + n) = rest := by
  subst length
  constructor
  · intro whole
    have behind : payload.drop (offset + bytes.length) = rest := by rw [← List.drop_drop, whole, List.drop_left]
    exact ⟨by rw [behind, whole], behind⟩
  · rintro ⟨here, rfl⟩
    exact here

/-- A number stands at an offset: the payload reaches so far, and the field there is the number's residue. -/
theorem drop_eq_bytesOf_iff {payload : List Byte} {offset n v : Nat} (positive : 0 < n) :
    payload.drop offset = bytesOf n v ++ payload.drop (offset + n) ↔
      offset + n ≤ payload.length ∧ field payload offset n = v % 256 ^ n := by
  have split : payload.drop offset = (payload.drop offset).take n ++ payload.drop (offset + n) := by
    rw [← List.drop_drop, List.take_append_drop]
  constructor
  · intro whole
    have length := congrArg List.length whole
    simp only [List.length_drop, List.length_append, length_bytesOf] at length
    refine ⟨by omega, ?_⟩
    rw [field, whole, ← bytesOf_mod, List.take_left' (length_bytesOf _ _)]
    exact numberOf_bytesOf (Nat.mod_lt _ (by positivity))
  · rintro ⟨reaches, value⟩
    have here : ((payload.drop offset).take n).length = n := by
      rw [List.length_take, List.length_drop]
      omega
    have bytes := bytesOf_numberOf ((payload.drop offset).take n)
    rw [here] at bytes
    rw [← bytesOf_mod, ← value, field, bytes, ← split]

theorem drop_eq_bytesOf_append {payload rest : List Byte} {offset n v : Nat} (positive : 0 < n) :
    payload.drop offset = bytesOf n v ++ rest ↔
      (offset + n ≤ payload.length ∧ field payload offset n = v % 256 ^ n) ∧ payload.drop (offset + n) = rest := by
  rw [drop_eq_append_iff (length_bytesOf n v), drop_eq_bytesOf_iff positive]

theorem field_lt (payload : List Byte) (offset n : Nat) : field payload offset n < 256 ^ n :=
  (numberOf_lt _).trans_le (Nat.pow_le_pow_right (by omega) (List.length_take_le _ _))

theorem yesNo_eq_bytesOf (b : Bool) : yesNo b = bytesOf 1 b.toNat := by cases b <;> rfl

theorem yesNoOf_eq_some_iff {n : Nat} {b : Bool} : yesNoOf n = some b ↔ n = b.toNat := by
  match n with
  | 0 | 1 => cases b <;> decide
  | n + 2 => cases b <;> simp [yesNoOf]

theorem drop_eq_yesNo_append {payload rest : List Byte} {offset : Nat} {b : Bool} :
    payload.drop offset = yesNo b ++ rest ↔
      (offset + 1 ≤ payload.length ∧ yesNoOf (field payload offset 1) = some b) ∧ payload.drop (offset + 1) = rest := by
  rw [yesNo_eq_bytesOf, drop_eq_bytesOf_append one_pos, yesNoOf_eq_some_iff, pow_one,
    Nat.mod_eq_of_lt (lt_of_lt_of_le b.toNat_lt (by omega))]

/-- A number that may be below 0 stands at an offset. -/
theorem drop_eq_bytesOfInt_append {payload rest : List Byte} {offset : Nat} {v : Int} (low : -32768 ≤ v) (high : v < 32768) :
    payload.drop offset = bytesOfInt 2 v ++ rest ↔
      (offset + 2 ≤ payload.length ∧ fieldInt payload offset 2 = v) ∧ payload.drop (offset + 2) = rest := by
  have bounded := field_lt payload offset 2
  have value : field payload offset 2 = (v % (256 ^ 2 : Nat)).toNat % 256 ^ 2 ↔ fieldInt payload offset 2 = v := by
    unfold fieldInt
    norm_num at bounded ⊢
    split <;> omega
  rw [bytesOfInt, drop_eq_bytesOf_append two_pos, value]

/-- Records of one length stand one after another. -/
theorem drop_eq_flatMap_append {α : Type} {bytes : α → List Byte} {n : Nat} {payload rest : List Byte} {offset : Nat} {l : List α}
    (length : ∀ a ∈ l, (bytes a).length = n) :
    payload.drop offset = l.flatMap bytes ++ rest ↔
      (∀ i (h : i < l.length), payload.drop (offset + n * i) = bytes l[i] ++ payload.drop (offset + n * i + n)) ∧
        payload.drop (offset + n * l.length) = rest := by
  induction l generalizing offset with
  | nil => simp
  | cons a l ih =>
    obtain ⟨first, others⟩ := List.forall_mem_cons.mp length
    have from_next : ∀ i, offset + n + n * i = offset + n * (i + 1) := fun i => by ring
    rw [List.flatMap_cons, List.append_assoc, drop_eq_append_iff first, ih others, ← and_assoc]
    simp only [from_next, List.length_cons]
    refine and_congr_left' ⟨fun ⟨here, behind⟩ i inside => ?_, fun all => ⟨by simpa using all 0 (by simp), fun i inside => ?_⟩⟩
    · cases i with
      | zero => simpa using here
      | succ i => simpa using behind i (by simpa using inside)
    · exact all (i + 1) (Nat.succ_lt_succ inside)

theorem mapM_eq_some_iff {α β : Type} {read : α → Option β} {places : List α} {l : List β} :
    places.mapM read = some l ↔ places.map read = l.map some := by
  induction places generalizing l with
  | nil => cases l <;> simp
  | cons place places ih =>
    rw [List.mapM_cons]
    cases l <;> simp [Option.bind_eq_some_iff, ih]

/-- Reading `count` records at their places: each of them is read. -/
theorem mapM_range_eq_some {α : Type} {read : Nat → Option α} {count : Nat} {l : List α} :
    (List.range count).mapM read = some l ↔ l.length = count ∧ ∀ i (h : i < l.length), read i = some l[i] := by
  rw [mapM_eq_some_iff]
  constructor
  · intro all
    have length : l.length = count := by simpa using (congrArg List.length all).symm
    refine ⟨length, fun i h => ?_⟩
    have here := List.getElem_of_eq all (i := i) (by simpa [length] using h)
    simpa using here
  · rintro ⟨rfl, all⟩
    refine List.ext_getElem (by simp) fun i inside _ => ?_
    simpa using all i (by simpa using inside)

end Sys2Proof.Machine
end

section
/-!
PROOFS. The loads of the print stream and the SORTMAP LOAD read back the bytes of their tables (sections 2.8, 4.3 and 7.8).
-/

namespace Sys2Proof.Machine

theorem parseProfileLoad_eq_some_iff {payload : List Byte} {slot : Nat} {p : Profile} :
    parseProfileLoad payload = some (slot, p) ↔
      slot ≤ 3 ∧ p.loaded = true ∧ (∀ gain ∈ [p.gain.r, p.gain.g, p.gain.b], 2048 ≤ gain ∧ gain ≤ 8191) ∧ p.floorPulse ≤ 31 ∧
        p.duty ≤ 3 ∧ p.margin ≤ 255 ∧ payload = bytesOf 1 slot ++ p.bytes.tail := by
  have margin := field_lt payload 9 1
  obtain ⟨loaded, ⟨r, g, b⟩, floorPulse, duty, m⟩ := p
  have whole : payload = bytesOf 1 slot ++ (Profile.bytes ⟨loaded, ⟨r, g, b⟩, floorPulse, duty, m⟩).tail ↔
      payload.drop 0 = bytesOf 1 slot ++ (bytesOf 2 r ++ (bytesOf 2 g ++ (bytesOf 2 b ++ (bytesOf 1 floorPulse ++
        (bytesOf 1 duty ++ (bytesOf 1 m ++ [])))))) := by
    simp [Profile.bytes, Rgb.bytes, yesNo]
  rw [whole]
  repeat rw [drop_eq_bytesOf_append (by decide)]
  simp only [parseProfileLoad, Option.ite_none_right_eq_some, Option.some.injEq, Prod.mk.injEq, Profile.mk.injEq, Rgb.mk.injEq,
    List.forall_mem_cons, List.drop_eq_nil_iff]
  norm_num at margin ⊢
  constructor
  · rintro ⟨h, rfl, rfl, ⟨rfl, rfl, rfl⟩, rfl, rfl, rfl⟩
    simp
    omega
  · rintro ⟨h, rfl, h2⟩
    simp
    omega

theorem parseSizeLoad_eq_some_iff {payload : List Byte} {code : Nat} {e : SizeEntry} :
    parseSizeLoad payload = some (code, e) ↔
      code ≤ 15 ∧ e.loaded = true ∧ e.width ∈ widthCodes ∧ 900 ≤ e.length ∧ e.length ≤ 6000 ∧
        e.group ≤ 3 ∧ payload = bytesOf 1 code ++ e.bytes.tail := by
  obtain ⟨loaded, width, length, group⟩ := e
  have whole : payload = bytesOf 1 code ++ (SizeEntry.bytes ⟨loaded, width, length, group⟩).tail ↔
      payload.drop 0 = bytesOf 1 code ++ (bytesOf 2 width ++ (bytesOf 2 length ++ (bytesOf 1 group ++ []))) := by
    simp [SizeEntry.bytes, yesNo]
  have narrow : width ∈ widthCodes → width < 65536 := fun wide => by
    have all : ∀ w ∈ widthCodes, w < 65536 := by decide
    exact all width wide
  rw [whole]
  repeat rw [drop_eq_bytesOf_append (by decide)]
  simp only [parseSizeLoad, Option.ite_none_right_eq_some, Option.some.injEq, Prod.mk.injEq, SizeEntry.mk.injEq,
    List.drop_eq_nil_iff]
  norm_num
  constructor
  · rintro ⟨⟨h, code, wide, h2⟩, rfl, rfl, rfl, rfl, rfl⟩
    exact ⟨by omega, rfl, wide, by omega, by omega, by omega, by have := narrow wide; omega⟩
  · rintro ⟨h, rfl, wide, h2⟩
    have := narrow wide
    have value : field payload 1 2 = width := by omega
    exact ⟨⟨by omega, by omega, value ▸ wide, by omega⟩, by omega, rfl, by omega⟩

/-! ### Numbers of a table, one after another -/

theorem length_numbersOf (payload : List Byte) (offset n count : Nat) : (numbersOf payload offset n count).length = count := by
  simp [numbersOf]

theorem numbersOf_eq_iff {payload : List Byte} {offset n : Nat} {l : List Nat} :
    numbersOf payload offset n l.length = l ↔ ∀ i (h : i < l.length), field payload (offset + n * i) n = l[i] := by
  constructor
  · intro same i h
    have here := List.getElem_of_eq same (i := i) (by simpa [numbersOf] using h)
    simpa [numbersOf] using here
  · intro same
    exact List.ext_getElem (length_numbersOf _ _ _ _) fun i _ h => by simpa [numbersOf] using same i h

theorem getD_numbersOf {payload : List Byte} {offset n count i : Nat} (inside : i < count) (d : Nat) :
    (numbersOf payload offset n count).getD i d = field payload (offset + n * i) n := by
  simp [numbersOf, List.getD_eq_getElem?_getD, inside]

theorem forall_mem_numbersOf {payload : List Byte} {offset n count : Nat} {P : Nat → Prop} :
    (∀ v ∈ numbersOf payload offset n count, P v) ↔ ∀ i < count, P (field payload (offset + n * i) n) := by
  simp [numbersOf]

theorem drop_eq_numbers_append {payload rest : List Byte} {offset n : Nat} {l : List Nat} (positive : 0 < n)
    (reaches : offset ≤ payload.length) (inRange : ∀ v ∈ l, v < 256 ^ n) :
    payload.drop offset = l.flatMap (bytesOf n) ++ rest ↔
      (offset + n * l.length ≤ payload.length ∧ numbersOf payload offset n l.length = l) ∧
        payload.drop (offset + n * l.length) = rest := by
  rw [drop_eq_flatMap_append fun v _ => length_bytesOf n v, numbersOf_eq_iff]
  refine and_congr_left' ?_
  simp only [drop_eq_bytesOf_iff positive]
  constructor
  · intro all
    refine ⟨?_, fun i h => (all i h).2.trans (Nat.mod_eq_of_lt (inRange _ (List.getElem_mem h)))⟩
    cases l with
    | nil => simpa using reaches
    | cons v l =>
      have last := (all l.length (by simp)).1
      rw [List.length_cons, Nat.mul_succ]
      omega
  · rintro ⟨all, values⟩ i h
    have inside : n * i + n ≤ n * l.length := by
      rw [← Nat.mul_succ]
      exact Nat.mul_le_mul_left n h
    exact ⟨by omega, (values i h).trans (Nat.mod_eq_of_lt (inRange _ (List.getElem_mem h))).symm⟩

theorem parseLutLoad_eq_some_iff {payload : List Byte} {i : Nat} {entries : List Nat} :
    parseLutLoad payload = some (i, entries) ↔
      entries.length = 256 ∧ (∀ e ∈ entries, e ≤ 4095) ∧
        ∃ slot colour, slot ≤ 3 ∧ colour ≤ 2 ∧ i = 3 * slot + colour ∧
          payload = bytesOf 1 slot ++ bytesOf 1 colour ++ (Lut.bytes { loaded := true, entries := entries }).tail := by
  have whole : ∀ slot colour, payload = bytesOf 1 slot ++ bytesOf 1 colour ++ (Lut.bytes { loaded := true, entries := entries }).tail ↔
      payload.drop 0 = bytesOf 1 slot ++ (bytesOf 1 colour ++ (entries.flatMap (bytesOf 2) ++ [])) := by
    simp [Lut.bytes, yesNo]
  simp only [whole, parseLutLoad, Option.ite_none_right_eq_some, Option.some.injEq, Prod.mk.injEq, List.all_eq_true, decide_eq_true_eq]
  constructor
  · rintro ⟨⟨length, slot, colour, low⟩, rfl, rfl⟩
    have count := length_numbersOf payload 2 2 256
    refine ⟨count, low, field payload 0 1, field payload 1 1, slot, colour, rfl, ?_⟩
    rw [drop_eq_bytesOf_append one_pos, drop_eq_bytesOf_append one_pos,
      drop_eq_numbers_append two_pos (by omega) fun v h => (low v h).trans_lt (by decide), count, List.drop_eq_nil_iff]
    norm_num
    omega
  · rintro ⟨count, low, slot, colour, slotLow, colourLow, rfl, payloadEq⟩
    rw [drop_eq_bytesOf_append one_pos, drop_eq_bytesOf_append one_pos] at payloadEq
    obtain ⟨⟨-, slotField⟩, ⟨reaches, colourField⟩, numbers⟩ := payloadEq
    rw [drop_eq_numbers_append two_pos reaches fun v h => (low v h).trans_lt (by decide), count, List.drop_eq_nil_iff] at numbers
    obtain ⟨⟨long, values⟩, short⟩ := numbers
    norm_num at slotField colourField long short
    exact ⟨⟨by omega, by omega, by omega, values.symm ▸ low⟩, by omega, values⟩

theorem Rgb.length_bytes (k : Rgb) : k.bytes.length = 6 := by simp [Rgb.bytes]

theorem drop_eq_rgb_iff {payload : List Byte} {offset : Nat} {k : Rgb} :
    payload.drop offset = k.bytes ++ payload.drop (offset + 6) ↔ offset + 6 ≤ payload.length ∧
      field payload offset 2 = k.r % 65536 ∧ field payload (offset + 2) 2 = k.g % 65536 ∧
        field payload (offset + 4) 2 = k.b % 65536 := by
  rw [Rgb.bytes, List.append_assoc, List.append_assoc, drop_eq_bytesOf_append two_pos, drop_eq_bytesOf_append two_pos,
    show offset + 6 = offset + 2 + 2 + 2 from rfl, drop_eq_bytesOf_iff two_pos]
  simp only [Nat.add_assoc, Nat.reduceAdd, Nat.reducePow]
  omega

theorem parseThermalLoad_eq_some_iff {payload : List Byte} {t : ThermalTable} :
    parseThermalLoad payload = some t ↔
      -40 ≤ t.base ∧ t.base ≤ 240 ∧ 1 ≤ t.width ∧ t.width ≤ 16 ∧ t.bands.length = 16 ∧
        (∀ k ∈ t.bands, (768 ≤ k.r ∧ k.r ≤ 1279) ∧ (768 ≤ k.g ∧ k.g ≤ 1279) ∧ (768 ≤ k.b ∧ k.b ≤ 1279)) ∧
        payload = bytesOfInt 2 t.base ++ bytesOf 1 t.width ++ t.bands.flatMap Rgb.bytes := by
  obtain ⟨base, width, bands⟩ := t
  have whole : payload = bytesOfInt 2 base ++ bytesOf 1 width ++ bands.flatMap Rgb.bytes ↔
      payload.drop 0 = bytesOfInt 2 base ++ (bytesOf 1 width ++ (bands.flatMap Rgb.bytes ++ [])) := by
    simp
  have places : ∀ i, 3 + 6 * i = 3 + 2 * (3 * i) ∧ 3 + 6 * i + 2 = 3 + 2 * (3 * i + 1) ∧ 3 + 6 * i + 4 = 3 + 2 * (3 * i + 2) := by
    omega
  rw [whole]
  constructor
  · intro parsed
    simp only [parseThermalLoad, Option.ite_none_right_eq_some, Option.some.injEq, ThermalTable.mk.injEq, List.all_eq_true,
      decide_eq_true_eq, forall_mem_numbersOf] at parsed
    obtain ⟨⟨length, low, high, thin, wide, inRange⟩, rfl, rfl, rfl⟩ := parsed
    refine ⟨low, high, thin, wide, by simp, fun k mem => ?_, ?_⟩
    · obtain ⟨i, inside, rfl⟩ := List.mem_map.mp mem
      rw [List.mem_range] at inside
      simp only [getD_numbersOf (show 3 * i < 48 by omega), getD_numbersOf (show 3 * i + 1 < 48 by omega),
        getD_numbersOf (show 3 * i + 2 < 48 by omega)]
      exact ⟨inRange _ (by omega), inRange _ (by omega), inRange _ (by omega)⟩
    · rw [drop_eq_bytesOfInt_append (by omega) (by omega), drop_eq_bytesOf_append one_pos,
        drop_eq_flatMap_append fun k _ => Rgb.length_bytes k]
      simp only [drop_eq_rgb_iff, List.length_map, List.length_range, List.getElem_map, List.getElem_range, List.drop_eq_nil_iff,
        Nat.reduceAdd]
      refine ⟨⟨by omega, trivial⟩, ⟨by omega, by omega⟩, fun i inside => ?_, by omega⟩
      rw [getD_numbersOf (show 3 * i < 48 by omega), getD_numbersOf (show 3 * i + 1 < 48 by omega),
        getD_numbersOf (show 3 * i + 2 < 48 by omega)]
      obtain ⟨red, green, blue⟩ := places i
      rw [green, blue, red]
      have r := inRange (3 * i) (by omega)
      have g := inRange (3 * i + 1) (by omega)
      have b := inRange (3 * i + 2) (by omega)
      omega
  · rintro ⟨low, high, thin, wide, count, inRange, payloadEq⟩
    simp only at low high thin wide count inRange
    rw [drop_eq_bytesOfInt_append (by omega) (by omega), drop_eq_bytesOf_append one_pos,
      drop_eq_flatMap_append fun k _ => Rgb.length_bytes k, List.drop_eq_nil_iff] at payloadEq
    obtain ⟨⟨-, baseField⟩, ⟨-, widthField⟩, all, short⟩ := payloadEq
    simp only [drop_eq_rgb_iff, count, Nat.reduceAdd] at all widthField short
    have values : ∀ i (h : i < 16), field payload (3 + 2 * (3 * i)) 2 = bands[i].r ∧
        field payload (3 + 2 * (3 * i + 1)) 2 = bands[i].g ∧ field payload (3 + 2 * (3 * i + 2)) 2 = bands[i].b := fun i h => by
      obtain ⟨red, green, blue⟩ := places i
      have here := all i h
      rw [green, blue, red] at here
      have := inRange bands[i] (List.getElem_mem _)
      omega
    have long := all 15 (by decide)
    simp only [parseThermalLoad, Option.ite_none_right_eq_some, Option.some.injEq, ThermalTable.mk.injEq, List.all_eq_true,
      decide_eq_true_eq, forall_mem_numbersOf]
    refine ⟨⟨by omega, by omega, by omega, by omega, by omega, fun j inside => ?_⟩, baseField, by omega, ?_⟩
    · obtain ⟨i, below, third⟩ : ∃ i < 16, j = 3 * i ∨ j = 3 * i + 1 ∨ j = 3 * i + 2 := ⟨j / 3, by omega, by omega⟩
      obtain ⟨r, g, b⟩ := values i below
      obtain ⟨red, green, blue⟩ := inRange bands[i] (List.getElem_mem _)
      rcases third with rfl | rfl | rfl
      · rwa [r]
      · rwa [g]
      · rwa [b]
    · refine List.ext_getElem (by simp [count]) fun i inside h => ?_
      rw [List.getElem_map, List.getElem_range, getD_numbersOf (by omega), getD_numbersOf (by omega), getD_numbersOf (by omega)]
      obtain ⟨r, g, b⟩ := values i (by omega)
      rw [r, g, b]

/-! ### PAPER LOAD and RUNPARAM LOAD -/

theorem exec_paperLoad_bytes {p : Paper} {f : InFrame} {rest : List InFrame} {s : State} (front : StoreFront .paperLoad f rest s)
    (reading : s.reader.mode = .reading) (idle : s.path.run = .idle) (carried : f.payload = p.bytes.tail) (loaded : p.loaded = true)
    (wide : p.width ∈ widthCodes) (profile : p.profile ≤ 3) (remaining : p.remaining ≤ 4000000) :
    exec .paperLoad s =
      .next (answeredStore f .accepted
        { s with exposure := { s.exposure with
            paper := p, paperGeneration := (s.exposure.paperGeneration + 1) % 65536 } }) := by
  have narrow : p.width < 65536 := by
    have all : ∀ w ∈ widthCodes, w < 65536 := by decide
    exact all p.width wide
  have surface : Surface.ofCode p.surface.code = some p.surface := by cases p.surface <;> rfl
  have known : p.surface.code ≤ 1 := by cases p.surface <;> decide
  have whole : f.payload.drop 0 = bytesOf 2 p.width ++ (bytesOf 1 p.surface.code ++ (bytesOf 1 p.profile ++
      (bytesOf 3 p.remaining ++ []))) := by
    simp [carried, Paper.bytes, yesNo]
  repeat rw [drop_eq_bytesOf_append (by decide)] at whole
  rw [List.drop_eq_nil_iff] at whole
  norm_num at whole
  obtain ⟨⟨-, width⟩, ⟨-, code⟩, ⟨-, slot⟩, ⟨long, left⟩, short⟩ := whole
  rw [Nat.mod_eq_of_lt (by omega)] at width code slot left
  rw [exec_store_front front reading rfl rfl, State.takePaperLoad, if_neg (not_not_intro idle), code, surface]
  dsimp only
  rw [if_pos ⟨by omega, by rwa [width], by omega, by omega⟩, width, slot, left, ← loaded]
  exact congrArg Host.Outcome.next (State.removeSequenced_answer (by exact front.2.1) _)

theorem RunParams.bytes_eq_iff {p : RunParams} {payload : List Byte} (inRange : p.linePeriod < 65536 ∧ p.lCut < 65536 ∧
    p.dSensor < 65536 ∧ p.window < 256 ∧ p.zIn < 65536 ∧ p.zOut < 65536 ∧ p.wasteUnit < 65536 ∧ p.rampLength < 65536 ∧
    p.prefill < 256 ∧ p.tDwell < 65536 ∧ p.tCut < 65536 ∧ p.tDel < 65536 ∧ p.aMax < 256) :
    payload = p.bytes ↔ payload.length = 23 ∧ parseRunParams payload = p := by
  obtain ⟨linePeriod, lCut, dSensor, window, zIn, zOut, wasteUnit, rampLength, prefill, tDwell, tCut, tDel, aMax⟩ := p
  have whole : payload = RunParams.bytes ⟨linePeriod, lCut, dSensor, window, zIn, zOut, wasteUnit, rampLength, prefill, tDwell,
      tCut, tDel, aMax⟩ ↔ payload.drop 0 = bytesOf 2 linePeriod ++ (bytesOf 2 lCut ++ (bytesOf 2 dSensor ++ (bytesOf 1 window ++
        (bytesOf 2 zIn ++ (bytesOf 2 zOut ++ (bytesOf 2 wasteUnit ++ (bytesOf 2 rampLength ++ (bytesOf 1 prefill ++
        (bytesOf 2 tDwell ++ (bytesOf 2 tCut ++ (bytesOf 2 tDel ++ (bytesOf 1 aMax ++ [])))))))))))) := by
    simp [RunParams.bytes]
  rw [whole]
  repeat rw [drop_eq_bytesOf_append (by decide)]
  simp only [parseRunParams, RunParams.mk.injEq, List.drop_eq_nil_iff]
  dsimp only at inRange
  norm_num
  omega

theorem RunParams.bytes_parseRunParams {payload : List Byte} (length : payload.length = 23) :
    (parseRunParams payload).bytes = payload := by
  have two := fun offset => field_lt payload offset 2
  have one := fun offset => field_lt payload offset 1
  exact ((RunParams.bytes_eq_iff ⟨two _, two _, two _, one _, two _, two _, two _, two _, one _, two _, two _, two _, one _⟩).mpr
    ⟨length, rfl⟩).symm

theorem RunParams.parse_bytes {p : RunParams} (valid : p.valid = true) :
    p.bytes.length = 23 ∧ parseRunParams p.bytes = p := by
  rw [RunParams.valid_iff] at valid
  exact (RunParams.bytes_eq_iff (by omega)).mp rfl

/-! ### SORTMAP LOAD -/

theorem Window.length_bytes (w : Window) : w.bytes.length = 5 := by simp [Window.bytes, yesNo]

theorem LampPattern.length_bytes (l : LampPattern) : l.bytes.length = 5 := by simp [LampPattern.bytes, yesNo]

theorem parseWindow_eq_some_iff {payload : List Byte} {i : Nat} {w : Window} (reaches : 5 * i + 5 ≤ payload.length) :
    parseWindow payload i = some w ↔ (w.base ≤ 63 ∧ w.mask ≤ 63 ∧ 1 ≤ w.first ∧ w.first ≤ w.last ∧ w.last ≤ 24) ∧
      payload.drop (5 * i) = w.bytes ++ payload.drop (5 * i + 5) := by
  obtain ⟨enabled, base, mask, first, last⟩ := w
  have whole : payload.drop (5 * i) = Window.bytes ⟨enabled, base, mask, first, last⟩ ++ payload.drop (5 * i + 5) ↔
      payload.drop (5 * i) = yesNo enabled ++ (bytesOf 1 base ++ (bytesOf 1 mask ++ (bytesOf 1 first ++ (bytesOf 1 last ++
        payload.drop (5 * i + 1 + 1 + 1 + 1 + 1))))) := by
    simp [Window.bytes]
  rw [whole, drop_eq_yesNo_append]
  repeat rw [drop_eq_bytesOf_append one_pos]
  simp only [parseWindow]
  cases flag : yesNoOf (field payload (5 * i) 1) with
  | none => simp
  | some on =>
    simp only [Option.ite_none_right_eq_some, Option.some.injEq, Window.mk.injEq, Nat.add_assoc, Nat.reduceAdd, Nat.reducePow]
    constructor
    · rintro ⟨inRange, rfl, rfl, rfl, rfl, rfl⟩
      simp only [and_true]
      omega
    · rintro ⟨inRange, ⟨-, rfl⟩, fields⟩
      simp only [true_and]
      omega

theorem parseLamp_eq_some_iff {payload : List Byte} {i : Nat} {l : LampPattern} (reaches : 41 + 5 * i + 5 ≤ payload.length) :
    parseLamp payload i = some l ↔ l.carrier ≤ 4 ∧ payload.drop (41 + 5 * i) = l.bytes ++ payload.drop (41 + 5 * i + 5) := by
  obtain ⟨carrier, hz4, hz2, hz1, hzHalf⟩ := l
  have whole : payload.drop (41 + 5 * i) = LampPattern.bytes ⟨carrier, hz4, hz2, hz1, hzHalf⟩ ++ payload.drop (41 + 5 * i + 5) ↔
      payload.drop (41 + 5 * i) = bytesOf 1 carrier ++ (yesNo hz4 ++ (yesNo hz2 ++ (yesNo hz1 ++ (yesNo hzHalf ++
        payload.drop (41 + 5 * i + 1 + 1 + 1 + 1 + 1))))) := by
    simp [LampPattern.bytes]
  rw [whole, drop_eq_bytesOf_append one_pos]
  repeat rw [drop_eq_yesNo_append]
  simp only [parseLamp]
  have reach : ∀ n ≤ 5, 41 + 5 * i + n ≤ payload.length := by omega
  simp only [Nat.add_assoc, Nat.reduceAdd] at reach ⊢
  constructor
  · intro read
    split at read
    case h_1 four two one half =>
      rw [Option.ite_none_right_eq_some, Option.some.injEq, LampPattern.mk.injEq] at read
      obtain ⟨low, rfl, rfl, rfl, rfl, rfl⟩ := read
      exact ⟨low, ⟨reach 1 (by decide), by omega⟩, ⟨reach 2 (by decide), four⟩, ⟨reach 3 (by decide), two⟩,
        ⟨reach 4 (by decide), one⟩, ⟨reach 5 le_rfl, half⟩, trivial⟩
    case h_2 => cases read
  · rintro ⟨low, ⟨-, value⟩, ⟨-, four⟩, ⟨-, two⟩, ⟨-, one⟩, ⟨-, half⟩, -⟩
    rw [four, two, one, half]
    have same : field payload (41 + 5 * i) 1 = carrier := by omega
    simp [same, low]

theorem parseSortmapLoad_eq_some_iff {payload : List Byte} {windows : List Window} {capacity : Nat} {lamps : List LampPattern} :
    parseSortmapLoad payload = some (windows, capacity, lamps) ↔
      windows.length = 8 ∧ lamps.length = 6 ∧ 20 ≤ capacity ∧ capacity ≤ 250 ∧
        (∀ w ∈ windows, w.base ≤ 63 ∧ w.mask ≤ 63 ∧ 1 ≤ w.first ∧ w.first ≤ w.last ∧ w.last ≤ 24) ∧
        (∀ l ∈ lamps, l.carrier ≤ 4) ∧
        payload = windows.flatMap Window.bytes ++ bytesOf 1 capacity ++ lamps.flatMap LampPattern.bytes := by
  have whole : payload = windows.flatMap Window.bytes ++ bytesOf 1 capacity ++ lamps.flatMap LampPattern.bytes ↔
      payload.drop 0 = windows.flatMap Window.bytes ++ (bytesOf 1 capacity ++ (lamps.flatMap LampPattern.bytes ++ [])) := by
    simp
  rw [whole, drop_eq_flatMap_append fun w _ => w.length_bytes, drop_eq_bytesOf_append one_pos,
    drop_eq_flatMap_append fun l _ => l.length_bytes, List.drop_eq_nil_iff]
  constructor
  · intro parsed
    simp only [parseSortmapLoad, Option.ite_none_right_eq_some] at parsed
    obtain ⟨⟨length, low, high⟩, parsed⟩ := parsed
    split at parsed
    case h_1 ws ls readWindows readLamps =>
      simp only [Option.some.injEq, Prod.mk.injEq] at parsed
      obtain ⟨rfl, rfl, rfl⟩ := parsed
      rw [mapM_range_eq_some] at readWindows readLamps
      obtain ⟨eight, windowAt⟩ := readWindows
      obtain ⟨six, lampAt⟩ := readLamps
      have windowRead := fun i (h : i < ws.length) => (parseWindow_eq_some_iff (by omega)).mp (windowAt i h)
      have lampRead := fun i (h : i < ls.length) => (parseLamp_eq_some_iff (by omega)).mp (lampAt i h)
      simp only [eight, six, Nat.reduceMul, Nat.reduceAdd, Nat.zero_add]
      refine ⟨trivial, trivial, low, high, fun w mem => ?_, fun l mem => ?_, fun i h => ?_, ⟨by omega, by omega⟩, fun i h => ?_,
        by omega⟩
      · obtain ⟨i, h, rfl⟩ := List.getElem_of_mem mem
        exact (windowRead i h).1
      · obtain ⟨i, h, rfl⟩ := List.getElem_of_mem mem
        exact (lampRead i h).1
      · exact (windowRead i (by omega)).2
      · exact (lampRead i (by omega)).2
    case h_2 => cases parsed
  · rintro ⟨eight, six, low, high, windowRange, lampRange, windowsThere, ⟨-, value⟩, lampsThere, short⟩
    rw [eight] at value lampsThere short
    rw [six] at short
    simp only [Nat.zero_add, Nat.reduceMul, Nat.reduceAdd] at windowsThere value lampsThere short
    have length : payload.length = 71 := by
      have last := congrArg List.length (lampsThere 5 (by omega))
      rw [List.length_append, List.length_drop, List.length_drop, LampPattern.length_bytes] at last
      omega
    have readWindows : (List.range 8).mapM (parseWindow payload) = some windows := by
      refine mapM_range_eq_some.mpr ⟨eight, fun i h => (parseWindow_eq_some_iff (by omega)).mpr ⟨?_, windowsThere i h⟩⟩
      exact windowRange _ (List.getElem_mem h)
    have readLamps : (List.range 6).mapM (parseLamp payload) = some lamps := by
      refine mapM_range_eq_some.mpr ⟨six, fun i h => (parseLamp_eq_some_iff (by omega)).mpr ⟨?_, lampsThere i h⟩⟩
      exact lampRange _ (List.getElem_mem h)
    have held : field payload 40 1 = capacity := by omega
    simp only [parseSortmapLoad, readWindows, readLamps, held]
    exact if_pos ⟨length, low, high⟩

/-- Settles O23: each parser accepts a payload just when it is the bytes of a table in range. -/
theorem tableEntriesReadBack : Obligations.TableEntriesReadBack :=
  ⟨fun _ _ _ => parseProfileLoad_eq_some_iff, fun _ _ _ => parseLutLoad_eq_some_iff, fun _ _ => parseThermalLoad_eq_some_iff,
    fun _ _ _ => parseSizeLoad_eq_some_iff, fun _ _ _ _ => exec_paperLoad_bytes,
    ⟨fun _ => RunParams.bytes_parseRunParams, fun _ => RunParams.parse_bytes⟩, fun _ _ _ _ => parseSortmapLoad_eq_some_iff⟩

end Sys2Proof.Machine
end
section
/-!
PROOFS. PRICE LOAD, PROMO LOAD and MONITOR LOAD read back the bytes of their tables (sections 5.6 and 8.5).
-/

namespace Sys2Proof.Machine

/-! ### PRICE LOAD: rows of varying length, one after another -/

/-- The bytes of a quantity break, in a price row (R150). -/
def Break.bytes (b : Break) : List Byte := bytesOf 2 b.threshold ++ bytesOf 1 b.percent

theorem bytesOf_two_numberOf (high low : Byte) : bytesOf 2 (numberOf [high, low]) = [high, low] := bytesOf_numberOf [high, low]

theorem numberOf_two_lt (high low : Byte) : numberOf [high, low] < 65536 :=
  (numberOf_lt [high, low]).trans_le (show 256 ^ 2 ≤ 65536 by decide)

theorem bytesOf_one_toNat (b : Byte) : bytesOf 1 b.toNat = [b] := by
  rw [bytesOf_one, BitVec.ofNat_toNat, BitVec.setWidth_eq]

/-- A number below 65,536 is two bytes, which are read back as the number. -/
theorem exists_bytesOf_two {n : Nat} (inRange : n < 65536) : ∃ high low, bytesOf 2 n = [high, low] ∧ numberOf [high, low] = n :=
  ⟨_, _, rfl, numberOf_bytesOf (n := 2) inRange⟩

/-- A number below 256 is one byte. -/
theorem exists_bytesOf_one {n : Nat} (inRange : n < 256) : ∃ b, bytesOf 1 n = [b] ∧ b.toNat = n :=
  ⟨_, bytesOf_one n, by simpa using inRange⟩

theorem parseBreaks_eq_some_iff {n : Nat} {bytes rest : List Byte} {breaks : List Break} :
    parseBreaks n bytes = some (breaks, rest) ↔ breaks.length = n ∧ bytes = breaks.flatMap Break.bytes ++ rest ∧
      ∀ b ∈ breaks, b.threshold < 65536 ∧ b.percent < 256 := by
  induction n generalizing bytes breaks with
  | zero => cases breaks <;> simp [parseBreaks]
  | succ n ih =>
    constructor
    · intro parsed
      match bytes with
      | t1 :: t0 :: p :: bytes =>
        simp only [parseBreaks, Option.map_eq_some_iff, Prod.mk.injEq] at parsed
        obtain ⟨⟨others, behind⟩, read, rfl, rfl⟩ := parsed
        obtain ⟨length, rfl, inRange⟩ := ih.mp read
        refine ⟨by rw [List.length_cons, length], ?_, List.forall_mem_cons.mpr ⟨⟨numberOf_two_lt t1 t0, p.isLt⟩, inRange⟩⟩
        simp [Break.bytes, bytesOf_two_numberOf, bytesOf_one_toNat]
      | [] | [_] | [_, _] => cases parsed
    · rintro ⟨length, rfl, inRange⟩
      match breaks with
      | [] => cases length
      | b :: breaks =>
        obtain ⟨⟨threshold, percent⟩, others⟩ := List.forall_mem_cons.mp inRange
        obtain ⟨t1, t0, high, thresholdRead⟩ := exists_bytesOf_two threshold
        obtain ⟨p, low, percentRead⟩ := exists_bytesOf_one percent
        have read := ih.mpr ⟨Nat.succ.inj length, rfl, others⟩
        simp [Break.bytes, high, low, parseBreaks, read, thresholdRead, percentRead]

theorem breaksValid_iff {breaks : List Break} :
    breaksValid breaks = true ↔ (∀ b ∈ breaks, 2 ≤ b.threshold ∧ b.threshold ≤ 999 ∧ 1 ≤ b.percent ∧ b.percent ≤ 90) ∧
      breaks.Pairwise fun a b => a.threshold < b.threshold ∧ a.percent ≤ b.percent := by
  induction breaks with
  | nil => simp [breaksValid]
  | cons a breaks ih =>
    cases breaks with
    | nil => simp [breaksValid]
    | cons b breaks =>
      rw [breaksValid, Bool.and_eq_true, ih, decide_eq_true_eq]
      constructor
      · rintro ⟨⟨low, high, some, most, rises, grows⟩, ranges, ordered⟩
        refine ⟨List.forall_mem_cons.mpr ⟨⟨low, high, some, most⟩, ranges⟩, List.pairwise_cons.mpr ⟨?_, ordered⟩⟩
        refine List.forall_mem_cons.mpr ⟨⟨rises, grows⟩, fun c mem => ?_⟩
        obtain ⟨above, beyond⟩ := List.rel_of_pairwise_cons ordered mem
        exact ⟨rises.trans above, grows.trans beyond⟩
      · rintro ⟨ranges, ordered⟩
        obtain ⟨⟨low, high, some, most⟩, others⟩ := List.forall_mem_cons.mp ranges
        obtain ⟨rises, grows⟩ := List.rel_of_pairwise_cons ordered List.mem_cons_self
        exact ⟨⟨low, high, some, most, rises, grows⟩, others, ordered.of_cons⟩

/-- A price row in range (R139, R150). -/
def PriceRow.InRange (r : PriceRow) : Prop :=
  r.glossy ≤ 65535 ∧ r.lustre ≤ 65535 ∧ r.breaks.length ≤ 3 ∧
    (∀ b ∈ r.breaks, 2 ≤ b.threshold ∧ b.threshold ≤ 999 ∧ 1 ≤ b.percent ∧ b.percent ≤ 90) ∧
    r.breaks.Pairwise fun a b => a.threshold < b.threshold ∧ a.percent ≤ b.percent

theorem PriceRow.bytes_eq (r : PriceRow) : r.bytes = yesNo r.loaded ++ bytesOf 2 r.glossy ++ bytesOf 2 r.lustre ++
    (bytesOf 1 r.breaks.length ++ r.breaks.flatMap Break.bytes) := rfl

theorem yesNoOf_toNat_eq_some_iff {l : Byte} {b : Bool} : yesNoOf l.toNat = some b ↔ [l] = yesNo b := by
  rw [yesNoOf_eq_some_iff, yesNo_eq_bytesOf]
  constructor
  · intro value
    rw [← value, bytesOf_one_toNat]
  · intro value
    rw [bytesOf_one, List.singleton_inj] at value
    subst value
    cases b <;> rfl

theorem parsePriceRow_eq_some_iff {bytes rest : List Byte} {r : PriceRow} :
    parsePriceRow bytes = some (r, rest) ↔ r.InRange ∧ bytes = r.bytes ++ rest := by
  obtain ⟨loaded, glossy, lustre, breaks⟩ := r
  constructor
  · intro parsed
    unfold parsePriceRow at parsed
    split at parsed
    case h_2 => cases parsed
    case h_1 l g1 g0 u1 u0 n bytes =>
      split at parsed
      case h_2 => cases parsed
      case h_1 flag read behind readFlag readBreaks =>
        simp only [Option.ite_none_right_eq_some, Option.some.injEq, Prod.mk.injEq, PriceRow.mk.injEq] at parsed
        obtain ⟨⟨few, valid⟩, ⟨rfl, rfl, rfl, rfl⟩, rfl⟩ := parsed
        obtain ⟨length, rfl, -⟩ := parseBreaks_eq_some_iff.mp readBreaks
        have glossy := numberOf_two_lt g1 g0
        have lustre := numberOf_two_lt u1 u0
        have count : bytesOf 1 read.length = [n] := by rw [length, bytesOf_one_toNat]
        refine ⟨⟨by dsimp only; omega, by dsimp only; omega, length.le.trans few, breaksValid_iff.mp valid⟩, ?_⟩
        simp [PriceRow.bytes_eq, ← yesNoOf_toNat_eq_some_iff.mp readFlag, bytesOf_two_numberOf, count]
  · rintro ⟨⟨cheap, dear, few, valid⟩, rfl⟩
    dsimp only at cheap dear few valid
    obtain ⟨g1, g0, glossyBytes, glossyRead⟩ := exists_bytesOf_two (show glossy < 65536 by omega)
    obtain ⟨u1, u0, lustreBytes, lustreRead⟩ := exists_bytesOf_two (show lustre < 65536 by omega)
    obtain ⟨n, countByte, countRead⟩ := exists_bytesOf_one (show breaks.length < 256 by omega)
    obtain ⟨l, flagByte⟩ : ∃ l, [l] = yesNo loaded := ⟨_, rfl⟩
    have read : parseBreaks n.toNat (breaks.flatMap Break.bytes ++ rest) = some (breaks, rest) :=
      parseBreaks_eq_some_iff.mpr ⟨countRead.symm, rfl, fun b mem => by
        obtain ⟨-, high, -, most⟩ := valid.1 b mem
        omega⟩
    have bytes : PriceRow.bytes ⟨loaded, glossy, lustre, breaks⟩ ++ rest =
        l :: g1 :: g0 :: u1 :: u0 :: n :: (breaks.flatMap Break.bytes ++ rest) := by
      simp [PriceRow.bytes_eq, ← flagByte, glossyBytes, lustreBytes, countByte]
    rw [bytes, parsePriceRow, yesNoOf_toNat_eq_some_iff.mpr flagByte, read]
    dsimp only
    rw [if_pos ⟨by omega, breaksValid_iff.mpr valid⟩, glossyRead, lustreRead]

theorem parsePriceRows_eq_some_iff {n : Nat} {bytes rest : List Byte} {rows : List PriceRow} :
    parsePriceRows n bytes = some (rows, rest) ↔ rows.length = n ∧ (∀ r ∈ rows, r.InRange) ∧
      bytes = rows.flatMap PriceRow.bytes ++ rest := by
  induction n generalizing bytes rows with
  | zero => cases rows <;> simp [parsePriceRows]
  | succ n ih =>
    constructor
    · intro parsed
      unfold parsePriceRows at parsed
      split at parsed
      case h_1 => cases parsed
      case h_2 row behind read =>
        simp only [Option.map_eq_some_iff, Prod.mk.injEq] at parsed
        obtain ⟨⟨others, last⟩, readOthers, rfl, rfl⟩ := parsed
        obtain ⟨inRange, rfl⟩ := parsePriceRow_eq_some_iff.mp read
        obtain ⟨length, ranges, rfl⟩ := ih.mp readOthers
        exact ⟨by rw [List.length_cons, length], List.forall_mem_cons.mpr ⟨inRange, ranges⟩, by simp⟩
    · rintro ⟨length, ranges, rfl⟩
      match rows with
      | [] => cases length
      | row :: rows =>
        obtain ⟨inRange, others⟩ := List.forall_mem_cons.mp ranges
        have read := parsePriceRow_eq_some_iff.mpr
          ⟨inRange, (rfl : row.bytes ++ (rows.flatMap PriceRow.bytes ++ rest) = row.bytes ++ (rows.flatMap PriceRow.bytes ++ rest))⟩
        have readOthers := ih.mpr ⟨Nat.succ.inj length, others, rfl⟩
        rw [List.flatMap_cons, List.append_assoc, parsePriceRows, read]
        simp [readOthers]

theorem parsePriceLoad_eq_some_iff {payload : List Byte} {rows : List PriceRow} {surcharges : List Nat} :
    parsePriceLoad payload = some (rows, surcharges) ↔
      rows.length = 16 ∧ surcharges.length = 4 ∧ (∀ c ∈ surcharges, c ≤ 65535) ∧ (∀ r ∈ rows, r.InRange) ∧
        payload = rows.flatMap PriceRow.bytes ++ surcharges.flatMap (bytesOf 2) := by
  have numbers : ∀ {rest : List Byte} {l : List Nat}, l.length = 4 → (∀ c ∈ l, c ≤ 65535) →
      (rest = l.flatMap (bytesOf 2) ↔ rest.length = 8 ∧ numbersOf rest 0 2 4 = l) := fun {rest l} length inRange => by
    have whole : rest = l.flatMap (bytesOf 2) ↔ rest.drop 0 = l.flatMap (bytesOf 2) ++ [] := by simp
    rw [whole, drop_eq_numbers_append two_pos (Nat.zero_le _) fun v mem => Nat.lt_succ_of_le (inRange v mem), length,
      List.drop_eq_nil_iff]
    constructor
    · rintro ⟨⟨long, values⟩, short⟩
      exact ⟨by omega, values⟩
    · rintro ⟨eight, values⟩
      exact ⟨⟨by omega, values⟩, by omega⟩
  constructor
  · intro parsed
    unfold parsePriceLoad at parsed
    split at parsed
    case h_2 => cases parsed
    case h_1 read rest readRows =>
      simp only [Option.ite_none_right_eq_some, Option.some.injEq, Prod.mk.injEq] at parsed
      obtain ⟨eight, rfl, rfl⟩ := parsed
      obtain ⟨length, ranges, rfl⟩ := parsePriceRows_eq_some_iff.mp readRows
      have four := length_numbersOf rest 0 2 4
      have small : ∀ c ∈ numbersOf rest 0 2 4, c ≤ 65535 :=
        forall_mem_numbersOf.mpr fun i _ => Nat.le_of_lt_succ (field_lt rest (0 + 2 * i) 2)
      exact ⟨length, four, small, ranges, by rw [← (numbers four small).mpr ⟨eight, rfl⟩]⟩
  · rintro ⟨length, four, small, ranges, rfl⟩
    obtain ⟨eight, values⟩ := (numbers four small).mp rfl
    have readRows := parsePriceRows_eq_some_iff.mpr
      ⟨length, ranges, (rfl : rows.flatMap PriceRow.bytes ++ surcharges.flatMap (bytesOf 2) = _)⟩
    rw [parsePriceLoad, readRows]
    dsimp only
    rw [if_pos eight, values]

/-! ### PROMO LOAD -/

/-- A promotion record in range (R140, R151). -/
def Promotion.InRange (p : Promotion) : Prop :=
  p.code ≤ 65535 ∧ p.percent ≤ 255 ∧ p.amount ≤ 16777215 ∧ p.size ≤ 255 ∧ p.prints ≤ 255 ∧
    p.cap ≤ 1000000 ∧ p.base ≤ 63 ∧ p.mask ≤ 63 ∧ (p.enabled = true → p.code ≠ 0) ∧
    (p.kind = .percent → 1 ≤ p.percent ∧ p.percent ≤ 100) ∧ (p.kind = .amount → p.amount ≤ 1000000) ∧
    (p.kind = .freePrints → p.size ≤ 15 ∧ 1 ≤ p.prints ∧ p.prints ≤ 99)

theorem Promotion.valueValid_iff (p : Promotion) : p.valueValid = true ↔
    (p.kind = .percent → 1 ≤ p.percent ∧ p.percent ≤ 100) ∧ (p.kind = .amount → p.amount ≤ 1000000) ∧
      (p.kind = .freePrints → p.size ≤ 15 ∧ 1 ≤ p.prints ∧ p.prints ≤ 99) := by
  unfold Promotion.valueValid
  cases p.kind <;> simp

theorem Promotion.valid_iff (p : Promotion) : p.valid = true ↔ p.cap ≤ 1000000 ∧ p.base ≤ 63 ∧ p.mask ≤ 63 ∧
    (p.enabled = true → p.code ≠ 0) ∧ (p.kind = .percent → 1 ≤ p.percent ∧ p.percent ≤ 100) ∧
      (p.kind = .amount → p.amount ≤ 1000000) ∧ (p.kind = .freePrints → p.size ≤ 15 ∧ 1 ≤ p.prints ∧ p.prints ≤ 99) := by
  rw [Promotion.valid, Bool.and_eq_true, Promotion.valueValid_iff, decide_eq_true_eq]
  tauto

theorem promotionsDistinct_iff {records : List Promotion} :
    promotionsDistinct records = true ↔ ((records.filter Promotion.enabled).map Promotion.code).Nodup := by
  induction records with
  | nil => simp [promotionsDistinct]
  | cons p records ih =>
    cases on : p.enabled with
    | false => simp [promotionsDistinct, ih, on]
    | true =>
      have other : ∀ q : Promotion, (q.enabled = false ∨ ¬ q.code = p.code) ↔ (q.enabled = true → ¬ q.code = p.code) := fun q => by
        cases q.enabled <;> simp
      simp [promotionsDistinct, ih, on, other]

theorem PromoKind.ofCode_eq_some_iff {n : Nat} {k : PromoKind} : PromoKind.ofCode n = some k ↔ n = k.code := by
  match n with
  | 0 | 1 | 2 => cases k <;> decide
  | n + 3 => cases k <;> simp [PromoKind.ofCode, PromoKind.code]

theorem Promotion.length_bytes (p : Promotion) : p.bytes.length = 15 := by simp [Promotion.bytes, yesNo]

theorem parsePromotion_eq_some_iff {payload : List Byte} {offset : Nat} {p : Promotion} (reaches : offset + 15 ≤ payload.length) :
    parsePromotion payload offset = some p ∧ p.valid = true ↔
      p.InRange ∧ payload.drop offset = p.bytes ++ payload.drop (offset + 15) := by
  obtain ⟨code, enabled, kind, percent, amount, size, prints, cap, base, mask⟩ := p
  have whole : payload.drop offset = Promotion.bytes ⟨code, enabled, kind, percent, amount, size, prints, cap, base, mask⟩ ++
        payload.drop (offset + 15) ↔
      payload.drop offset = bytesOf 2 code ++ (yesNo enabled ++ (bytesOf 1 kind.code ++ (bytesOf 1 percent ++ (bytesOf 3 amount ++
        (bytesOf 1 size ++ (bytesOf 1 prints ++ (bytesOf 3 cap ++ (bytesOf 1 base ++ (bytesOf 1 mask ++
        payload.drop (offset + 2 + 1 + 1 + 1 + 3 + 1 + 1 + 3 + 1 + 1)))))))))) := by
    simp [Promotion.bytes]
  have kindCode : kind.code ≤ 2 := by cases kind <;> decide
  have two := field_lt payload offset 2
  have one := fun place => field_lt payload place 1
  have three := fun place => field_lt payload place 3
  rw [whole, drop_eq_bytesOf_append two_pos, drop_eq_yesNo_append]
  repeat rw [drop_eq_bytesOf_append (by decide)]
  rw [Promotion.valid_iff, Promotion.InRange]
  simp only [Nat.add_assoc, Nat.reduceAdd, Nat.reducePow] at two one three ⊢
  constructor
  · rintro ⟨read, valid⟩
    unfold parsePromotion at read
    split at read
    case h_2 => cases read
    case h_1 on k flag kindRead =>
      simp only [Option.some.injEq, Promotion.mk.injEq] at read
      obtain ⟨rfl, rfl, rfl, rfl, rfl, rfl, rfl, rfl, rfl, rfl⟩ := read
      rw [PromoKind.ofCode_eq_some_iff] at kindRead
      have := one (offset + 4)
      have := one (offset + 8)
      have := one (offset + 9)
      have := one (offset + 13)
      have := one (offset + 14)
      have := three (offset + 5)
      have := three (offset + 10)
      refine ⟨⟨by omega, by omega, by omega, by omega, by omega, valid⟩, ?_⟩
      simp only [flag, and_true]
      omega
  · rintro ⟨⟨codeLow, percentLow, amountLow, sizeLow, printsLow, valid⟩, ⟨-, codeField⟩, ⟨-, flag⟩, fields⟩
    have ⟨capLow, baseLow, maskLow, _⟩ := valid
    refine ⟨?_, valid⟩
    have kindRead : PromoKind.ofCode (field payload (offset + 3) 1) = some kind := PromoKind.ofCode_eq_some_iff.mpr (by omega)
    rw [parsePromotion, flag, kindRead]
    simp only [Option.some.injEq, Promotion.mk.injEq, true_and]
    omega

theorem parsePromoLoad_eq_some_iff {payload : List Byte} {records : List Promotion} :
    parsePromoLoad payload = some records ↔
      records.length = 16 ∧ (∀ p ∈ records, p.InRange) ∧ ((records.filter Promotion.enabled).map Promotion.code).Nodup ∧
        payload = records.flatMap Promotion.bytes := by
  have whole : payload = records.flatMap Promotion.bytes ↔ payload.drop 0 = records.flatMap Promotion.bytes ++ [] := by simp
  rw [whole, drop_eq_flatMap_append fun p _ => p.length_bytes, List.drop_eq_nil_iff]
  simp only [Nat.zero_add]
  constructor
  · intro parsed
    simp only [parsePromoLoad, Option.ite_none_right_eq_some] at parsed
    obtain ⟨length, parsed⟩ := parsed
    split at parsed
    case h_2 => cases parsed
    case h_1 read readAll =>
      simp only [Option.ite_none_right_eq_some, Option.some.injEq, Bool.and_eq_true, List.all_eq_true, promotionsDistinct_iff] at parsed
      obtain ⟨⟨valid, distinct⟩, rfl⟩ := parsed
      obtain ⟨count, recordAt⟩ := mapM_range_eq_some.mp readAll
      have there := fun i (h : i < read.length) =>
        (parsePromotion_eq_some_iff (by omega)).mp ⟨recordAt i h, valid _ (List.getElem_mem h)⟩
      refine ⟨count, fun p mem => ?_, distinct, fun i h => (there i h).2, by omega⟩
      obtain ⟨i, h, rfl⟩ := List.getElem_of_mem mem
      exact (there i h).1
  · rintro ⟨count, ranges, distinct, there, short⟩
    have length : payload.length = 240 := by
      have last := congrArg List.length (there 15 (by omega))
      rw [List.length_append, List.length_drop, List.length_drop, Promotion.length_bytes] at last
      omega
    have recordAt := fun i (h : i < records.length) =>
      (parsePromotion_eq_some_iff (by omega)).mpr ⟨ranges _ (List.getElem_mem h), there i h⟩
    have readAll : ((List.range 16).mapM fun i => parsePromotion payload (15 * i)) = some records :=
      mapM_range_eq_some.mpr ⟨count, fun i h => (recordAt i h).1⟩
    have valid : ∀ p ∈ records, p.valid = true := fun p mem => by
      obtain ⟨i, h, rfl⟩ := List.getElem_of_mem mem
      exact (recordAt i h).2
    rw [parsePromoLoad, if_pos length, readAll]
    dsimp only
    rw [if_pos (by rw [Bool.and_eq_true, List.all_eq_true, promotionsDistinct_iff]; exact ⟨valid, distinct⟩)]

/-! ### MONITOR LOAD -/

/-- The limits of a channel in range and in their order (R95). -/
def ChannelLimits.InRange (l : ChannelLimits) : Prop :=
  l.faultCount ∈ [1, 2, 4, 8] ∧ -40 ≤ l.loTrip ∧ l.loTrip ≤ l.loRecover ∧ l.loRecover ≤ l.hiRecover ∧
    l.hiRecover < l.hiTrip ∧ l.hiTrip ≤ 240 ∧ (l.loTrip = l.loRecover → l.loTrip = -40)

theorem ChannelLimits.valid_iff (l : ChannelLimits) : l.valid = true ↔ l.InRange := by
  simp only [ChannelLimits.valid, ChannelLimits.InRange, limitInRange, Bool.and_eq_true, Bool.or_eq_true, beq_iff_eq,
    decide_eq_true_eq, List.mem_cons, List.not_mem_nil, or_false]
  omega

theorem AlertMode.ofCode_eq_some_iff {n : Nat} {m : AlertMode} : AlertMode.ofCode n = some m ↔ n = m.code := by
  match n with
  | 0 | 1 => cases m <;> decide
  | n + 2 => cases m <;> simp [AlertMode.ofCode, AlertMode.code]

theorem ChannelLimits.length_bytes (l : ChannelLimits) : l.bytes.length = 11 := by
  simp [ChannelLimits.bytes, yesNo, bytesOfInt]

theorem parseLimits_eq_some_iff {payload : List Byte} {i : Nat} {l : ChannelLimits} (reaches : 11 * i + 11 ≤ payload.length) :
    parseLimits payload i = some l ↔ l.InRange ∧ payload.drop (11 * i) = l.bytes ++ payload.drop (11 * i + 11) := by
  obtain ⟨enabled, mode, faultCount, hiTrip, hiRecover, loTrip, loRecover⟩ := l
  have whole : payload.drop (11 * i) = ChannelLimits.bytes ⟨enabled, mode, faultCount, hiTrip, hiRecover, loTrip, loRecover⟩ ++
        payload.drop (11 * i + 11) ↔
      payload.drop (11 * i) = yesNo enabled ++ (bytesOf 1 mode.code ++ (bytesOf 1 faultCount ++ (bytesOfInt 2 hiTrip ++
        (bytesOfInt 2 hiRecover ++ (bytesOfInt 2 loTrip ++ (bytesOfInt 2 loRecover ++
        payload.drop (11 * i + 1 + 1 + 1 + 2 + 2 + 2 + 2))))))) := by
    simp [ChannelLimits.bytes]
  have modeCode : mode.code ≤ 1 := by cases mode <;> decide
  constructor
  · intro read
    simp only [parseLimits] at read
    split at read
    case h_2 => cases read
    case h_1 on m flag modeRead =>
      rw [Option.ite_none_right_eq_some, Option.some.injEq, ChannelLimits.valid_iff] at read
      obtain ⟨inRange, same⟩ := read
      rw [same] at inRange
      refine ⟨inRange, ?_⟩
      obtain ⟨count, low, rises, wide, above, high, -⟩ := inRange
      dsimp only at count low rises wide above high
      rw [ChannelLimits.mk.injEq] at same
      obtain ⟨rfl, rfl, rfl, hiTripRead, hiRecoverRead, loTripRead, loRecoverRead⟩ := same
      rw [AlertMode.ofCode_eq_some_iff] at modeRead
      have small := field_lt payload (11 * i + 2) 1
      rw [whole, drop_eq_yesNo_append, drop_eq_bytesOf_append one_pos, drop_eq_bytesOf_append one_pos,
        drop_eq_bytesOfInt_append (by omega) (by omega), drop_eq_bytesOfInt_append (by omega) (by omega),
        drop_eq_bytesOfInt_append (by omega) (by omega), drop_eq_bytesOfInt_append (by omega) (by omega)]
      simp only [Nat.add_assoc, Nat.reduceAdd, flag, hiTripRead, hiRecoverRead, loTripRead, loRecoverRead, and_true]
      omega
  · rintro ⟨inRange, there⟩
    have valid := (ChannelLimits.valid_iff _).mpr inRange
    obtain ⟨count, low, rises, wide, above, high, -⟩ := inRange
    dsimp only at count low rises wide above high
    have few : ∀ n ∈ [1, 2, 4, 8], n < 256 := by decide
    have small := few faultCount count
    rw [whole, drop_eq_yesNo_append, drop_eq_bytesOf_append one_pos, drop_eq_bytesOf_append one_pos,
      drop_eq_bytesOfInt_append (by omega) (by omega), drop_eq_bytesOfInt_append (by omega) (by omega),
      drop_eq_bytesOfInt_append (by omega) (by omega), drop_eq_bytesOfInt_append (by omega) (by omega)] at there
    simp only [Nat.add_assoc, Nat.reduceAdd] at there
    obtain ⟨⟨-, flag⟩, ⟨-, modeField⟩, ⟨-, countField⟩, ⟨-, hiTripRead⟩, ⟨-, hiRecoverRead⟩, ⟨-, loTripRead⟩,
      ⟨-, loRecoverRead⟩, -⟩ := there
    have modeRead : AlertMode.ofCode (field payload (11 * i + 1) 1) = some mode := AlertMode.ofCode_eq_some_iff.mpr (by omega)
    have countRead : field payload (11 * i + 2) 1 = faultCount := by omega
    simp only [parseLimits, flag, modeRead, countRead, hiTripRead, hiRecoverRead, loTripRead, loRecoverRead]
    rw [if_pos valid]

theorem parseMonitorLoad_eq_some_iff {payload : List Byte} {limits : List ChannelLimits} :
    parseMonitorLoad payload = some limits ↔
      limits.length = 4 ∧ (∀ l ∈ limits, l.InRange) ∧ payload = limits.flatMap ChannelLimits.bytes := by
  have whole : payload = limits.flatMap ChannelLimits.bytes ↔ payload.drop 0 = limits.flatMap ChannelLimits.bytes ++ [] := by simp
  rw [whole, drop_eq_flatMap_append fun l _ => l.length_bytes, List.drop_eq_nil_iff, parseMonitorLoad,
    Option.ite_none_right_eq_some, mapM_range_eq_some]
  simp only [Nat.zero_add]
  constructor
  · rintro ⟨length, count, limitsAt⟩
    have there := fun i (h : i < limits.length) => (parseLimits_eq_some_iff (by omega)).mp (limitsAt i h)
    refine ⟨count, fun l mem => ?_, fun i h => (there i h).2, by omega⟩
    obtain ⟨i, h, rfl⟩ := List.getElem_of_mem mem
    exact (there i h).1
  · rintro ⟨count, ranges, there, short⟩
    have length : payload.length = 44 := by
      have last := congrArg List.length (there 3 (by omega))
      rw [List.length_append, List.length_drop, List.length_drop, ChannelLimits.length_bytes] at last
      omega
    exact ⟨length, count, fun i h => (parseLimits_eq_some_iff (by omega)).mpr ⟨ranges _ (List.getElem_mem h), there i h⟩⟩

/-- Settles O24: each parser accepts a payload just when it is the bytes of a table in range. -/
theorem pricesAndLimitsReadBack : Obligations.PricesAndLimitsReadBack :=
  ⟨fun _ _ _ => parsePriceLoad_eq_some_iff, fun _ _ => parsePromoLoad_eq_some_iff, fun _ _ => parseMonitorLoad_eq_some_iff⟩

end Sys2Proof.Machine
end
section
/-!
PROOFS. Queries and their replies (chapter 11), the lamps and the gate (sections 7.4 and 7.7), and the dwell timer's expiry
(section 2.5).
-/

namespace Sys2Proof.Machine

/-! ### The dwell timer -/

/-- Settles O45: by the dwell timer. -/
theorem dwellExpiryMarksTheZone : Obligations.DwellExpiryMarksTheZone := by
  intro s out
  have acts : exec .dwellExpiry s = .next s.expireDwell := State.event_of_not_inReset out
  rw [acts]
  refine ⟨fun due running => ?_, fun idle => ?_⟩
  · simp [State.expireDwell, running, State.markZone, State.mapSegments, Segment.overlaps, Segment.flagDwell]
  · unfold State.expireDwell
    split
    · next due running => exact absurd running (idle due)
    · rfl
    · rfl

/-! ### Lamps and the gate -/

theorem phaseHigh_iff {period half now : Nat} (halved : period / 2 = half) : phaseHigh period now = true ↔ now % period < half := by
  rw [phaseHigh, decide_eq_true_eq, halved]

theorem lt_carrierHigh_iff {carrier now : Nat} (known : carrier ≤ 4) : now % 1000 < carrierHigh carrier ↔
    carrier = 1 ∧ now % 1000 < 250 ∨ carrier = 2 ∧ now % 1000 < 333 ∨ carrier = 3 ∧ now % 1000 < 500 ∨ carrier = 4 := by
  have below := Nat.mod_lt now (show 0 < 1000 by decide)
  interval_cases carrier <;> simp [carrierHigh, below]

theorem LampPattern.lit_iff {p : LampPattern} {now : Nat} (known : p.carrier ≤ 4) : p.lit now = true ↔
    (p.carrier = 1 ∧ now % 1000 < 250 ∨ p.carrier = 2 ∧ now % 1000 < 333 ∨ p.carrier = 3 ∧ now % 1000 < 500 ∨ p.carrier = 4) ∧
      (p.hz4 = true → now % 250000 < 125000) ∧ (p.hz2 = true → now % 500000 < 250000) ∧
      (p.hz1 = true → now % 1000000 < 500000) ∧ (p.hzHalf = true → now % 2000000 < 1000000) := by
  have gated : ∀ {set phase : Bool}, (!set || phase) = true ↔ (set = true → phase = true) := fun {set phase} => by
    cases set <;> simp
  simp only [LampPattern.lit, Bool.and_eq_true, decide_eq_true_eq, gated, lt_carrierHigh_iff known,
    phaseHigh_iff (show 250000 / 2 = 125000 from rfl), phaseHigh_iff (show 500000 / 2 = 250000 from rfl),
    phaseHigh_iff (show 1000000 / 2 = 500000 from rfl), phaseHigh_iff (show 2000000 / 2 = 1000000 from rfl), and_assoc]

theorem Bin.pattern_eq (b : Bin) : b.pattern = match b.state with
    | .free => 0
    | .filling => 1
    | .ready => if b.ownerClass = ServiceClass.express then 3 else 2
    | .held => if b.pending = 0 ∧ b.ownerLive = false then 4 else 5 := by
  unfold Bin.pattern Bin.releasable
  cases b.state <;> simp

/-- Settles O51: by the pattern of a bin, and the phases of the clock. -/
theorem lampsAndGateFollowTheRecords : Obligations.LampsAndGateFollowTheRecords := by
  refine ⟨fun n b pattern s out bin shows known => ?_, fun n s held => ?_, fun s => ⟨fun empty => ?_, fun e rest oldest => ?_⟩⟩
  · have shown : s.sorter.lamps[b.pattern]? = some pattern := by rw [Bin.pattern_eq]; exact shows
    simp only [State.lampLit, bin, shown, out, Bool.not_false, Bool.true_and, LampPattern.lit_iff known]
  · unfold State.lampLit
    split
    · rfl
    · split
      · rw [held, Bool.not_true, Bool.false_and]
      · rfl
  · rw [State.gateSelect, empty]
  · rw [State.gateSelect, oldest]

/-! ### A query at the front of the Command Queue -/

section
variable {f : InFrame} {rest : List InFrame} {s : State} {c : Instr} {code length : Nat} {act : InFrame → State → State}
  {kind : Byte} {args : List Byte}

theorem fieldOrZero_head (carried : f.payload = kind :: args) : fieldOrZero f.payload 0 1 = kind.toNat := by
  rw [fieldOrZero_of_reaches (by simp [carried]), carried]
  simp [field, numberOf]

theorem exec_query_front (front : CommandFront .query f rest s) (wellFormed : c.wellFormed = true)
    (acts : effect c s = s.onQuery code (State.ofLength length act)) :
    exec c s = .next (if ¬ queryKindKnown (fieldOrZero f.payload 0 1) then s.refuseQuery f .range
      else if fieldOrZero f.payload 0 1 = code then State.ofLength length act f s else s) :=
  exec_command_front front wellFormed acts

/-- A query whose kind byte names no kind. -/
theorem exec_query_unknown (front : CommandFront .query f rest s) (wellFormed : c.wellFormed = true)
    (acts : effect c s = s.onQuery code (State.ofLength length act))
    (unknown : f.payload = [] ∨ ∃ kind args, f.payload = kind :: args ∧ (kind = 0 ∨ 8 < kind.toNat)) :
    exec c s = .next (answeredCommand f .range s) := by
  have refused : ¬ queryKindKnown (fieldOrZero f.payload 0 1) := by
    rw [queryKindKnown, decide_eq_true_eq]
    rcases unknown with empty | ⟨kind, args, carried, zero | large⟩
    · rw [fieldOrZero_of_short (by simp [empty])]
      decide
    · rw [fieldOrZero_head carried, zero]
      decide
    · rw [fieldOrZero_head carried]
      omega
  rw [exec_query_front front wellFormed acts, if_pos refused, State.refuseQuery_front front.2.1]

/-- A query of its command's kind. -/
theorem exec_query_known (front : CommandFront .query f rest s) (wellFormed : c.wellFormed = true)
    (acts : effect c s = s.onQuery code (State.ofLength length act)) (carried : f.payload = kind :: args)
    (named : kind.toNat = code) (known : 1 ≤ code ∧ code ≤ 8) : exec c s = .next (State.ofLength length act f s) := by
  rw [exec_query_front front wellFormed acts, fieldOrZero_head carried, named, if_neg (by simpa [queryKindKnown] using known),
    if_pos rfl]

theorem exec_query_short (front : CommandFront .query f rest s) (wellFormed : c.wellFormed = true)
    (acts : effect c s = s.onQuery code (State.ofLength length act)) (carried : f.payload = kind :: args)
    (named : kind.toNat = code) (known : 1 ≤ code ∧ code ≤ 8) (wrong : args.length + 1 ≠ length) :
    exec c s = .next (answeredCommand f .range s) := by
  rw [exec_query_known front wellFormed acts carried named known, State.ofLength, if_neg (by simpa [carried] using wrong),
    State.refuseQuery_front front.2.1]

theorem exec_query_right (front : CommandFront .query f rest s) (wellFormed : c.wellFormed = true)
    (acts : effect c s = s.onQuery code (State.ofLength length act)) (carried : f.payload = kind :: args)
    (named : kind.toNat = code) (known : 1 ≤ code ∧ code ≤ 8) (right : args.length + 1 = length) :
    exec c s = .next (act f s) := by
  rw [exec_query_known front wellFormed acts carried named known, State.ofLength, if_pos (by simpa [carried] using right)]

/-- What follows the kind byte of a query. -/
theorem field_arguments (carried : f.payload = kind :: args) (n : Nat) : field f.payload 1 n = numberOf (args.take n) := by
  rw [carried, field, List.drop_one, List.tail_cons]

theorem State.reply_front (front : CommandFront .query f rest s) (carried : f.payload = kind :: args) (contents : List Byte) :
    s.replyQuery f contents = repliedQuery f (kind :: contents) s := by
  rw [State.replyQuery_front front.2.1, carried, List.take_succ_cons, List.take_zero, List.singleton_append]

end

/-! ### Each query -/

theorem Byte.toNat_ofNat {n : Nat} (small : n < 256) : (BitVec.ofNat 8 n).toNat = n := by simpa using small

theorem numberOf_singleton (b : Byte) : numberOf [b] = b.toNat := by simp [numberOf]

section
variable {f : InFrame} {rest : List InFrame} {s : State}

theorem exec_queryOrder_named {args : List Byte} (front : CommandFront .query f rest s) (carried : f.payload = 1 :: args)
    (three : args.length = 3) :
    exec .queryOrder s = .next (if numberOf args = 0 then answeredCommand f .range s
      else match s.findOrder (numberOf args) with
        | some r => repliedQuery f (1 :: r.bytes) s
        | none => answeredCommand f .unknownOrder s) := by
  rw [exec_query_right front rfl rfl carried rfl (by decide) (by omega), State.takeQueryOrder, field_arguments carried,
    List.take_of_length_le three.le]
  split
  · rw [State.refuseQuery_front front.2.1]
  · cases s.findOrder (numberOf args) with
    | some r => exact congrArg Host.Outcome.next (State.reply_front front carried r.bytes)
    | none => exact congrArg Host.Outcome.next (State.refuseQuery_front front.2.1 _)

theorem exec_queryBin_named {n : Byte} (front : CommandFront .query f rest s) (carried : f.payload = [2, n]) :
    exec .queryBin s = .next (match s.placeBytes n.toNat with
      | some record => repliedQuery f ([2] ++ record ++ bytesOf 1 s.sorter.queue.length ++ bytesOf 1 s.gateSelect.code ++
          bytesOf 1 s.sorter.capacity ++ bytesOf 2 s.sorter.generation) s
      | none => answeredCommand f .range s) := by
  rw [exec_query_right front rfl rfl carried rfl (by decide) rfl, State.takeQueryBin, field_arguments carried, List.take_succ_cons,
    List.take_zero, numberOf_singleton]
  cases s.placeBytes n.toNat with
  | some record =>
    refine congrArg Host.Outcome.next ((State.reply_front front carried _).trans ?_)
    simp [State.sorterBytes]
  | none => exact congrArg Host.Outcome.next (State.refuseQuery_front front.2.1 _)

theorem exec_queryPath_named {n : Byte} (front : CommandFront .query f rest s) (carried : f.payload = [3, n]) :
    exec .queryPath s = .next (if n.toNat ≤ 127 then
      repliedQuery f ([3] ++ bytesOf 1 s.path.queue.length ++ bytesOfInt 6 s.path.position ++
        bytesOf 1 ((s.path.queue.drop n.toNat).take 16).length ++ ((s.path.queue.drop n.toNat).take 16).flatMap Segment.bytes) s
      else answeredCommand f .range s) := by
  rw [exec_query_right front rfl rfl carried rfl (by decide) rfl, State.takeQueryPath, field_arguments carried, List.take_succ_cons,
    List.take_zero, numberOf_singleton]
  split
  · refine congrArg Host.Outcome.next ((State.reply_front front carried _).trans ?_)
    simp [bytesOfPosition, bytesOfList, State.pathPage]
  · exact congrArg Host.Outcome.next (State.refuseQuery_front front.2.1 _)

theorem State.placeBytes_eq_none {n : Nat} (outside : n = 0 ∨ 25 < n) : s.placeBytes n = none := by
  unfold State.placeBytes
  rcases outside with rfl | large
  · rfl
  · rw [if_neg (by omega), if_neg (by omega)]

/-- A query of no operands: its reply is the kind and the contents. -/
theorem exec_query_reply {c : Instr} {code : Nat} {contents : State → List Byte} {kind : Byte} (front : CommandFront .query f rest s)
    (wellFormed : c.wellFormed = true)
    (acts : effect c s = s.onQuery code (State.ofLength 1 fun f s => s.replyQuery f (contents s))) (carried : f.payload = [kind])
    (named : kind.toNat = code) (known : 1 ≤ code ∧ code ≤ 8) : exec c s = .next (repliedQuery f (kind :: contents s) s) := by
  rw [exec_query_right front wellFormed acts carried named known rfl, State.reply_front front carried]

end

/-- Settles O29: by the query, on the front frame: its REPLY and then its STATUS. -/
theorem queriesReplyAndChangeNothing : Obligations.QueriesReplyAndChangeNothing := by
  refine ⟨fun f rest s front => ⟨?order, ?bin, ?tray, ?path, ?monitor, ?run, ?alerts⟩, fun f rest s front => ⟨?unknown, ?zero, ?absent, ?noBin,
    ?noPage, fun args carried wrong => ?shortOrder, fun args carried wrong => ?shortBin, fun args carried wrong => ?shortPath,
    fun args carried wrong => ?shortMonitor, fun args carried wrong => ?shortRun, fun args carried wrong => ?shortTable,
    fun args carried wrong => ?shortCounters, fun args carried wrong => ?shortAlerts⟩⟩
  case order =>
    intro r number positive small carried found
    rw [exec_queryOrder_named front carried (length_bytesOf 3 number), numberOf_bytesOf (by simpa using small), if_neg (by omega), found]
  case bin =>
    intro n b carried inside bin
    have place : s.placeBytes (BitVec.ofNat 8 n).toNat = some b.bytes := by
      rw [Byte.toNat_ofNat (by omega), State.placeBytes, if_neg (by omega), if_pos inside, bin, Option.map_some]
    rw [exec_queryBin_named front carried, place]
  case tray =>
    intro carried
    have place : s.placeBytes (25 : Byte).toNat = some s.sorter.tray.bytes := rfl
    rw [exec_queryBin_named front carried, place]
  case path =>
    intro start inside carried page
    rw [exec_queryPath_named front carried, Byte.toNat_ofNat (by omega), if_pos inside]
  case monitor =>
    intro carried
    rw [exec_query_reply (contents := State.monitorBytes) front rfl rfl carried rfl (by decide)]
    simp [State.monitorBytes]
  case run =>
    intro carried
    rw [exec_query_reply (contents := fun s => s.runBytes ++ s.readerBytes ++ s.cutterBytes ++ s.linkBytes) front rfl rfl carried rfl
      (by decide)]
    simp
  case alerts =>
    intro carried
    exact exec_query_reply (contents := fun s => s.alerts.causes.flatMap CauseRecord.bytes) front rfl rfl carried rfl (by decide)
  case unknown =>
    intro c query unknown
    simp only [List.mem_cons, List.not_mem_nil, or_false] at query
    rcases query with rfl | rfl | rfl | rfl | rfl | rfl | rfl | rfl <;> exact exec_query_unknown front rfl rfl unknown
  case zero =>
    intro args carried three zero
    rw [exec_queryOrder_named front carried three, if_pos zero]
  case absent =>
    intro args carried three some absent
    rw [exec_queryOrder_named front carried three, if_neg some, absent]
  case noBin =>
    intro n carried outside
    rw [exec_queryBin_named front carried, State.placeBytes_eq_none (outside.imp_left fun zero => by rw [zero]; rfl)]
  case noPage =>
    intro n carried large
    rw [exec_queryPath_named front carried, if_neg (by omega)]
  case shortOrder => exact exec_query_short front rfl rfl carried rfl (by decide) (by omega)
  case shortBin => exact exec_query_short front rfl rfl carried rfl (by decide) (by omega)
  case shortPath => exact exec_query_short front rfl rfl carried rfl (by decide) (by omega)
  case shortMonitor => exact exec_query_short front rfl rfl carried rfl (by decide) (by simpa using wrong)
  case shortRun => exact exec_query_short front rfl rfl carried rfl (by decide) (by simpa using wrong)
  case shortTable => exact exec_query_short front rfl rfl carried rfl (by decide) (by omega)
  case shortCounters => exact exec_query_short front rfl rfl carried rfl (by decide) (by omega)
  case shortAlerts => exact exec_query_short front rfl rfl carried rfl (by decide) (by simpa using wrong)

/-! ### Pages of tables, and the counters -/

theorem State.table_eq_none {kind : Nat} {s : State} (unknown : kind = 0 ∨ 11 < kind) : s.table kind = none := by
  unfold State.table
  split
  case h_12 => rfl
  all_goals omega

theorem yesNoOf_of_lt {n : Nat} (large : 1 < n) : yesNoOf n = none := by
  match n with
  | 0 | 1 => omega
  | _ + 2 => rfl

theorem State.clearCounters_eq (s : State) : s.clearCounters =
    { s with alerts := { s.alerts with counters := List.replicate s.alerts.counters.length 0 } } := by
  simp [State.clearCounters]

/-- Settles O30: by the page that the entries give, and by the room for the REPLY. -/
theorem tablePagesAndCounters : Obligations.TablePagesAndCounters := by
  refine ⟨fun f rest kind start count s front carried kindLow startLow countLow => ?table, fun f rest option s front carried => ?counters⟩
  case table =>
    have acts : exec .queryTable s = .next (s.takeQueryTable f) := exec_query_right front rfl rfl carried rfl (by decide) rfl
    have kindField : field f.payload 1 1 = kind := by
      rw [carried]
      exact (numberOf_singleton _).trans (Byte.toNat_ofNat kindLow)
    have startField : field f.payload 2 1 = start := by
      rw [carried]
      exact (numberOf_singleton _).trans (Byte.toNat_ofNat startLow)
    have countField : field f.payload 3 1 = count := by
      rw [carried]
      exact (numberOf_singleton _).trans (Byte.toNat_ofNat countLow)
    rw [acts]
    simp only [State.takeQueryTable, kindField, startField, countField]
    refine ⟨fun unknown => ?_, fun t found => ⟨fun beyond => ?_, fun inside => ?_⟩⟩
    · rw [State.table_eq_none unknown]
      exact congrArg Host.Outcome.next (State.refuseQuery_front front.2.1 _)
    · rw [found]
      dsimp only
      rw [if_neg (by omega), State.refuseQuery_front front.2.1]
    · rw [found]
      dsimp only
      rw [if_pos inside, State.reply_front front carried]
      simp [tableBytes]
  case counters =>
    intro reply
    have acts : exec .queryCounters s = .next (s.takeQueryCounters f) := exec_query_right front rfl rfl carried rfl (by decide) rfl
    have optionField : field f.payload 1 1 = option.toNat := by
      rw [carried]
      exact numberOf_singleton _
    rw [acts, State.takeQueryCounters, optionField]
    refine ⟨fun unknown => ?_, ?_, ?_⟩
    · rw [yesNoOf_of_lt unknown]
      exact congrArg Host.Outcome.next (State.refuseQuery_front front.2.1 _)
    · rintro (rfl | ⟨rfl, full⟩)
      · exact congrArg Host.Outcome.next (State.reply_front front carried _)
      · have stays : (if true ∧ s.hasRoom then s.clearCounters else s) = s := if_neg (by simp [State.hasRoom, full])
        change Host.Outcome.next ((if true ∧ s.hasRoom then s.clearCounters else s).replyQuery f (s.alerts.counters.flatMap (bytesOf 4))) = _
        rw [stays, State.reply_front front carried]
    · rintro rfl room
      have clears : (if true ∧ s.hasRoom then s.clearCounters else s) = s.clearCounters := if_pos (by simp [State.hasRoom, room])
      change Host.Outcome.next ((if true ∧ s.hasRoom then s.clearCounters else s).replyQuery f (s.alerts.counters.flatMap (bytesOf 4))) = _
      rw [clears, State.reply_front (s := s.clearCounters) front carried, State.clearCounters_eq]

end Sys2Proof.Machine
end
section
/-!
PROOFS. Lines fitted to the paper width (section 3.5), and the Monitor's conversions (sections 5.2 to 5.5).
-/

namespace Sys2Proof.Machine

/-! ### Lines -/

/-- The bytes of a LINE's pixel: one of each colour (R172). -/
def Rgb.pixelBytes (v : Rgb) : List Byte := bytesOf 1 v.r ++ bytesOf 1 v.g ++ bytesOf 1 v.b

theorem length_flatMap_pixelBytes (pixels : List Rgb) : (pixels.flatMap Rgb.pixelBytes).length = 3 * pixels.length := by
  induction pixels with
  | nil => rfl
  | cons v pixels ih =>
    rw [List.flatMap_cons, List.length_append, ih]
    simp [Rgb.pixelBytes]
    omega

theorem pixelsOf_flatMap {pixels : List Rgb} (inRange : ∀ v ∈ pixels, v.r ≤ 255 ∧ v.g ≤ 255 ∧ v.b ≤ 255) :
    pixelsOf (pixels.flatMap Rgb.pixelBytes) = pixels := by
  induction pixels with
  | nil => rfl
  | cons v pixels ih =>
    obtain ⟨⟨red, green, blue⟩, others⟩ := List.forall_mem_cons.mp inRange
    obtain ⟨r, rBytes, rRead⟩ := exists_bytesOf_one (Nat.lt_succ_of_le red)
    obtain ⟨g, gBytes, gRead⟩ := exists_bytesOf_one (Nat.lt_succ_of_le green)
    obtain ⟨b, bBytes, bRead⟩ := exists_bytesOf_one (Nat.lt_succ_of_le blue)
    simp [Rgb.pixelBytes, rBytes, gBytes, bBytes, pixelsOf, rRead, gRead, bRead, ih others]

theorem linePixels_bytes {pixels : List Rgb} (few : pixels.length ≤ 3840)
    (inRange : ∀ v ∈ pixels, v.r ≤ 255 ∧ v.g ≤ 255 ∧ v.b ≤ 255) :
    linePixels (bytesOf 2 pixels.length ++ pixels.flatMap Rgb.pixelBytes) = pixels := by
  have count : field (bytesOf 2 pixels.length ++ pixels.flatMap Rgb.pixelBytes) 0 2 = pixels.length := by
    simpa using field_bytesOf [] (pixels.flatMap Rgb.pixelBytes) (n := 2) (v := pixels.length) (by omega)
  have length : (bytesOf 2 pixels.length ++ pixels.flatMap Rgb.pixelBytes).length = 2 + 3 * pixels.length := by
    rw [List.length_append, length_bytesOf, length_flatMap_pixelBytes]
  have behind : (bytesOf 2 pixels.length ++ pixels.flatMap Rgb.pixelBytes).drop 2 = pixels.flatMap Rgb.pixelBytes :=
    List.drop_left' (length_bytesOf 2 _)
  simp only [linePixels, count, length, behind]
  rw [if_pos ⟨by omega, few, trivial⟩, pixelsOf_flatMap inRange]

/-- Settles O38: by the length of the payload and the width. -/
theorem linesAreFittedToThePaper : Obligations.LinesAreFittedToThePaper := by
  refine ⟨fun width margin pixels => ⟨?length, fun i inside given => ?given, fun i inside beyond => ?padded, ?fitted⟩,
    fun pixels few inRange => linePixels_bytes few inRange, fun payload bad => ?bad⟩
  case length =>
    rw [fitLine, List.length_append, List.length_take, List.length_replicate]
    omega
  case given =>
    rw [fitLine, List.getElem?_append_left (by rw [List.length_take]; omega), List.getElem?_take_of_lt inside]
  case padded =>
    rw [fitLine, List.getElem?_append_right (by rw [List.length_take]; omega), List.getElem?_replicate, List.length_take,
      if_pos (by omega), marginPixel]
  case fitted => rw [fitLine, decide_eq_true_eq]
  case bad =>
    rw [linePixels]
    exact if_neg fun ⟨_, few, length⟩ => bad.elim (fun many => by omega) fun wrong => wrong length

/-! ### A reading is judged -/

theorem clampReading_eq (v : Int) : clampReading v = if v < -40 then -40 else if 240 < v then 240 else v := by
  unfold clampReading
  split
  · omega
  · split <;> omega

section
variable {c : Channel} {v : Int}

theorem Channel.judge_disabled (disabled : c.limits.enabled = false) :
    c.judge v = { channel := { c with reading := v, exceed := 0, state := .normal, armed := false }, trips := false, raises := false } :=
  if_pos (by simp [disabled])

theorem Channel.judge_enabled (enabled : c.limits.enabled = true) :
    c.judge v = match c.state with
      | .normal =>
        if c.exceedAfter v = c.limits.faultCount then
          { channel := { c with reading := v, exceed := c.exceedAfter v, state := .tripped, armed := false }, trips := true,
            raises := true }
        else { channel := { c with reading := v, exceed := c.exceedAfter v }, trips := false, raises := false }
      | .tripped =>
        if c.limits.within v then
          { channel := { c with reading := v, exceed := c.exceedAfter v, state := .normal, armed := false }, trips := false,
            raises := decide (c.limits.mode = .twoTimes ∧ c.armed) }
        else
          { channel := { c with reading := v, exceed := c.exceedAfter v }, trips := false,
            raises := decide (c.limits.mode = .comparator ∧ c.armed) } :=
  if_neg (by simp [enabled])

theorem Channel.exceedAfter_eq (c : Channel) (v : Int) : c.exceedAfter v =
    if ¬ (c.limits.hiTrip < v ∨ v < c.limits.loTrip) then 0
    else if c.exceed = c.limits.faultCount then c.limits.faultCount else c.exceed + 1 := by
  unfold Channel.exceedAfter ChannelLimits.outside
  by_cases out : c.limits.hiTrip < v ∨ v < c.limits.loTrip
  · rw [if_pos (decide_eq_true out), if_neg (not_not_intro out)]
    split
    · next full => rw [full]
    · rfl
  · rw [if_neg (by simpa using out), if_pos out]

end

/-! ### A conversion -/

/-- A raise and another content of the Monitor, in whichever order. -/
theorem State.raise_withMonitor (c : Cause) (s : State) (monitor : MonitorUnit) :
    ({ s with monitor := monitor } : State).raise c = { s.raise c with monitor := monitor } := by
  unfold State.raise State.reportCause State.report State.queueFrame State.setCause State.cause
  dsimp only
  repeat' split
  all_goals rfl

theorem State.nextConversion_raise (c : Cause) (s : State) : (s.raise c).nextConversion = s.nextConversion.raise c := by
  have monitor : (s.raise c).monitor = s.monitor := by simp
  rw [State.nextConversion, monitor]
  exact (State.raise_withMonitor c s _).symm

theorem channelCause_eq {i : Nat} (inside : i < 4) :
    channelCause i = if i = 0 then .monHeadR else if i = 1 then .monHeadG else if i = 2 then .monHeadB else .monDev := by
  interval_cases i <;> rfl

/-- A conversion's judgement without what a trip marks: the channel, its cause and the next conversion. -/
def State.judged (v : Int) (c : Channel) (s : State) : State :=
  let i := s.monitor.converting
  let j := c.judge (clampReading v)
  let judged : State :=
    { s with
      now := max s.now s.monitor.conversionDue
      monitor := { s.monitor with
        channels := s.monitor.channels.set i j.channel
        converting := if i = 3 then 0 else i + 1
        conversionDue := s.monitor.conversionDue + 25000 } }
  if j.raises then judged.raise
    (if i = 0 then .monHeadR else if i = 1 then .monHeadG else if i = 2 then .monHeadB else .monDev) else judged

theorem State.judged_keeps (v : Int) (c : Channel) (s : State) :
    (s.judged v c).path = s.path ∧ (s.judged v c).reader = s.reader := by
  unfold State.judged
  dsimp only
  split <;> simp

theorem State.takeConversion_eq {v : Int} {c : Channel} {s : State} (converting : s.monitor.channels[s.monitor.converting]? = some c)
    (four : s.monitor.channels.length = 4) :
    s.takeConversion v =
      if (c.judge (clampReading v)).trips then (s.judged v c).actOnTrip s.monitor.converting else s.judged v c := by
  obtain ⟨inside, -⟩ := List.getElem?_eq_some_iff.mp converting
  have cycle : (s.monitor.converting + 1) % 4 = if s.monitor.converting = 3 then 0 else s.monitor.converting + 1 := by
    split <;> omega
  have marks : ∀ (t : State), (t.actOnTrip s.monitor.converting).nextConversion = t.nextConversion.actOnTrip s.monitor.converting :=
    fun t => by
      have same : t.nextConversion.exposing = t.exposing := rfl
      unfold State.actOnTrip
      rw [same]
      split
      · rfl
      · split <;> rfl
  have next : (if (c.judge (clampReading v)).raises then
        (State.setChannel s.monitor.converting (c.judge (clampReading v)).channel { s with now := max s.now s.monitor.conversionDue }).raise
          (channelCause s.monitor.converting)
      else State.setChannel s.monitor.converting (c.judge (clampReading v)).channel
        { s with now := max s.now s.monitor.conversionDue }).nextConversion = s.judged v c := by
    unfold State.judged
    dsimp only
    rw [← channelCause_eq (by omega), ← cycle]
    split
    · rw [State.nextConversion_raise]
      rfl
    · rfl
  simp only [State.takeConversion, State.judgeChannel, converting]
  rw [← next]
  split
  · exact marks _
  · rfl

/-- Settles O44: by the exceed counter, the state and the mode of the channel; a conversion then marks, raises and goes on. -/
theorem conversionJudgesItsChannel : Obligations.ConversionJudgesItsChannel := by
  refine ⟨fun c v => ?judgement, fun v c s out converting four => ?conversion⟩
  case judgement =>
    intro reading outside within n exceed
    have clamped : clampReading v = reading := clampReading_eq v
    have counted : c.exceedAfter reading = exceed := c.exceedAfter_eq reading
    rw [clamped]
    refine ⟨fun disabled => c.judge_disabled disabled, fun enabled normal below => ?_, fun enabled normal full => ?_,
      fun enabled tripped recovers => ?_, fun enabled tripped stays => ?_⟩
    · rw [c.judge_enabled enabled, normal, counted]
      exact if_neg below
    · rw [c.judge_enabled enabled, normal, counted]
      exact if_pos full
    · have inside : c.limits.within reading = true := decide_eq_true recovers
      rw [c.judge_enabled enabled, tripped, counted]
      dsimp only
      rw [if_pos inside]
      simp
    · have beyond : c.limits.within reading = false := decide_eq_false stays
      rw [c.judge_enabled enabled, tripped, counted]
      dsimp only
      rw [if_neg (by simp [beyond])]
      simp
  case conversion =>
    intro i j judged raised
    have acts : exec (.conversion v) s = .next (s.takeConversion v) := State.event_of_not_inReset out
    have same : raised = s.judged v c := rfl
    obtain ⟨path, reader⟩ := s.judged_keeps v c
    rw [acts, State.takeConversion_eq converting four, same]
    refine ⟨fun stays => ?_, fun trips dev => ?_, fun trips head dark => ?_, fun g queue trips head exposing newest => ?_⟩
    · rw [if_neg (by simpa using stays)]
    · rw [if_pos trips, State.actOnTrip, if_pos dev]
      simp [State.markZone, State.mapSegments, Segment.overlaps, Segment.flagChem, path]
    · rw [if_pos trips, State.actOnTrip, if_neg head, if_neg (by simp [State.exposing, reader, dark])]
    · rw [if_pos trips, State.actOnTrip, if_neg head, if_pos (by rw [State.exposing, reader, exposing])]
      simp [State.noteHead, State.modifyHead, path, newest, modifyLast_append]

end Sys2Proof.Machine
end
section
/-!
PROOFS. The halt of a run (section 2.3): what it leaves; the cut that is given up (section 6.4) and the stop inputs (section 9.4).
-/

namespace Sys2Proof.Machine

/-! ### The paper stops -/

theorem modifyLast_modifyLast {α : Type} (f g : α → α) (l : List α) : modifyLast f (modifyLast g l) = modifyLast (f ∘ g) l := by
  rcases List.eq_nil_or_concat l with rfl | ⟨front, a, rfl⟩
  · rfl
  · simp

/-- The head segment where the paper stops: it is cut short, and is flagged ABORTED if a print is exposing in it (R27, R35). -/
def Segment.stopped (exposing : Bool) (g : Segment) : Segment :=
  { g with planned := g.length, flags := { g.flags with aborted := g.flags.aborted || exposing } }

theorem State.stopStepping_eq (s : State) :
    s.stopStepping = { s with
      exposure := { s.exposure with drive := [] }
      path := { s.path with queue := modifyLast (Segment.stopped false) s.path.queue } } := by
  have same : Segment.cutShort = Segment.stopped false := funext fun g => by simp [Segment.cutShort, Segment.stopped]
  rw [State.stopStepping, same]
  rfl

/-- The reader where the exposure ends (R35, R64). -/
def Reader.darkened (r : Reader) : Reader :=
  { r with
    source := none
    lastLine := if r.source.isSome then none else r.lastLine
    mode := if r.source.isSome ∧ r.mode = .feeding then .discarding else r.mode }

theorem Reader.darkened_dark {r : Reader} (dark : r.source = none) : r.darkened = r := by
  obtain ⟨mode, staged, source, lastLine, awaited⟩ := r
  subst dark
  simp [Reader.darkened]

theorem Segment.stopped_abort : Segment.stopped false ∘ Segment.flagAborted = Segment.stopped true :=
  funext fun g => by simp [Segment.stopped, Segment.flagAborted]

theorem State.endExposure_stopStepping (s : State) :
    s.endExposure.stopStepping = { s with
      exposure := { s.exposure with drive := [] }
      reader := s.reader.darkened
      path := { s.path with queue := modifyLast (Segment.stopped s.reader.source.isSome) s.path.queue } } := by
  cases source : s.reader.source with
  | none =>
    have dark : s.endExposure = s := if_neg (by simp [State.exposing, source])
    rw [dark, State.stopStepping_eq, Reader.darkened_dark source]
    rfl
  | some a =>
    have lit : s.endExposure = State.modifyHead Segment.flagAborted { s with reader := s.reader.darkened } := by
      simp [State.endExposure, State.exposing, source, Reader.darkened]
    rw [lit, State.stopStepping_eq]
    simp [State.modifyHead, modifyLast_modifyLast, Segment.stopped_abort]

theorem State.halt_eq (cause : HaltCause) (s : State) :
    s.halt cause = { s with
      exposure := { s.exposure with drive := [] }
      reader := s.reader.darkened
      path := { s.path with
        run := .halted, haltCause := some cause, drainCause := none
        dwell := .running (s.now + s.path.params.tDwell * 1000000)
        queue := modifyLast (Segment.stopped s.reader.source.isSome) s.path.queue } } := by
  rw [State.halt, State.endExposure_stopStepping]

theorem State.haltIfMoving_moving {s : State} (cause : HaltCause) (moving : s.stepping = true) :
    s.haltIfMoving cause = s.halt cause := if_pos moving

theorem State.haltIfMoving_still {s : State} (cause : HaltCause) (still : s.stepping = false) : s.haltIfMoving cause = s :=
  if_neg (by simp [still])

/-- What the halt of a run does not touch in the segments. -/
theorem State.map_queue_haltIfMoving {β : Type} (cause : HaltCause) (s : State) {view : Segment → β}
    (blind : ∀ exposing g, view (Segment.stopped exposing g) = view g) :
    (s.haltIfMoving cause).path.queue.map view = s.path.queue.map view := by
  unfold State.haltIfMoving
  split
  · rw [State.halt_eq]
    exact map_modifyLast view _ (blind _) _
  · rfl

/-! ### The cut that is given up -/

theorem State.cause_congr {s t : State} (same : s.alerts = t.alerts) (c : Cause) : s.cause c = t.cause c := by
  rw [State.cause, State.cause, same]

theorem State.markLate_record_queue (start : Int) (s : State) :
    (s.markLate (.record start)).path.queue = s.path.queue.map fun g =>
      { g with
        lead := if g.start = start then .late else g.lead
        flags := { g.flags with miscut := g.flags.miscut || decide (g.start = start ∨ g.start + g.length = start) } } := by
  simp only [State.markLate, State.mapAdjacent, State.setLead, State.mapSegments, List.map_map]
  refine List.map_congr_left fun g _ => ?_
  by_cases front : g.start = start <;> by_cases back : g.start + g.length = start <;>
    simp [Segment.flagMiscut, front, back]

/-- What of a segment the end of a cut touches, and where it stands. -/
def Segment.boundaryView (g : Segment) : Int × Nat × LeadState × Bool := (g.start, g.length, g.lead, g.flags.miscut)

/-- The cut in progress given up: the clock stands at its time at least, and its entry bears the retry mark (R111). -/
def State.withCutGivenUp (p : CutProgress) (e : CutEntry) (rest : List CutEntry) (s : State) : State :=
  { s with
    now := max s.now p.due, cutter := { s.cutter with progress := none, cutList := { e with retry := true } :: rest } }

/-- Settles O41: by the boundary whose cut is given up, and by whether the run moves. -/
theorem cutTimeoutGivesTheCutUp : Obligations.CutTimeoutGivesTheCutUp := by
  intro p e rest s out progress cuts twenty
  obtain ⟨given, given_eq⟩ : ∃ given, given = s.withCutGivenUp p e rest := ⟨_, rfl⟩
  have acts : exec .cutTimeout s = .next (((given.markLate e.boundary).raise .cutterFault).haltIfMoving .cutter) := by
    rw [exec_of_not_inReset rfl out]
    simp only [effect, State.giveUpCut, progress, cuts, given_eq]
    rfl
  have causes : ∀ c, ((((given.markLate e.boundary).raise .cutterFault).haltIfMoving .cutter)).cause c =
      ((given.markLate e.boundary).raise .cutterFault).cause c := fun c => State.cause_congr (by simp) c
  have marked : ∀ c, (given.markLate e.boundary).cause c = s.cause c := fun c => State.cause_congr (by simp [given_eq, State.withCutGivenUp]) c
  have raised := fun c => State.cause_raise .cutterFault c (s := given.markLate e.boundary) (by simpa [given_eq, State.withCutGivenUp] using twenty)
  have stepping : ((given.markLate e.boundary).raise .cutterFault).stepping = s.stepping := by simp [State.stepping, given_eq, State.withCutGivenUp]
  rw [State.withCutGivenUp] at given_eq
  refine ⟨_, acts, by simp [given_eq], ?_, ?_, fun c other => ?_, fun moving => ?_, fun still => ?_, fun start record i g here => ?_, ?_⟩
  · rw [causes, raised, if_pos rfl]
  · rw [causes, raised, if_pos rfl, marked]
  · rw [causes, raised, if_neg other, marked]
  · rw [State.haltIfMoving_moving _ (stepping.trans moving), State.halt_eq]
    simp [given_eq]
  · rw [State.haltIfMoving_still _ (stepping.trans still)]
    simp [given_eq]
  · rw [record]
    have queue := State.map_queue_haltIfMoving .cutter ((given.markLate (.record start)).raise .cutterFault)
      (view := Segment.boundaryView) fun exposing g => rfl
    have raisedQueue : ((given.markLate (.record start)).raise .cutterFault).path.queue = (given.markLate (.record start)).path.queue := by simp
    rw [raisedQueue, State.markLate_record_queue] at queue
    have there := congrArg (fun l => l[i]?) queue
    have standing : given.path.queue = s.path.queue := by rw [given_eq]
    simp only [List.getElem?_map, standing, here, Option.map_some] at there
    obtain ⟨h, found, same⟩ := Option.map_eq_some_iff.mp there
    simp only [Segment.boundaryView, Prod.mk.injEq] at same
    exact ⟨h, found, same⟩
  · simp [given_eq]

end Sys2Proof.Machine
end

section
/-!
PROOFS. The stop inputs and how the sampled inputs are qualified (sections 9.4, 7.4 and 7.6).
-/

namespace Sys2Proof.Machine

/-! ### A stop input takes a new level -/

/-- A stop input's new level, by itself. -/
theorem State.setStopLevel_levels (input : StopInput) (level : Bool) (s : State) :
    (s.setStopLevel input level).stopLevel input = level ∧ (s.setStopLevel input level).alerts.causes = s.alerts.causes ∧
      (s.setStopLevel input level).alerts.counters = s.alerts.counters ∧
      s.setStopLevel input level = { s with alerts := (s.setStopLevel input level).alerts } := by
  cases input <;> exact ⟨rfl, rfl, rfl, rfl⟩

theorem State.stopLevel_congr {s t : State} (estop : s.alerts.estop = t.alerts.estop) (jam : s.alerts.jam = t.alerts.jam)
    (input : StopInput) : s.stopLevel input = t.stopLevel input := by
  cases input
  · exact congrArg Qualifier.level estop
  · exact congrArg Qualifier.level jam

theorem State.takeStopInput_active {input : StopInput} {s : State} (inactive : s.stopLevel input = false) :
    s.takeStopInput input true = ((s.setStopLevel input true).raise (stopCause input).1).haltIfMoving (stopCause input).2 := by
  simp [State.takeStopInput, inactive]

theorem State.takeStopInput_inactive {input : StopInput} {s : State} (active : s.stopLevel input = true) :
    s.takeStopInput input false = s.setStopLevel input false := by
  simp [State.takeStopInput, active]

/-! ### Samples -/

/-- A sample is the last one, and is the qualified level once three agree (R126). -/
theorem Qualifier.sample_eq (b : Bool) (q : Qualifier) : q.sample b =
    { level := if 3 ≤ (q.take b).agreeing then b else q.level, last := b, agreeing := (q.take b).agreeing } := by
  have last : (q.take b).last = b := rfl
  have level : (q.take b).level = q.level := rfl
  have kept : q.take b = ⟨q.level, b, (q.take b).agreeing⟩ := rfl
  simp only [Qualifier.sample, Qualifier.qualifies, last, level]
  by_cases enough : 3 ≤ (q.take b).agreeing
  · by_cases same : b = q.level
    · rw [if_neg (by simp [same]), if_pos enough]
      exact kept.trans (congrArg (fun level => Qualifier.mk level b (q.take b).agreeing) same.symm)
    · rw [if_pos (by simp [enough, same]), if_pos enough]
  · rw [if_neg (by simp [enough]), if_neg enough, ← kept]

theorem Qualifier.take_agreeing (b : Bool) (q : Qualifier) :
    (q.take b).agreeing = if b = q.last then saturate 3 q.agreeing else 1 := rfl

/-- Three samples that agree make the qualified level. -/
theorem Qualifier.sample_thrice (b : Bool) (q : Qualifier) : (((q.sample b).sample b).sample b).level = b := by
  have third : 3 ≤ (((q.sample b).sample b).take b).agreeing := by
    simp only [Qualifier.sample_eq, Qualifier.take_agreeing, saturate, if_true]
    repeat' split
    all_goals omega
  rw [Qualifier.sample_eq _ ((q.sample b).sample b), if_pos third]

/-- One sample or two of another level leave the qualified level, and so does the count begun afresh. -/
theorem Qualifier.sample_twice {q : Qualifier} (settled : q.last = q.level) :
    (q.sample (!q.level)).level = q.level ∧ ((q.sample (!q.level)).sample (!q.level)).level = q.level ∧
      (((q.sample (!q.level)).sample (!q.level)).sample q.level).level = q.level := by
  have changed : ¬ (!q.level) = q.level := by simp
  simp [Qualifier.sample_eq, Qualifier.take_agreeing, settled, saturate]

theorem Qualifier.take_eq (b : Bool) (q : Qualifier) : q.take b =
    { level := q.level, last := b
      agreeing := if b = q.last then (if q.agreeing < 3 then q.agreeing + 1 else q.agreeing) else 1 } := rfl

/-! ### What one microsecond samples and posts -/

theorem mem_watchLine {pins : Pins} {s : State} {c : Instr} (posted : c ∈ (s.watchLine pins).2) :
    c = .linkReset ∨ c = .lineReturnsToMarking := by
  unfold State.watchLine at posted
  dsimp only at posted
  split at posted
  · split at posted
    · cases posted
    · dsimp only at posted
      split at posted
      · exact .inl (List.mem_singleton.mp posted)
      · cases posted
  · split at posted
    · exact .inr (List.mem_singleton.mp posted)
    · cases posted

/-- What the samples of the stop inputs post at a microsecond. -/
def State.stopsPosted (pins : Pins) (s : State) : List Instr :=
  if (s.now + 1) % 1000 = 0 then
    stopEvent .estop (s.alerts.estop.take pins.estop) ++ stopEvent .jam (s.alerts.jam.take pins.jam)
  else []

/-- What the samples of the Sorter Unit's inputs post at a microsecond. -/
def State.placesPosted (pins : Pins) (s : State) : List Instr :=
  if (s.now + 1) % 2000 = 0 then
    (risen s.sorter.dropInputs (sampleAll pins.drops s.sorter.dropInputs)).map Instr.drop ++
      (risen s.sorter.clearInputs (sampleAll pins.clears s.sorter.clearInputs)).map clearCommand
  else []

theorem State.watchLine_keeps (pins : Pins) (s : State) : (s.advanceClock.watchLine pins).1.now = s.now + 1 ∧
    (s.advanceClock.watchLine pins).1.alerts = s.alerts ∧ (s.advanceClock.watchLine pins).1.sorter = s.sorter := by
  unfold State.watchLine
  split
  · split <;> exact ⟨rfl, rfl, rfl⟩
  · exact ⟨rfl, rfl, rfl⟩

theorem State.sampleStops_keeps (pins : Pins) (s : State) :
    (s.sampleStops pins).1.now = s.now ∧ (s.sampleStops pins).1.sorter = s.sorter := by
  unfold State.sampleStops
  split <;> exact ⟨rfl, rfl⟩

/-- What one microsecond posts: the line's events, then those of the stop inputs, then those of the places. -/
theorem State.tickWith_pending (pins : Pins) (s : State) :
    (s.tickWith pins).pending = (s.advanceClock.watchLine pins).2 ++ s.stopsPosted pins ++ s.placesPosted pins := by
  obtain ⟨now, alerts, sorter⟩ := s.watchLine_keeps pins
  have stops : ((s.advanceClock.watchLine pins).1.sampleStops pins).2 = s.stopsPosted pins := by
    simp only [State.sampleStops, State.stopsPosted, now, alerts]
    exact apply_ite Prod.snd _ _ _
  have places : (((s.advanceClock.watchLine pins).1.sampleStops pins).1.sampleSorter pins).2 = s.placesPosted pins := by
    obtain ⟨stillNow, stillSorter⟩ := (s.advanceClock.watchLine pins).1.sampleStops_keeps pins
    simp only [State.sampleSorter, State.placesPosted, stillNow, stillSorter, now, sorter]
    exact apply_ite Prod.snd _ _ _
  rw [← stops, ← places]
  rfl

theorem State.tickWith_alerts (pins : Pins) (s : State) :
    (s.tickWith pins).alerts = if (s.now + 1) % 1000 = 0 then
      { s.alerts with estop := s.alerts.estop.take pins.estop, jam := s.alerts.jam.take pins.jam } else s.alerts := by
  obtain ⟨now, alerts, -⟩ := s.watchLine_keeps pins
  have kept : ∀ t : State, (t.sampleSorter pins).1.alerts = t.alerts := fun t => by
    unfold State.sampleSorter
    split <;> rfl
  change (((s.advanceClock.watchLine pins).1.sampleStops pins).1.sampleSorter pins).1.alerts = _
  rw [kept]
  simp only [State.sampleStops, now, alerts]
  split
  · rfl
  · exact alerts

theorem State.tickWith_sorter (pins : Pins) (s : State) :
    (s.tickWith pins).sorter = if (s.now + 1) % 2000 = 0 then
      { s.sorter with
        dropInputs := sampleAll pins.drops s.sorter.dropInputs
        clearInputs := sampleAll pins.clears s.sorter.clearInputs } else s.sorter := by
  obtain ⟨now, -, sorter⟩ := s.watchLine_keeps pins
  obtain ⟨stillNow, stillSorter⟩ := (s.advanceClock.watchLine pins).1.sampleStops_keeps pins
  change (((s.advanceClock.watchLine pins).1.sampleStops pins).1.sampleSorter pins).1.sorter = _
  simp only [State.sampleSorter, stillNow, stillSorter, now, sorter]
  split
  · rfl
  · exact stillSorter.trans sorter

theorem clearCommand_injective {a b : Nat} (same : clearCommand a = clearCommand b) : a = b := by
  unfold clearCommand at same
  split at same <;> split at same
  · omega
  · cases same
  · cases same
  · exact Instr.binClear.inj same

theorem clearCommand_succ (i : Nat) : clearCommand (i + 1) = if i = 24 then Instr.trayClear else .binClear (i + 1) := by
  simp [clearCommand]

theorem mem_stopsPosted {pins : Pins} {s : State} {c : Instr} : c ∈ s.stopsPosted pins ↔
    (s.now + 1) % 1000 = 0 ∧ (c ∈ stopEvent .estop (s.alerts.estop.take pins.estop) ∨
      c ∈ stopEvent .jam (s.alerts.jam.take pins.jam)) := by
  unfold State.stopsPosted
  split
  · next sampled => simp [sampled]
  · next between => simp [between]

theorem mem_placesPosted {pins : Pins} {s : State} {c : Instr} : c ∈ s.placesPosted pins ↔
    (s.now + 1) % 2000 = 0 ∧
      ((∃ n ∈ risen s.sorter.dropInputs (sampleAll pins.drops s.sorter.dropInputs), .drop n = c) ∨
        ∃ n ∈ risen s.sorter.clearInputs (sampleAll pins.clears s.sorter.clearInputs), clearCommand n = c) := by
  unfold State.placesPosted
  split
  · next sampled => simp [sampled]
  · next between => simp [between]

/-- A command that the samples of the Sorter Unit's inputs post. -/
def OfPlace (c : Instr) : Prop := (∃ n, c = .drop n) ∨ ∃ n, c = clearCommand n

theorem clearCommand_cases (n : Nat) : clearCommand n = .trayClear ∨ clearCommand n = .binClear n := by
  unfold clearCommand
  split
  · exact .inl rfl
  · exact .inr rfl

theorem drop_ne_clearCommand (m n : Nat) : Instr.drop m ≠ clearCommand n := by
  rcases clearCommand_cases n with h | h <;> simp [h]

theorem ofPlace_of_mem_placesPosted {pins : Pins} {s : State} {c : Instr} (posted : c ∈ s.placesPosted pins) : OfPlace c := by
  obtain ⟨-, ⟨n, -, rfl⟩ | ⟨n, -, rfl⟩⟩ := mem_placesPosted.mp posted
  · exact .inl ⟨n, rfl⟩
  · exact .inr ⟨n, rfl⟩

theorem ofStop_of_mem_stopsPosted {pins : Pins} {s : State} {c : Instr} (posted : c ∈ s.stopsPosted pins) :
    ∃ input active, c = .estopJamInput input active := by
  obtain ⟨-, h | h⟩ := mem_stopsPosted.mp posted
  · exact ⟨_, _, ((mem_stopEvent _ _ _).mp h).1⟩
  · exact ⟨_, _, ((mem_stopEvent _ _ _).mp h).1⟩

theorem OfPlace.ne_estopJamInput {c : Instr} (place : OfPlace c) (input : StopInput) (active : Bool) :
    c ≠ .estopJamInput input active := by
  rcases place with ⟨n, rfl⟩ | ⟨n, rfl⟩
  · simp
  · rcases clearCommand_cases n with h | h <;> simp [h]

theorem OfPlace.not_mem_watchLine {c : Instr} (place : OfPlace c) (pins : Pins) (s : State) : c ∉ (s.watchLine pins).2 := by
  intro posted
  rcases mem_watchLine posted with rfl | rfl <;> rcases place with ⟨n, h⟩ | ⟨n, h⟩ <;> rcases clearCommand_cases n with k | k <;>
    simp [k] at h

/-- The commands of the stop inputs are posted by their samples alone. -/
theorem estopJamInput_mem_pending {pins : Pins} {s : State} {input : StopInput} {active : Bool} :
    .estopJamInput input active ∈ (s.tickWith pins).pending ↔ .estopJamInput input active ∈ s.stopsPosted pins := by
  have line : .estopJamInput input active ∉ (s.advanceClock.watchLine pins).2 := fun posted => by
    rcases mem_watchLine posted with h | h <;> cases h
  have places : .estopJamInput input active ∉ s.placesPosted pins := fun posted =>
    (ofPlace_of_mem_placesPosted posted).ne_estopJamInput input active rfl
  rw [State.tickWith_pending, List.mem_append, List.mem_append]
  simp [line, places]

/-- The commands of the places are posted by their samples alone. -/
theorem place_mem_pending {pins : Pins} {s : State} {c : Instr} (place : OfPlace c) :
    c ∈ (s.tickWith pins).pending ↔ c ∈ s.placesPosted pins := by
  have stops : c ∉ s.stopsPosted pins := fun posted => by
    obtain ⟨input, active, h⟩ := ofStop_of_mem_stopsPosted posted
    exact place.ne_estopJamInput input active h
  rw [State.tickWith_pending, List.mem_append, List.mem_append]
  simp [place.not_mem_watchLine, stops]

theorem succ_mem_risen {before : List Qualifier} {samples : List Bool} {i : Nat} {q : Qualifier} (input : before[i]? = some q) :
    i + 1 ∈ risen before (sampleAll samples before) ↔ q.level = false ∧ (q.sample (samples.getD i false)).level = true := by
  rw [mem_risen]
  constructor
  · rintro ⟨j, q', r, place, was, is, low, high⟩
    obtain rfl := Nat.succ.inj place
    rw [input, Option.some.injEq] at was
    rw [sampleAll_getElem? input, Option.some.injEq] at is
    subst was is
    exact ⟨low, high⟩
  · rintro ⟨low, high⟩
    exact ⟨i, q, _, rfl, input, sampleAll_getElem? input, low, high⟩

theorem drop_mem_placesPosted {pins : Pins} {s : State} {n : Nat} (sampled : (s.now + 1) % 2000 = 0) :
    .drop n ∈ s.placesPosted pins ↔ n ∈ risen s.sorter.dropInputs (sampleAll pins.drops s.sorter.dropInputs) := by
  rw [mem_placesPosted]
  constructor
  · rintro ⟨-, ⟨m, rises, h⟩ | ⟨m, -, h⟩⟩
    · exact Instr.drop.inj h ▸ rises
    · exact absurd h.symm (drop_ne_clearCommand n m)
  · exact fun rises => ⟨sampled, .inl ⟨n, rises, rfl⟩⟩

theorem clear_mem_placesPosted {pins : Pins} {s : State} {n : Nat} (sampled : (s.now + 1) % 2000 = 0) :
    clearCommand n ∈ s.placesPosted pins ↔ n ∈ risen s.sorter.clearInputs (sampleAll pins.clears s.sorter.clearInputs) := by
  rw [mem_placesPosted]
  constructor
  · rintro ⟨-, ⟨m, -, h⟩ | ⟨m, rises, h⟩⟩
    · exact absurd h (drop_ne_clearCommand m n)
    · exact clearCommand_injective h ▸ rises
  · exact fun rises => ⟨sampled, .inr ⟨n, rises, rfl⟩⟩

theorem step_tick {s : State} (empty : s.pending = []) (out : s.inReset = false)
    (waits : s.nextCommand (Config.pinsAt s.now) = none) : step s = .next (s.tickWith (Config.pinsAt (s.now + 1))) := by
  simp [step, empty, State.idle, out, waits]

theorem OfPlace.drop (n : Nat) : OfPlace (.drop n) := .inl ⟨n, rfl⟩

theorem OfPlace.clear (n : Nat) : OfPlace (clearCommand n) := .inr ⟨n, rfl⟩

/-- Between two samples of the Sorter Unit's inputs no command of theirs is posted. -/
theorem mem_tickWith_between {pins : Pins} {s : State} {c : Instr} (between : (s.now + 1) % 2000 ≠ 0)
    (posted : c ∈ (s.tickWith pins).pending) :
    c = .linkReset ∨ c = .lineReturnsToMarking ∨ ∃ input active, c = .estopJamInput input active := by
  rw [State.tickWith_pending, State.placesPosted, if_neg between, List.append_nil, List.mem_append] at posted
  rcases posted with line | stop
  · exact (mem_watchLine line).imp_right .inl
  · exact .inr (.inr (ofStop_of_mem_stopsPosted stop))

/-- Of the stop inputs' posts, the emergency stop's stands before the jam's. -/
theorem estop_before_jam {pins : Pins} {s : State} {a b : Bool} (estop : .estopJamInput .estop a ∈ (s.tickWith pins).pending)
    (jam : .estopJamInput .jam b ∈ (s.tickWith pins).pending) :
    List.Sublist [.estopJamInput .estop a, .estopJamInput .jam b] (s.tickWith pins).pending := by
  rw [estopJamInput_mem_pending, mem_stopsPosted] at estop jam
  obtain ⟨sampled, estop⟩ := estop
  obtain ⟨-, jam⟩ := jam
  have first : .estopJamInput .estop a ∈ stopEvent .estop (s.alerts.estop.take pins.estop) := by
    refine estop.resolve_right fun other => ?_
    cases ((mem_stopEvent _ _ _).mp other).1
  have second : .estopJamInput .jam b ∈ stopEvent .jam (s.alerts.jam.take pins.jam) := by
    refine jam.resolve_left fun other => ?_
    cases ((mem_stopEvent _ _ _).mp other).1
  have both := (List.singleton_sublist.mpr first).append (List.singleton_sublist.mpr second)
  rw [State.tickWith_pending, State.stopsPosted, if_pos sampled]
  exact (both.trans (List.sublist_append_right _ _)).trans (List.sublist_append_left _ _)

/-- Settles O46: by whether the level changes and the run moves; and by the window of three samples of each input. -/
theorem stopInputHaltsTheRun : Obligations.StopInputHaltsTheRun := by
  refine ⟨fun input s out twenty => ?level, fun b q => ⟨Qualifier.sample_thrice b q, fun settled => Qualifier.sample_twice settled⟩,
    fun s empty out waits => ?samples⟩
  case level =>
    intro cause haltCause
    have acts : ∀ active, exec (.estopJamInput input active) s = .next (s.takeStopInput input active) :=
      fun active => State.event_of_not_inReset out
    refine ⟨fun inactive => ?_, fun active => ?_⟩
    · obtain ⟨levelled, levelled_eq⟩ : ∃ t, t = s.setStopLevel input true := ⟨_, rfl⟩
      obtain ⟨level, causes, -, rest⟩ := s.setStopLevel_levels input true
      rw [← levelled_eq] at level causes rest
      have named : stopCause input = (cause, haltCause) := by cases input <;> rfl
      have halted : s.takeStopInput input true = (levelled.raise cause).haltIfMoving haltCause := by
        rw [State.takeStopInput_active inactive, ← levelled_eq, named]
      have before : ∀ c, levelled.cause c = s.cause c := fun c => by rw [State.cause, State.cause, causes]
      have after : ∀ c, ((levelled.raise cause).haltIfMoving haltCause).cause c = (levelled.raise cause).cause c :=
        fun c => State.cause_congr (by simp) c
      have stepping : (levelled.raise cause).stepping = s.stepping := by
        rw [State.stepping, State.stepping, rest]
        simp
      refine ⟨_, acts true, ?_, ?_, fun c other => ?_, fun moving => ?_, fun still => ?_, ?_⟩ <;> rw [halted]
      · exact (State.stopLevel_congr (by simp) (by simp) input).trans level
      · rw [after, State.cause_raise cause cause (causes ▸ twenty), if_pos rfl]
      · rw [after, State.cause_raise_of_ne other, before]
      · rw [State.haltIfMoving_moving _ (stepping.trans moving), State.halt_eq, rest]
        simp [Reader.darkened]
      · rw [State.haltIfMoving_still _ (stepping.trans still), rest]
        simp
      · rw [rest]
        simp
    · obtain ⟨level, causes, counters, rest⟩ := s.setStopLevel_levels input false
      refine ⟨_, acts false, ?_⟩
      rw [State.takeStopInput_inactive active]
      refine ⟨level, ?_, causes, counters, ?_⟩
      · rw [rest]
      · rw [rest]
        exact ⟨rfl, rfl, rfl, rfl⟩
  case samples =>
    intro pins sampled stop
    refine ⟨_, step_tick empty out waits, fun sampledStops => ⟨?_, fun input active => ?_, fun a b => estop_before_jam⟩,
      fun between => ⟨?_, fun input active posted => ?_⟩, fun sampledPlaces => ⟨fun i q input => ?_, fun i q input => ?_⟩,
      fun between => ⟨?_, ?_, fun n => ⟨?_, ?_⟩⟩⟩
    · rw [State.tickWith_alerts, if_pos sampledStops]
      rfl
    · rw [estopJamInput_mem_pending, mem_stopsPosted, mem_stopEvent, mem_stopEvent]
      cases input <;> simp [stop, sampled, sampledStops, Qualifier.take_eq] <;> grind
    · rw [State.tickWith_alerts, if_neg between]
    · exact between (mem_stopsPosted.mp (estopJamInput_mem_pending.mp posted)).1
    · intro r
      rw [State.tickWith_sorter, if_pos sampledPlaces, place_mem_pending (OfPlace.drop _), drop_mem_placesPosted sampledPlaces]
      exact ⟨sampleAll_getElem? input, succ_mem_risen input⟩
    · intro r
      rw [State.tickWith_sorter, if_pos sampledPlaces, ← clearCommand_succ, place_mem_pending (OfPlace.clear _),
        clear_mem_placesPosted sampledPlaces]
      exact ⟨sampleAll_getElem? input, succ_mem_risen input⟩
    · rw [State.tickWith_sorter, if_neg between]
    · exact fun posted => by simpa using mem_tickWith_between between posted
    · exact fun posted => by simpa using mem_tickWith_between between posted
    · exact fun posted => by simpa using mem_tickWith_between between posted

end Sys2Proof.Machine
end
section
/-!
PROOFS. The assignment of a good piece (sections 1.1, 1.6, 7.2 to 7.4).
-/

namespace Sys2Proof.Machine

/-! ### The size group, the key and the range of bins -/

theorem State.setGroup_eq (p : PrintRecord) (s : State) :
    s.setGroup p =
      match s.exposure.sizes[p.size]? with
      | none => s
      | some entry =>
        { s with orders := s.orders.map fun o => o.map fun r =>
            if r.number = p.order ∧ r.group = none then { r with group := some entry.group } else r } := by
  unfold State.setGroup
  cases s.exposure.sizes[p.size]? with
  | none => rfl
  | some entry =>
    simp only [State.updateOrder, Option.isNone_iff_eq_none]
    refine congrArg (fun orders => ({ s with orders := orders } : State)) (List.map_congr_left fun o _ => ?_)
    refine congrArg (fun f => o.map f) (funext fun r => ?_)
    by_cases owner : r.number = p.order <;> simp [owner]

theorem Order.key_eq (r : Order) : r.key =
    16 * (match r.source with | .counter => 0 | .kiosk => 1 | .online => 2 | .trade => 3) +
      4 * (match r.cls with | .standard => 0 | .priority => 1 | .express => 2 | .bulk => 3) + r.group.getD 0 := rfl

/-- A window hits a key: it is enabled, and its base agrees with the key in every bit of its mask (R121). -/
def Window.Hits (key : Nat) (w : Window) : Prop :=
  w.enabled = true ∧ ∀ i, w.mask.testBit i = true → key.testBit i = w.base.testBit i

theorem Window.hits_iff (key : Nat) (w : Window) : (w.enabled && maskHits key w.base w.mask) = true ↔ w.Hits key := by
  rw [Bool.and_eq_true, maskHits_iff, Window.Hits]

theorem binRange_default {key : Nat} {windows : List Window} (none_hits : ∀ w ∈ windows, ¬ w.Hits key) :
    binRange windows key = (1, 24) := by
  have none_found : (windows.find? fun w => w.enabled && maskHits key w.base w.mask) = none :=
    List.find?_eq_none.mpr fun w mem hits => none_hits w mem ((w.hits_iff key).mp hits)
  rw [binRange, none_found]

theorem binRange_first {key : Nat} {before behind : List Window} {w : Window} (earlier : ∀ v ∈ before, ¬ v.Hits key)
    (hits : w.Hits key) : binRange (before ++ w :: behind) key = (w.first, w.last) := by
  have found : ((before ++ w :: behind).find? fun w => w.enabled && maskHits key w.base w.mask) = some w := by
    refine List.find?_eq_some_iff_append.mpr ⟨(w.hits_iff key).mpr hits, before, behind, rfl, fun v mem => ?_⟩
    rw [Bool.not_eq_true', Bool.eq_false_iff]
    exact fun hit => earlier v mem ((v.hits_iff key).mp hit)
  rw [binRange, found]

/-! ### The target of a piece -/

section
variable {r : Order} {s : State} {n : Nat}

/-- Bin n is FREE. -/
def State.BinIsFree (n : Nat) (s : State) : Prop := ∃ b, s.bin n = some b ∧ b.state = .free

theorem State.binIsFree_iff : (match s.bin n with | some b => b.state == .free | none => false) = true ↔ s.BinIsFree n := by
  unfold State.BinIsFree
  cases s.bin n <;> simp

theorem State.BinIsFree.inside (twentyFour : s.sorter.bins.length = 24) (free : s.BinIsFree n) : 1 ≤ n ∧ n ≤ 24 := by
  obtain ⟨b, record, -⟩ := free
  obtain ⟨positive, place⟩ := State.bin_eq_some_iff.mp record
  obtain ⟨inside, -⟩ := List.getElem?_eq_some_iff.mp place
  omega

/-- A bin may be lent: it is FREE, and in the range. -/
theorem State.freeBinIn_eq_some {range : Nat × Nat} (twentyFour : s.sorter.bins.length = 24) (low : range.1 ≤ n) (high : n ≤ range.2)
    (free : s.BinIsFree n) (least : ∀ m, range.1 ≤ m → m < n → ¬ s.BinIsFree m) : s.freeBinIn range = some n := by
  obtain ⟨positive, inside⟩ := free.inside twentyFour
  obtain ⟨i, rfl⟩ := Nat.exists_eq_add_of_le' positive
  rw [State.freeBinIn, List.find?_map, Option.map_eq_some_iff]
  refine ⟨i, List.find?_range_eq_some.mpr ⟨?_, List.mem_range.mpr (by omega), fun j before => ?_⟩, rfl⟩
  · rw [Function.comp_apply, Bool.and_eq_true, decide_eq_true_eq]
    exact ⟨⟨low, high⟩, State.binIsFree_iff.mpr free⟩
  · rw [Bool.not_eq_true', Bool.eq_false_iff, Function.comp_apply]
    intro suits
    rw [Bool.and_eq_true, decide_eq_true_eq] at suits
    exact least (j + 1) suits.1.1 (by omega) (State.binIsFree_iff.mp suits.2)

theorem State.freeBinIn_eq_none {range : Nat × Nat} (none_free : ∀ n, range.1 ≤ n → n ≤ range.2 → ¬ s.BinIsFree n) :
    s.freeBinIn range = none := by
  refine List.find?_eq_none.mpr fun n _ suits => ?_
  rw [Bool.and_eq_true, decide_eq_true_eq] at suits
  exact none_free n suits.1.1 suits.1.2 (State.binIsFree_iff.mp suits.2)

/-- The order's last bin is FILLING and has room (R123). -/
def State.LastHasRoom (r : Order) (s : State) : Prop :=
  ∃ n b, r.bins.getLast? = some n ∧ s.bin n = some b ∧ b.state = .filling ∧ b.count + b.pending < s.sorter.capacity

theorem State.lastBinWithRoom_eq_some {b : Bin} (last : r.bins.getLast? = some n) (record : s.bin n = some b)
    (filling : b.state = .filling) (room : b.count + b.pending < s.sorter.capacity) : s.lastBinWithRoom r = some n := by
  simp [State.lastBinWithRoom, last, record, filling, room]

theorem State.lastBinWithRoom_eq_none (full : ¬ s.LastHasRoom r) : s.lastBinWithRoom r = none := by
  unfold State.lastBinWithRoom
  split
  · rfl
  · next n last =>
    split
    · next b record => exact if_neg fun ⟨filling, room⟩ => full ⟨n, b, last, record, filling, room⟩
    · rfl

/-- The order may have no new bin: it has four, or none of its range is FREE (R123). -/
def State.NoNewBin (r : Order) (s : State) : Prop :=
  4 ≤ r.bins.length ∨ ∀ n, (binRange s.sorter.windows r.key).1 ≤ n → n ≤ (binRange s.sorter.windows r.key).2 → ¬ s.BinIsFree n

theorem State.newBinFor_eq_none (none_new : s.NoNewBin r) : s.newBinFor r = none := by
  unfold State.newBinFor
  split
  · next few => exact State.freeBinIn_eq_none (none_new.resolve_left (by omega))
  · rfl

theorem State.assign_last (last : s.lastBinWithRoom r = some n) : s.assign r = (some (.bin n), s) := by
  rw [State.assign, last]

theorem State.assign_new (full : s.lastBinWithRoom r = none) (fresh : s.newBinFor r = some n) :
    s.assign r = (some (.bin n), s.lendBin n r) := by
  rw [State.assign, full, fresh]

theorem State.assign_none (full : s.lastBinWithRoom r = none) (none_new : s.newBinFor r = none) :
    s.assign r = if s.sorter.tray.count + s.sorter.tray.pending < 250 then
        (some .tray, (s.updateOrder r.number Order.flagTray).raise .trayUsed)
      else (none, s.raise .trayFull) := by
  rw [State.assign, full, none_new]

theorem State.sortPrint_eq {p : PrintRecord} {s0 : State} (grouped : s0.setGroup p = s) (room : s.sorter.queue.length < 24)
    (found : s.findOrder p.order = some r) :
    s0.sortPrint p = match s.assign r with
      | (some target, s) => (.ok target, s.joinSorter p target)
      | (none, s) => (.error .noBin, s) := by
  rw [State.sortPrint, grouped, if_neg (by omega), found] <;> rfl

/-- An entry of the sorter queue (R125). -/
theorem State.joinSorter_bin (p : PrintRecord) (positive : n ≠ 0) (s : State) : s.joinSorter p (.bin n) =
    { s with sorter := { s.sorter with
      queue := s.sorter.queue ++
        [{ print := p, target := .bin n, leftAt := s.now, deadline := s.now + s.path.params.tDel * 1000 }]
      bins := s.sorter.bins.modify (n - 1) fun b => { b with pending := b.pending + 1 } } } := by
  simp [State.joinSorter, State.addPending, State.updateBin, positive]

theorem State.joinSorter_tray (p : PrintRecord) (s : State) : s.joinSorter p .tray =
    { s with sorter := { s.sorter with
      queue := s.sorter.queue ++
        [{ print := p, target := .tray, leftAt := s.now, deadline := s.now + s.path.params.tDel * 1000 }]
      tray := { s.sorter.tray with pending := s.sorter.tray.pending + 1 } } } := rfl

end

/-- Settles O47: by the tests of the sorter in their order. -/
theorem goodPieceFindsATarget : Obligations.GoodPieceFindsATarget := by
  refine ⟨fun p s => s.setGroup_eq p, fun r => r.key_eq, fun key windows => ?range, fun p r s0 => ?sort⟩
  case range =>
    intro hits
    refine ⟨fun none_hits => binRange_default none_hits, fun before w behind split earlier hit => ?_⟩
    rw [split]
    exact binRange_first earlier hit
  case sort =>
    intro s entry found twentyFour lastHasRoom isFree range noNewBin
    have full : ¬ lastHasRoom → s.lastBinWithRoom r = none := State.lastBinWithRoom_eq_none
    have none_new : noNewBin → s.newBinFor r = none := State.newBinFor_eq_none
    refine ⟨fun busy => ?_, fun n b room last record filling space => ?_, fun n room noLast few low high free least => ?_,
      fun room noLast noNew space => ?_, fun room noLast noNew crowded => ?_⟩
    · exact if_pos busy
    · rw [State.sortPrint_eq rfl room found, State.assign_last (State.lastBinWithRoom_eq_some last record filling space)]
      exact congrArg _ (State.joinSorter_bin p (State.bin_eq_some_iff.mp record).1 s)
    · have fresh : s.newBinFor r = some n := (if_pos few).trans (State.freeBinIn_eq_some twentyFour low high free least)
      have positive : n ≠ 0 := by
        have := State.BinIsFree.inside twentyFour free
        omega
      rw [State.sortPrint_eq rfl room found, State.assign_new (full noLast) fresh]
      dsimp only
      rw [State.joinSorter_bin p positive]
      simp only [State.lendBin, State.updateBin, positive, if_false, State.updateOrder, List.modify_modify_eq]
      rfl
    · rw [State.sortPrint_eq rfl room found, State.assign_none (full noLast) (none_new noNew), if_pos space]
      dsimp only
      rw [State.joinSorter_tray, ← State.raise_withSorter]
      simp only [State.raise_keeps]
      rfl
    · rw [State.sortPrint_eq rfl room found, State.assign_none (full noLast) (none_new noNew), if_neg (by omega)]

end Sys2Proof.Machine
end

section
/-!
PROOFS. Drops, deliveries and deadlines (sections 7.5, 1.6 to 1.8).
-/

namespace Sys2Proof.Machine

/-! ### Entries whose deadline has passed -/

section
variable {s : State} {e : SortEntry} {rest : List SortEntry}

theorem State.expire_nil (empty : s.sorter.queue = []) : s.expire = s := by
  rw [State.expire, empty]
  rfl

theorem State.expire_ahead (oldest : s.sorter.queue = e :: rest) (ahead : s.now < e.deadline) : s.expire = s := by
  rw [State.expire, oldest, List.length_cons, State.expireOldest, oldest]
  exact if_neg (by omega)

theorem State.expire_due (oldest : s.sorter.queue = e :: rest) (due : e.deadline ≤ s.now) : s.expire = s.loseOldest.expire := by
  rw [State.expire, oldest, List.length_cons, State.expireOldest, oldest]
  dsimp only
  rw [if_pos due, State.expire, State.loseOldest_queue oldest]

/-- No entry is lost where the next one's deadline lies ahead. -/
theorem State.expire_of_head (left : s.sorter.queue = rest) (ahead : ∀ n ∈ rest.head?, s.now < n.deadline) : s.expire = s := by
  cases rest with
  | nil => exact State.expire_nil left
  | cons n rest => exact State.expire_ahead left (ahead n rfl)

end

/-! ### A drop at the oldest entry's target -/

theorem exec_drop {place : Nat} {s : State} (out : s.inReset = false) (low : 1 ≤ place) (high : place ≤ 25) :
    exec (.drop place) s = .next (s.judgeDrop (Target.ofPlace place)).expire := by
  calc exec (.drop place) s
    _ = s.event fun s => (s.judgeDrop (Target.ofPlace place)).expire := if_pos ⟨low, high⟩
    _ = .next (s.judgeDrop (Target.ofPlace place)).expire := State.event_of_not_inReset out

theorem Target.code_ofPlace {place : Nat} : (Target.ofPlace place).code = place := by
  unfold Target.ofPlace
  split
  · next tray => exact tray.symm
  · rfl

/-- The belt and the places where the oldest entry has been delivered at a place (R127). -/
def State.placed (place : Nat) (rest : List SortEntry) (s : State) : State :=
  { s with sorter := { s.sorter with
      queue := rest
      tray :=
        if place = 25 then
          { s.sorter.tray with
            pending := s.sorter.tray.pending - 1, count := s.sorter.tray.count + 1, state := .occupied }
        else s.sorter.tray
      bins :=
        if place = 25 then s.sorter.bins
        else s.sorter.bins.modify (place - 1) fun b => { b with pending := b.pending - 1, count := b.count + 1 } } }

theorem State.popSorter_countInto {place : Nat} {e : SortEntry} {rest : List SortEntry} {s : State} (low : 1 ≤ place)
    (oldest : s.sorter.queue = e :: rest) (target : e.target = Target.ofPlace place) :
    s.popSorter.countInto e.target = s.placed place rest := by
  rw [State.popSorter, oldest]
  dsimp only
  rw [target, Target.ofPlace, State.placed]
  split
  · rfl
  · have positive : place ≠ 0 := by omega
    simp only [State.dropPending, State.countInto, State.updateBin, positive, if_false, List.modify_modify_eq]
    rfl

theorem exec_drop_at_target {place : Nat} {e : SortEntry} {rest : List SortEntry} {s : State} (out : s.inReset = false) (low : 1 ≤ place)
    (high : place ≤ 25) (oldest : s.sorter.queue = e :: rest) (target : e.target = Target.ofPlace place) :
    exec (.drop place) s = .next (State.expire (State.deliver e.print
      (((s.placed place rest).report .printFate (bytesOf 1 2 ++ printDetails e.print [] ++ bytesOf 1 place)).bump .good))) := by
  rw [exec_drop out low high, State.judgeDrop, oldest]
  dsimp only
  rw [if_pos target, State.deliverOldest, oldest]
  dsimp only
  rw [State.popSorter_countInto low oldest target, State.deliverAt, goodPayload, target, Target.code_ofPlace]

/-! ### The order of a delivered print -/

section
variable {p : PrintRecord} {r : Order} {s : State}

theorem State.deliver_opened (found : s.findOrder p.order = some r) (state : r.state = .opened) :
    s.deliver p = s.updateOrder p.order (Order.deliver p) := by
  rw [State.deliver, found]
  dsimp only
  rw [state]

theorem State.deliver_closed (found : s.findOrder p.order = some r) (state : r.state = .closed) :
    s.deliver p = (s.updateOrder p.order (Order.deliver p)).completionTest p.order := by
  rw [State.deliver, found]
  dsimp only
  rw [state]

theorem State.deliver_pricing (found : s.findOrder p.order = some r) (state : r.state = .pricing) : s.deliver p = s := by
  rw [State.deliver, found]
  dsimp only
  rw [state]

theorem State.deliver_winding {fate : OrderFate} (found : s.findOrder p.order = some r)
    (state : r.state = .cancelling ∧ fate = .cancelled ∨ r.state = .failing ∧ fate = .failed) :
    s.deliver p = (s.updateOrder p.order (Order.deliver p)).endIfDrained p.order := by
  rw [State.deliver, found]
  dsimp only
  rcases state with ⟨state, -⟩ | ⟨state, -⟩ <;> rw [state]

theorem State.findOrder_delivered (found : s.findOrder p.order = some r) :
    (s.updateOrder p.order (Order.deliver p)).findOrder p.order = some (r.deliver p) := by
  rw [State.findOrder_updateOrder (Order.deliver_number p), found]
  rfl

/-- The slots freed of an order do not show what its record became before. -/
theorem map_freed_update (n : Nat) {f : Order → Order} (number : ∀ r, (f r).number = r.number) (l : List (Option Order)) :
    (l.map fun o => o.map fun r => if r.number = n then f r else r).map (fun o => if o.map Order.number = some n then none else o) =
      l.map fun o => if o.map Order.number = some n then none else o := by
  rw [List.map_map]
  refine List.map_congr_left fun o _ => ?_
  cases o with
  | none => rfl
  | some r =>
    by_cases own : r.number = n
    · simp [own, number]
    · simp [own]

end

/-! ### The tally -/

theorem Order.deliver_free {p : PrintRecord} (free : p.charge = false) (r : Order) :
    r.deliver p = { r with inFlight := r.inFlight - 1, delivered := r.delivered + 1 } := by
  simp [Order.deliver, free]

theorem Order.deliver_charged {p : PrintRecord} (charged : p.charge = true) (r : Order) :
    r.deliver p = Order.tally p.size p.used { r with inFlight := r.inFlight - 1, delivered := r.delivered + 1 } := by
  simp [Order.deliver, charged]

theorem Order.tally_known {size : Nat} {surface : Surface} {r : Order} (known : ∃ t ∈ r.tallies, t.size = size ∧ t.surface = surface) :
    r.tally size surface = { r with tallies := tallyCount size surface r.tallies } :=
  if_pos (by simpa using known)

theorem Order.tally_new {size : Nat} {surface : Surface} {r : Order} (unknown : ∀ t ∈ r.tallies, ¬ (t.size = size ∧ t.surface = surface)) :
    r.tally size surface = if r.tallies.length < 8 then
      { r with tallies := r.tallies ++ [{ size := size, surface := surface, quantity := 1 }] }
    else { r with unpriced := r.unpriced + 1 } :=
  if_neg (by simpa using unknown)

/-- Settles O48: by the state of the delivered print's order. -/
theorem dropDeliversTheOldest : Obligations.DropDeliversTheOldest := by
  refine ⟨fun place e rest r s out low high oldest target ahead found opened bins counters => ?opened,
    fun place e rest s out low high oldest target => exec_drop_at_target out low high oldest target,
    fun p r s found => ?order, fun p r => ?tally⟩
  case opened =>
    obtain ⟨told, told_eq⟩ : ∃ t, t = ((s.placed place rest).report .printFate
      (bytesOf 1 2 ++ printDetails e.print [] ++ bytesOf 1 place)).bump .good := ⟨_, rfl⟩
    have ⟨orders, sorter, now⟩ : told.orders = s.orders ∧ told.sorter = (s.placed place rest).sorter ∧ told.now = s.now := by
      simp [told_eq, State.placed]
    have foundTold : told.findOrder e.print.order = some r := by rwa [State.findOrder, orders]
    have stays : (told.updateOrder e.print.order (Order.deliver e.print)).expire =
        told.updateOrder e.print.order (Order.deliver e.print) := by
      refine State.expire_of_head (rest := rest) ?_ fun n next => ?_
      · exact congrArg SorterUnit.queue sorter
      · exact now ▸ ahead n next
    refine ⟨told.updateOrder e.print.order (Order.deliver e.print), ?_, ?_, ?_, ?_, ?_, State.findOrder_delivered foundTold, by simp, by simp, ?_, ?_⟩
    · rw [exec_drop_at_target out low high oldest target, ← told_eq, State.deliver_opened foundTold opened, stays]
    · exact congrArg SorterUnit.queue sorter
    · intro bin
      have other : place ≠ 25 := by omega
      exact ⟨(congrArg SorterUnit.tray sorter).trans (if_neg other), (congrArg SorterUnit.bins sorter).trans (if_neg other)⟩
    · intro tray
      exact ⟨(congrArg SorterUnit.bins sorter).trans (if_pos tray), (congrArg SorterUnit.tray sorter).trans (if_pos tray)⟩
    · change told.counter .good = _
      rw [told_eq, State.counter_bump (by simp [State.placed, counters, Counter.place])]
      simp [State.counter, State.placed]
    · intro room
      refine ⟨Config.unsolicitedTag s.freeTags, ?_⟩
      change told.link.outbound = _
      have space : (s.placed place rest).link.outbound.length < 64 := room
      simp [told_eq, State.report, State.queueFrame, space]
      exact ⟨rfl, rfl⟩
    · simp [told_eq, State.placed, State.updateOrder]
  case order =>
    intro recorded
    refine ⟨State.deliver_opened found, State.deliver_closed found, State.deliver_pricing found, fun fate winds => ⟨fun more => ?_, fun last => ?_⟩⟩
    · exact (State.deliver_winding found winds).trans
        (State.endIfDrained_stays (State.findOrder_delivered found) (.inr (by simp; omega)))
    · intro final
      have fated : (r.deliver p).state.windingDown = some fate := by
        rcases winds with ⟨state, rfl⟩ | ⟨state, rfl⟩ <;> simp [state, OrderState.windingDown]
      rw [State.deliver_winding found winds,
        State.endIfDrained_ends (State.findOrder_delivered found) fated (by simp; omega)]
      simp only [State.updateOrder, map_freed_update p.order (Order.deliver_number p), Order.deliver_number, Order.deliver_delivered,
        Order.deliver_flags, Order.deliver_bins]
      rfl
  case tally =>
    intro counted mine
    refine ⟨fun free => r.deliver_free free, fun charged known => ?_, fun charged unknown => ⟨fun room => ?_, fun full => ?_⟩⟩
    · exact (r.deliver_charged charged).trans (Order.tally_known (r := counted) known)
    · exact (r.deliver_charged charged).trans ((Order.tally_new (r := counted) unknown).trans (if_pos room))
    · exact (r.deliver_charged charged).trans ((Order.tally_new (r := counted) unknown).trans (if_neg (Nat.not_lt.mpr full)))

/-! ### Drops that are no delivery, and deadlines -/

/-- The oldest entry has left the queue, and its target expects one print fewer. -/
def State.taken (e : SortEntry) (rest : List SortEntry) (s : State) : State :=
  match e.target with
  | .bin n => State.updateBin n (fun b => { b with pending := b.pending - 1 }) { s with sorter := { s.sorter with queue := rest } }
  | .tray => { s with sorter := { s.sorter with
      queue := rest, tray := { s.sorter.tray with pending := s.sorter.tray.pending - 1 } } }

/-- The oldest entry is lost. -/
def State.lost (e : SortEntry) (rest : List SortEntry) (s : State) : State :=
  State.raise .sortLost
    ((((s.taken e rest).report .printFate (bytesOf 1 1 ++ printDetails e.print [.lost])).bump (.rejected .lost)).reject
      e.print.order e.print.index e.print.attempt)

/-- A print is delivered where it fell. -/
def State.delivered (p : PrintRecord) (place : Nat) (s : State) : State :=
  ((s.report .printFate (bytesOf 1 2 ++ printDetails p [] ++ bytesOf 1 place)).bump .good).deliver p

/-- A place counts one more print. -/
def State.counted (place : Nat) (s : State) : State :=
  if place = 25 then
    { s with sorter := { s.sorter with tray := { s.sorter.tray with
        count := s.sorter.tray.count + 1, state := .occupied } } }
  else s.updateBin place fun b => { b with count := b.count + 1 }

section
variable {s : State} {e second : SortEntry} {rest : List SortEntry} {place : Nat}

theorem State.popSorter_eq (oldest : s.sorter.queue = e :: rest) : s.popSorter = s.taken e rest := by
  rw [State.popSorter, oldest, State.taken]
  dsimp only
  cases e.target <;> rfl

theorem State.loseOldest_eq (oldest : s.sorter.queue = e :: rest) : s.loseOldest = s.lost e rest := by
  rw [State.loseOldest, State.popSorter_eq oldest, oldest]
  rfl

theorem State.countInto_eq (place : Nat) (s : State) : s.countInto (Target.ofPlace place) = s.counted place := by
  unfold Target.ofPlace State.counted
  split <;> rfl

theorem State.deliverAt_eq (p : PrintRecord) (place : Nat) (s : State) :
    s.deliverAt p (Target.ofPlace place) = s.delivered p place := by
  rw [State.deliverAt, goodPayload, Target.code_ofPlace, State.delivered]

theorem State.deliverOldest_eq (oldest : s.sorter.queue = e :: rest) (target : e.target = Target.ofPlace place) :
    s.deliverOldest = ((s.taken e rest).counted place).delivered e.print place := by
  rw [State.deliverOldest, State.popSorter_eq oldest, oldest]
  dsimp only
  rw [target, State.countInto_eq, State.deliverAt_eq]

theorem State.misdeliver_eq (oldest : s.sorter.queue = e :: rest) :
    s.misdeliver (Target.ofPlace place) =
      ((s.taken e rest).delivered { e.print with notes := { e.print.notes with misdelivered := true } } place).markStray
        (Target.ofPlace place) (some e.print.order) := by
  rw [State.misdeliver, State.popSorter_eq oldest, oldest]
  dsimp only
  rw [State.deliverAt_eq]
  rfl

/-! ### A drop, judged -/

theorem State.judgeDrop_nil (target : Target) (empty : s.sorter.queue = []) : s.judgeDrop target = s.markStray target none := by
  rw [State.judgeDrop, empty]

theorem State.judgeDrop_second {target : Target} (two : s.sorter.queue = e :: second :: rest) (other : e.target ≠ target)
    (hit : second.target = target) : s.judgeDrop target = s.loseOldest.deliverOldest := by
  rw [State.judgeDrop, two]
  dsimp only
  rw [if_neg other, if_pos hit]

theorem State.judgeDrop_elsewhere {target : Target} (oldest : s.sorter.queue = e :: rest) (other : e.target ≠ target)
    (missed : ∀ second ∈ rest.head?, second.target ≠ target) : s.judgeDrop target = s.misdeliver target := by
  rw [State.judgeDrop, oldest]
  dsimp only
  rw [if_neg other]
  cases rest with
  | nil => rfl
  | cons second rest => exact if_neg (missed second rfl)

end

/-! ### A place where something fell that was no delivery -/

/-- The Order Table after the owner of a bin has been flagged ATTENTION, unless that is the excepted order (R129, R130). -/
def attended (b : Bin) (excepted : Option Nat) (orders : List (Option Order)) : List (Option Order) :=
  match b.owner with
  | some owner =>
    if b.state = .filling ∧ excepted ≠ some owner then
      orders.map fun o => o.map fun q =>
        if q.number = owner then { q with flags := { q.flags with attention := true } } else q
    else orders
  | none => orders

theorem State.attendOwner_eq {n : Nat} {b : Bin} {s : State} (excepted : Option Nat) (record : s.bin n = some b) :
    s.attendOwner n excepted = { s with orders := attended b excepted s.orders } := by
  rw [State.attendOwner, record, attended]
  dsimp only
  cases b.owner with
  | none => rfl
  | some owner =>
    by_cases attends : b.state = .filling ∧ excepted ≠ some owner
    · simp only [if_pos attends]
      rfl
    · simp only [if_neg attends]

theorem State.markStray_bin {n : Nat} {b : Bin} {s : State} (excepted : Option Nat) (record : s.bin n = some b) :
    s.markStray (.bin n) excepted =
      State.raise .sortMismatch
        { s with
          orders := attended b excepted s.orders
          sorter := { s.sorter with bins := (s.sorter.bins.modify (n - 1) fun b =>
            { b with state := .held, stray := if b.stray < 255 then b.stray + 1 else b.stray }) } } := by
  obtain ⟨positive, -⟩ := State.bin_eq_some_iff.mp record
  obtain ⟨counted, counted_eq⟩ : ∃ t, t = s.updateBin n fun b => { b with stray := saturate 255 b.stray } := ⟨_, rfl⟩
  have sorter : counted = { s with sorter := { s.sorter with
      bins := s.sorter.bins.modify (n - 1) fun b => { b with stray := saturate 255 b.stray } } } := by
    rw [counted_eq, State.updateBin, if_neg positive]
  have recordThen : (counted.raise .sortMismatch).bin n = some { b with stray := saturate 255 b.stray } := by
    have bins : (counted.raise .sortMismatch).sorter = counted.sorter := by simp
    have same : (counted.raise .sortMismatch).bin n = counted.bin n := by rw [State.bin, State.bin, bins]
    rw [same, counted_eq, State.bin_updateBin, record]
    rfl
  have orders : (s.raise .sortMismatch).orders = s.orders := by simp
  have lastly : s.markStray (.bin n) excepted = State.updateBin n (fun b => { b with state := .held })
      { s.raise .sortMismatch with
        sorter := counted.sorter, orders := attended { b with stray := saturate 255 b.stray } excepted s.orders } := by
    rw [State.markStray, ← counted_eq, State.attendOwner_eq excepted recordThen, sorter, State.raise_withSorter]
    simp only [orders]
  rw [lastly, State.updateBin, if_neg positive, sorter]
  simp only [List.modify_modify_eq]
  exact ((State.raise_withSorter _ { s with orders := attended b excepted s.orders } _).trans (by rw [State.raise_withOrders]; rfl)).symm

theorem State.markStray_tray (excepted : Option Nat) (s : State) :
    s.markStray .tray excepted =
      State.raise .sortMismatch
        { s with sorter := { s.sorter with tray := { s.sorter.tray with
            state := .occupied, stray := if s.sorter.tray.stray < 255 then s.sorter.tray.stray + 1 else s.sorter.tray.stray } } } := rfl

theorem exec_deliveryDeadline {e : SortEntry} {rest : List SortEntry} {s : State} (out : s.inReset = false)
    (oldest : s.sorter.queue = e :: rest) :
    exec .deliveryDeadline s = .next (State.lost e rest { s with now := max s.now e.deadline }).expire := by
  have acts : exec .deliveryDeadline s = .next s.reachDeadline := State.event_of_not_inReset out
  rw [acts, State.reachDeadline, oldest]
  dsimp only
  rw [State.expire_due (s := { s with now := max s.now e.deadline }) oldest (le_max_right _ _),
    State.loseOldest_eq (s := { s with now := max s.now e.deadline }) oldest]

theorem State.lost_queue {e : SortEntry} {rest : List SortEntry} {s : State} (oldest : s.sorter.queue = e :: rest) :
    (s.lost e rest).sorter.queue = rest := by
  rw [← State.loseOldest_eq oldest, State.loseOldest_queue oldest]

theorem State.lost_now {e : SortEntry} {rest : List SortEntry} {s : State} (oldest : s.sorter.queue = e :: rest) :
    (s.lost e rest).now = s.now := by
  rw [← State.loseOldest_eq oldest]
  simp

/-- Settles O49: by the place of the drop and by how many entries have passed their deadline. -/
theorem otherDropsAndDeadlines : Obligations.OtherDropsAndDeadlines := by
  unfold Obligations.OtherDropsAndDeadlines
  intro taken lost delivered counted
  refine ⟨fun place s out low high => ⟨fun e second rest two other hit => ?second, fun e rest oldest other missed => ?elsewhere,
    fun empty => ?stray⟩, fun excepted s => ⟨fun n b record => State.markStray_bin excepted record, State.markStray_tray excepted s⟩,
    fun s => ⟨State.expire_nil, fun e rest => State.expire_ahead, fun e rest oldest due => ?due⟩,
    fun e s out => ⟨fun rest oldest ahead => ?one, fun second rest two due ahead => ?both, fun empty => ?none⟩⟩
  case second =>
    have judged : s.judgeDrop (Target.ofPlace place) = _ := State.judgeDrop_second two other hit
    rw [exec_drop out low high, judged, State.deliverOldest_eq (State.loseOldest_queue two) hit, State.loseOldest_eq two]
    rfl
  case elsewhere =>
    have judged : s.judgeDrop (Target.ofPlace place) = _ := State.judgeDrop_elsewhere oldest other missed
    rw [exec_drop out low high, judged, State.misdeliver_eq oldest]
    rfl
  case stray =>
    have unmoved : (s.markStray (Target.ofPlace place) none).sorter.queue = [] := by simpa using empty
    rw [exec_drop out low high, State.judgeDrop_nil _ empty, State.expire_nil unmoved]
    rfl
  case due =>
    rw [State.expire_due oldest due, State.loseOldest_eq oldest]
    rfl
  case one =>
    have queue := State.lost_queue (s := { s with now := max s.now e.deadline }) oldest
    have now := State.lost_now (s := { s with now := max s.now e.deadline }) oldest
    rw [exec_deliveryDeadline out oldest, State.expire_of_head queue (now.symm ▸ ahead)]
    rfl
  case both =>
    have queue := State.lost_queue (s := { s with now := max s.now e.deadline }) two
    have now := State.lost_now (s := { s with now := max s.now e.deadline }) two
    have queueThen := State.lost_queue queue
    have nowThen := (State.lost_now queue).trans now
    rw [exec_deliveryDeadline out two, State.expire_due queue (now.symm ▸ due), State.loseOldest_eq queue,
      State.expire_of_head queueThen (nowThen.symm ▸ ahead)]
    rfl
  case none =>
    have acts : exec .deliveryDeadline s = .next s.reachDeadline := State.event_of_not_inReset out
    rw [acts, State.reachDeadline, empty]

end Sys2Proof.Machine
end
section
/-!
PROOFS. The completion of a pricing (sections 8.3, 8.5 and 1.7).
-/

namespace Sys2Proof.Machine

/-! ### The order that is done -/

theorem matchOrder_isSome_iff (n : Nat) (o : Option Order) : (matchOrder n o).isSome = true ↔ o.map Order.number = some n := by
  cases o with
  | none => simp [matchOrder]
  | some r => by_cases own : r.number = n <;> simp [matchOrder, own]

/-- An order is done: its ORDER DONE, its slot and its bins. -/
theorem State.orderPriced_eq (r : Order) (s : State) :
    s.orderPriced r =
      { s.report .orderDone (orderDonePayload r .complete (s.price.bill r) s.price.priceGeneration s.price.promoGeneration) with
        orders := (s.orders.map fun o => if (o.map Order.number) = some r.number then none else o)
        sorter := { s.sorter with bins := (s.sorter.bins.map fun b =>
          if b.owner = some r.number then
            { b with state := if b.state = .filling then .ready else b.state, ownerLive := false } else b) } } := by
  have bins : (fun b : Bin => if b.owner = some r.number ∧ b.ownerLive then { b with ownerLive := false } else b) ∘
      Bin.retire r.number .ready = fun b => (if b.owner = some r.number then
        { b with state := if b.state = .filling then .ready else b.state, ownerLive := false } else b) := by
    funext b
    obtain ⟨state, owner, ownerLive, ownerClass, count, pending, stray⟩ := b
    by_cases own : owner = some r.number
    · cases state <;> cases ownerLive <;> simp [Bin.retire, own]
    · simp [Bin.retire, own]
  simp only [State.orderPriced, State.mapBins, State.freeOrder, List.map_map, bins, matchOrder_isSome_iff]
  simp

/-- The engine is idle again. -/
def State.withIdleEngine (s : State) : State := { s with price := { s.price with engine := none } }

theorem State.completePricing_order {pricing : Pricing} {r : Order} {s : State} (engine : s.price.engine = some pricing)
    (order : s.orders[pricing.slot]? = some (some r)) :
    s.completePricing = (s.orderPriced r).withIdleEngine.takeWaitingLoad.engineTake := by
  simp only [State.completePricing, engine, order]
  rfl

theorem State.completePricing_empty {pricing : Pricing} {s : State} (engine : s.price.engine = some pricing)
    (empty : ∀ r, s.orders[pricing.slot]? ≠ some (some r)) : s.completePricing = s.withIdleEngine.takeWaitingLoad.engineTake := by
  have slot : (match s.orders[pricing.slot]? with | some (some r) => s.orderPriced r | _ => s) = s := by
    split
    · next r order => exact absurd order (empty r)
    · rfl
  rw [State.completePricing, engine]
  exact congrArg (fun s => s.withIdleEngine.takeWaitingLoad.engineTake) slot

/-! ### The load that has waited, and the next order -/

theorem State.takeWaitingLoad_of_other {s : State} (other : ∀ f ∈ s.commands.head?, f.kind ≠ .priceLoad ∧ f.kind ≠ .promoLoad) :
    s.takeWaitingLoad = s := by
  unfold State.takeWaitingLoad
  split
  · next f rest queued =>
    obtain ⟨price, promo⟩ := other f (by simp [queued])
    split
    · next h => exact absurd h price
    · next h => exact absurd h promo
    · rfl
  · rfl

section
variable {f : InFrame} {rest : List InFrame} {s : State}

theorem State.takePriceLoad_refused (queued : s.commands = f :: rest) (bad : parsePriceLoad f.payload = none) :
    s.takePriceLoad f = answeredCommand f .range s := by
  rw [State.takePriceLoad, bad, State.removeImmediate_answer queued]

theorem State.takePriceLoad_accepted {rows : List PriceRow} {surcharges : List Nat} (queued : s.commands = f :: rest)
    (good : parsePriceLoad f.payload = some (rows, surcharges)) :
    s.takePriceLoad f = answeredCommand f .accepted { s with price := { s.price with
      rows := rows, surcharges := surcharges, priceGeneration := (s.price.priceGeneration + 1) % 65536 } } := by
  rw [State.takePriceLoad, good]
  exact State.removeImmediate_answer (by exact queued) _

theorem State.takePromoLoad_refused (queued : s.commands = f :: rest) (bad : parsePromoLoad f.payload = none) :
    s.takePromoLoad f = answeredCommand f .range s := by
  rw [State.takePromoLoad, bad, State.removeImmediate_answer queued]

theorem State.takePromoLoad_accepted {records : List Promotion} (queued : s.commands = f :: rest)
    (good : parsePromoLoad f.payload = some records) :
    s.takePromoLoad f = answeredCommand f .accepted { s with price := { s.price with
      promotions := records, promoGeneration := (s.price.promoGeneration + 1) % 65536 } } := by
  rw [State.takePromoLoad, good]
  exact State.removeImmediate_answer (by exact queued) _

theorem State.takeWaitingLoad_price (queued : s.commands = f :: rest) (kind : f.kind = .priceLoad) :
    s.takeWaitingLoad = s.takePriceLoad f := by
  rw [State.takeWaitingLoad, queued]
  dsimp only
  rw [kind]

theorem State.takeWaitingLoad_promo (queued : s.commands = f :: rest) (kind : f.kind = .promoLoad) :
    s.takeWaitingLoad = s.takePromoLoad f := by
  rw [State.takeWaitingLoad, queued]
  dsimp only
  rw [kind]

theorem answeredCommand_keeps (f : InFrame) (result : StatusResult) (s : State) :
    (answeredCommand f result s).price = s.price ∧ (answeredCommand f result s).now = s.now := by
  simp [answeredCommand]

end

/-- The engine takes the oldest of the waiting slots, to be priced within 1 ms, or stays idle. -/
def TakesNext (queue : List Nat) (now : Nat) (u t : State) : Prop :=
  match queue with
  | [] => t = u
  | slot :: queue =>
    ∃ due, now ≤ due ∧ due ≤ now + 1000 ∧
      t = { u with price := { u.price with queue := queue, engine := some { slot := slot, due := due } } }

theorem State.engineTake_takesNext {s : State} (idle : s.price.engine = none) : TakesNext s.price.queue s.now s s.engineTake := by
  cases waiting : s.price.queue with
  | nil => exact State.engineTake_nil waiting
  | cons slot queue =>
    obtain ⟨due, low, high, taken⟩ := State.engineTake_cons idle waiting
    exact ⟨due, low, high, taken⟩

/-- Settles O53: by the waiting load and by the next order in the queue. -/
theorem pricingCompletesTheOrder : Obligations.PricingCompletesTheOrder := by
  have acts : ∀ s : State, s.inReset = false → exec .pricingComplete s = .next s.completePricing :=
    fun s out => State.event_of_not_inReset out
  refine ⟨fun pricing done s out engine given => ?busy, fun s out idle => ?idle⟩
  case idle => rw [acts s out, State.completePricing, idle]
  case busy =>
    intro takesNext
    have completes : s.completePricing = done.takeWaitingLoad.engineTake := by
      rcases given with ⟨r, order, -, rfl⟩ | ⟨empty, rfl⟩
      · rw [State.completePricing_order engine order, State.orderPriced_eq, State.withIdleEngine]
        simp only [State.report_keeps]
        rfl
      · exact State.completePricing_empty engine empty
    have ⟨idle, queue, now, commands, price, promo⟩ : done.price.engine = none ∧ done.price.queue = s.price.queue ∧ done.now = s.now ∧
        done.commands = s.commands ∧ done.price.priceGeneration = s.price.priceGeneration ∧
        done.price.promoGeneration = s.price.promoGeneration := by
      rcases given with ⟨r, -, -, rfl⟩ | ⟨-, rfl⟩ <;> simp
    have next : ∀ u : State, u.price.engine = none → u.price.queue = s.price.queue → u.now = s.now → takesNext u u.engineTake :=
      fun u idle queue now => by
        have taken := State.engineTake_takesNext idle
        rwa [queue, now] at taken
    have answered : ∀ f result (u : State), u.price.engine = none → u.price.queue = s.price.queue → u.now = s.now →
        takesNext (answeredCommand f result u) (answeredCommand f result u).engineTake := fun f result u idle queue now => by
      obtain ⟨price, clock⟩ := answeredCommand_keeps f result u
      exact next _ (by rw [price, idle]) (by rw [price, queue]) (by rw [clock, now])
    refine ⟨_, acts s out, fun other => ?_, fun f rest queued => ⟨fun kind => ⟨fun bad => ?_, fun rows surcharges good => ?_⟩,
      fun kind => ⟨fun bad => ?_, fun records good => ?_⟩⟩⟩ <;> rw [completes]
    · rw [State.takeWaitingLoad_of_other (by rwa [commands])]
      exact next done idle queue now
    · have waits := commands.trans queued
      rw [State.takeWaitingLoad_price waits kind, State.takePriceLoad_refused waits bad]
      exact answered f .range done idle queue now
    · have waits := commands.trans queued
      rw [State.takeWaitingLoad_price waits kind, State.takePriceLoad_accepted waits good, price]
      exact answered f .accepted _ idle queue now
    · have waits := commands.trans queued
      rw [State.takeWaitingLoad_promo waits kind, State.takePromoLoad_refused waits bad]
      exact answered f .range done idle queue now
    · have waits := commands.trans queued
      rw [State.takeWaitingLoad_promo waits kind, State.takePromoLoad_accepted waits good, promo]
      exact answered f .accepted _ idle queue now

end Sys2Proof.Machine
end

section
/-!
PROOFS. ALERT CLEAR and ALERT ENABLE (sections 9.3 and 5.4).
-/

namespace Sys2Proof.Machine

/-! ### The frame leaves the Command Queue beside the ALERT frames -/

/-- What neither reads nor changes the fronts does the same where the frame has left before. -/
theorem State.removeImmediate_commutes {act : State → State} {f : InFrame} {rest : List InFrame} {s : State}
    (queued : s.commands = f :: rest)
    (keeps : (act s).commands = s.commands ∧ (act s).store = s.store ∧ (act s).link.returnedStream = s.link.returnedStream ∧
      (act s).link.returnedCommand = s.link.returnedCommand)
    (commutes : ∀ store commands stream command, act (s.withFronts store commands stream command) =
      (act s).withFronts store commands stream command) : (act s).removeImmediate = act s.removeImmediate := by
  obtain ⟨commands, store, stream, command⟩ := keeps
  rw [State.removeImmediate_eq_withFronts (commands.trans queued), State.removeImmediate_eq_withFronts queued, commutes, store, stream,
    command]

theorem State.raiseLevels_withFronts (l : List Cause) (store commands : List InFrame) (stream command : Nat) (s : State) :
    (s.withFronts store commands stream command).raiseLevels l = (s.raiseLevels l).withFronts store commands stream command := by
  induction l generalizing s with
  | nil => rfl
  | cons c l ih =>
    have same : (s.withFronts store commands stream command).levelHolds c = s.levelHolds c := by cases c <;> rfl
    change State.raiseLevels l (if (s.withFronts store commands stream command).levelHolds c then
      (s.withFronts store commands stream command).raise c else s.withFronts store commands stream command) =
        (State.raiseLevels l (if s.levelHolds c then s.raise c else s)).withFronts store commands stream command
    rw [← ih, same]
    split
    · rw [State.raise_withFronts]
    · rfl

theorem State.reportCauses_withFronts (l : List Cause) (store commands : List InFrame) (stream command : Nat) (s : State) :
    (s.withFronts store commands stream command).reportCauses l = (s.reportCauses l).withFronts store commands stream command := by
  induction l generalizing s with
  | nil => rfl
  | cons c l ih =>
    change State.reportCauses l ((s.withFronts store commands stream command).reportCause c) =
      (State.reportCauses l (s.reportCause c)).withFronts store commands stream command
    rw [← ih, State.reportCause_withFronts]

theorem answeredCommand_link_congr {f : InFrame} {result : StatusResult} {s t : State} (link : s.link = t.link) :
    (answeredCommand f result s).link = (answeredCommand f result t).link := by
  unfold answeredCommand State.answer State.queueFrame
  dsimp only
  rw [link]
  split <;> rfl

theorem State.cause_answeredCommand (f : InFrame) (result : StatusResult) (s : State) (c : Cause) :
    (answeredCommand f result s).cause c = s.cause c := State.cause_congr (by simp [answeredCommand]) c

/-! ### The twenty values -/

theorem parseCauseValues_eq_none {payload : List Byte} (bad : payload.length ≠ 20 ∨ ∃ b ∈ payload, 1 < b.toNat) :
    parseCauseValues payload = none := by
  rw [parseCauseValues]
  split
  · next length =>
    obtain ⟨b, mem, large⟩ := bad.resolve_left (not_not_intro length)
    cases parsed : payload.mapM fun b => yesNoOf b.toNat with
    | none => rfl
    | some values =>
      have all := mapM_eq_some_iff.mp parsed
      have here : yesNoOf b.toNat ∈ values.map some := all ▸ List.mem_map_of_mem mem
      rw [yesNoOf_of_lt large] at here
      simp at here
  · rfl

theorem yesNoOf_of_le {b : Byte} (small : b.toNat ≤ 1) : yesNoOf b.toNat = some (decide (b = 1)) := by
  rw [yesNoOf_eq_some_iff]
  by_cases one : b = 1
  · subst one
    rfl
  · have other : b.toNat ≠ 1 := fun h => one (BitVec.eq_of_toNat_eq h)
    rw [decide_eq_false one, Bool.toNat_false]
    omega

theorem parseCauseValues_eq_some {payload : List Byte} (length : payload.length = 20) (small : ∀ b ∈ payload, b.toNat ≤ 1) :
    parseCauseValues payload = some (payload.map fun b => decide (b = 1)) := by
  rw [parseCauseValues, if_pos length, mapM_eq_some_iff, List.map_map]
  exact List.map_congr_left fun b mem => yesNoOf_of_le (small b mem)

/-- The value of a cause. -/
theorem getD_values (payload : List Byte) (i : Nat) :
    (payload.map fun b => decide (b = 1)).getD i false = decide (payload.getD i 0 = 1) := by
  rw [List.getD_eq_getElem?_getD, List.getD_eq_getElem?_getD, List.getElem?_map]
  cases payload[i]? <;> rfl

theorem namedCauses_eq (payload : List Byte) : namedCauses (payload.map fun b => decide (b = 1)) =
    allCauses.filter fun c => decide (payload.getD c.code 0 = 1) :=
  List.filter_congr fun c _ => getD_values payload c.code

theorem mem_namedCauses (payload : List Byte) (c : Cause) :
    c ∈ namedCauses (payload.map fun b => decide (b = 1)) ↔ payload.getD c.code 0 = 1 := by
  rw [namedCauses_eq, List.mem_filter, decide_eq_true_eq]
  exact and_iff_right (mem_allCauses c)

theorem namedCauses_nodup (payload : List Byte) : (namedCauses (payload.map fun b => decide (b = 1))).Nodup := by
  rw [namedCauses_eq]
  exact allCauses_nodup.filter _

/-! ### Causes that are cleared, and channels that are armed -/

theorem State.length_causes_clearCauses (l : List Cause) (s : State) :
    (s.clearCauses l).alerts.causes.length = s.alerts.causes.length := by
  induction l generalizing s with
  | nil => rfl
  | cons d l ih =>
    change (State.clearCauses l ((s.clearCause d).armChannel d)).alerts.causes.length = _
    rw [ih]
    simp [State.clearCause, State.setCause]

theorem State.cause_clearCauses (l : List Cause) (c : Cause) {s : State} (twenty : s.alerts.causes.length = 20) :
    (s.clearCauses l).cause c =
      if c ∈ l then { s.cause c with pending := false, reported := false, count := 0 } else s.cause c := by
  induction l generalizing s with
  | nil => simp [State.clearCauses]
  | cons d l ih =>
    have first : ((s.clearCause d).armChannel d).cause c =
        if c = d then { s.cause c with pending := false, reported := false, count := 0 } else s.cause c := by
      have same : ((s.clearCause d).armChannel d).cause c = (s.clearCause d).cause c := State.cause_congr (by simp) c
      rw [same, State.clearCause]
      split
      · next own =>
        rw [own, State.cause_setCause twenty]
      · next other => rw [State.cause_setCause_of_ne other]
    change (State.clearCauses l ((s.clearCause d).armChannel d)).cause c = _
    rw [ih (by simpa [State.clearCause, State.setCause] using twenty), first]
    by_cases own : c = d <;> by_cases mem : c ∈ l <;> simp [own, mem]

theorem State.tripped_eq_true_iff {i : Nat} {s : State} :
    s.tripped i = true ↔ ∃ ch, s.monitor.channels[i]? = some ch ∧ ch.state = .tripped := by
  unfold State.tripped
  cases s.monitor.channels[i]? <;> simp

theorem State.channel_armChannel (c : Cause) {i : Nat} (inside : i < 4) (s : State) :
    (s.armChannel c).monitor.channels[i]? = s.monitor.channels[i]?.map fun ch =>
      if c.code = i ∧ ch.state = .tripped then { ch with armed := true } else ch := by
  by_cases arms : c.code < 4 ∧ s.tripped c.code = true
  · obtain ⟨ch, channel, tripped⟩ := State.tripped_eq_true_iff.mp arms.2
    rw [State.armChannel, if_pos arms, List.getElem?_modify]
    by_cases own : c.code = i
    · subst own
      simp [channel, tripped]
    · simp [own]
  · rw [State.armChannel, if_neg arms]
    cases channel : s.monitor.channels[i]? with
    | none => rfl
    | some ch =>
      have unmoved : ¬ (c.code = i ∧ ch.state = .tripped) := fun ⟨own, tripped⟩ =>
        arms ⟨own ▸ inside, State.tripped_eq_true_iff.mpr ⟨ch, own ▸ channel, tripped⟩⟩
      rw [Option.map_some, if_neg unmoved]

theorem State.channel_clearCauses (l : List Cause) {i : Nat} (inside : i < 4) (s : State) :
    (s.clearCauses l).monitor.channels[i]? = s.monitor.channels[i]?.map fun ch =>
      if (∃ c ∈ l, c.code = i) ∧ ch.state = .tripped then { ch with armed := true } else ch := by
  induction l generalizing s with
  | nil => simp [State.clearCauses]
  | cons d l ih =>
    have monitor : (s.clearCause d).monitor = s.monitor := by simp
    change (State.clearCauses l ((s.clearCause d).armChannel d)).monitor.channels[i]? = _
    rw [ih, State.channel_armChannel d inside, monitor, Option.map_map]
    refine congrArg (fun f => s.monitor.channels[i]?.map f) (funext fun ch => ?_)
    by_cases own : d.code = i <;> by_cases tripped : ch.state = .tripped <;> simp [own, tripped]

/-- A cause of a channel is named by its number. -/
theorem exists_namedCause_iff (payload : List Byte) {i : Nat} (inside : i < 4) :
    (∃ c ∈ namedCauses (payload.map fun b => decide (b = 1)), c.code = i) ↔ payload.getD i 0 = 1 := by
  constructor
  · rintro ⟨c, named, rfl⟩
    exact (mem_namedCauses payload c).mp named
  · intro value
    obtain ⟨c, rfl⟩ : ∃ c : Cause, c.code = i := by
      interval_cases i
      · exact ⟨.monHeadR, rfl⟩
      · exact ⟨.monHeadG, rfl⟩
      · exact ⟨.monHeadB, rfl⟩
      · exact ⟨.monDev, rfl⟩
    exact ⟨c, (mem_namedCauses payload c).mpr value, rfl⟩

/-! ### ALERT CLEAR -/

/-- The four level causes, in ascending order. -/
theorem filter_levelHolds (s : State) (P : Cause → Bool) :
    (allCauses.filter fun c => s.levelHolds c && P c) =
      [Cause.paperLow, .jam, .estop, .trayFull].filter fun c => s.levelHolds c && P c := by
  have levels : [Cause.paperLow, .jam, .estop, .trayFull] =
      allCauses.filter fun c => c = .paperLow ∨ c = .jam ∨ c = .estop ∨ c = .trayFull := by decide
  rw [levels, List.filter_filter]
  refine List.filter_congr fun c _ => ?_
  cases c <;> simp [State.levelHolds]

section
variable {f : InFrame} {rest : List InFrame} {s : State}

/-- The causes that a payload names. -/
def InFrame.namedCauses (f : InFrame) : List Cause := Machine.namedCauses (f.payload.map fun b => decide (b = 1))

theorem InFrame.mem_namedCauses (c : Cause) : c ∈ f.namedCauses ↔ f.payload.getD c.code 0 = 1 := Machine.mem_namedCauses f.payload c

theorem InFrame.namedCauses_nodup (f : InFrame) : f.namedCauses.Nodup := Machine.namedCauses_nodup f.payload

/-- What an ALERT CLEAR leaves before its level causes are raised again. -/
def State.cleared (f : InFrame) (s : State) : State := answeredCommand f .accepted (s.clearCauses f.namedCauses)

theorem State.takeAlertClear_accepted (queued : s.commands = f :: rest)
    (length : f.payload.length = 20) (small : ∀ b ∈ f.payload, b.toNat ≤ 1) :
    s.takeAlertClear f = (s.cleared f).raiseLevels f.namedCauses := by
  have commutes := State.removeImmediate_commutes (act := State.raiseLevels f.namedCauses) (f := f) (rest := rest)
    (s := State.answer f .accepted (s.clearCauses f.namedCauses)) (by simpa using queued) (by simp)
    fun store commands stream command => State.raiseLevels_withFronts _ store commands stream command _
  rw [State.takeAlertClear, parseCauseValues_eq_some length small]
  refine commutes.trans ?_
  rw [State.removeImmediate_answer (g := f) (rest := rest) (by simpa using queued), State.cleared]

theorem State.cleared_twenty (twenty : s.alerts.causes.length = 20) : (s.cleared f).alerts.causes.length = 20 := by
  simpa [State.cleared, answeredCommand, State.length_causes_clearCauses] using twenty

theorem State.cause_cleared (twenty : s.alerts.causes.length = 20) (c : Cause) :
    (s.cleared f).cause c =
      if f.payload.getD c.code 0 = 1 then { s.cause c with pending := false, reported := false, count := 0 } else s.cause c := by
  rw [State.cleared, State.cause_answeredCommand, State.cause_clearCauses _ c twenty]
  simp only [InFrame.mem_namedCauses]

theorem State.levelHolds_cleared (c : Cause) : (s.cleared f).levelHolds c = s.levelHolds c := by
  cases c <;> simp [State.levelHolds, State.cleared, answeredCommand]

theorem InFrame.filter_namedCauses (f : InFrame) (P : Cause → Bool) :
    f.namedCauses.filter P = allCauses.filter fun c => P c && decide (f.payload.getD c.code 0 = 1) := by
  rw [InFrame.namedCauses, namedCauses_eq, List.filter_filter]

/-- The level causes that an ALERT CLEAR reports. -/
theorem filter_cleared (twenty : s.alerts.causes.length = 20) :
    (f.namedCauses.filter fun c =>
      (s.cleared f).levelHolds c && ((s.cleared f).cause c).enabled && !((s.cleared f).cause c).reported) =
      [Cause.paperLow, .jam, .estop, .trayFull].filter fun c =>
        decide (f.payload.getD c.code 0 = 1) && s.levelHolds c && (s.cause c).enabled := by
  have pointwise : ∀ c, ((s.cleared f).levelHolds c && ((s.cleared f).cause c).enabled && !((s.cleared f).cause c).reported &&
      decide (f.payload.getD c.code 0 = 1)) =
      (s.levelHolds c && (decide (f.payload.getD c.code 0 = 1) && (s.cause c).enabled)) := fun c => by
    rw [State.levelHolds_cleared, State.cause_cleared twenty]
    by_cases named : f.payload.getD c.code 0 = 1
    · rw [if_pos named, decide_eq_true named]
      simp
    · rw [decide_eq_false named]
      simp
  rw [InFrame.filter_namedCauses, funext pointwise, filter_levelHolds]
  exact List.filter_congr fun c _ => by rw [Bool.and_left_comm, Bool.and_assoc]

/-- The ALERT frames of an ALERT CLEAR. -/
theorem State.raiseLevels_cleared_link (twenty : s.alerts.causes.length = 20) :
    let told := ([.paperLow, .jam, .estop, .trayFull].filter fun c : Cause =>
        decide (f.payload.getD c.code 0 = 1) && s.levelHolds c && (s.cause c).enabled).foldl
      (fun u c => u.report .alert (bytesOf 1 c.code ++ bytesOf 1 1)) (answeredCommand f .accepted s)
    ((s.cleared f).raiseLevels f.namedCauses).link = told.link ∧ ((s.cleared f).raiseLevels f.namedCauses).freeTags = told.freeTags := by
  intro told
  have raised := State.raiseLevels_link f.namedCauses f.namedCauses_nodup (s.cleared_twenty (f := f) twenty)
  dsimp only at raised
  rw [List.foldl_ext _ (fun u c => u.report .alert (bytesOf 1 c.code ++ bytesOf 1 1)) _ fun u c mem => by
    rw [State.cause_cleared twenty, if_pos ((InFrame.mem_namedCauses c).mp (List.mem_of_mem_filter mem))]
    rfl, filter_cleared twenty] at raised
  have link : (s.cleared f).link = (answeredCommand f .accepted s).link := answeredCommand_link_congr (by simp)
  have tags : (s.cleared f).freeTags = (answeredCommand f .accepted s).freeTags := by simp [State.cleared, answeredCommand]
  obtain ⟨sameLink, sameTags⟩ := State.foldl_report_congr (k := .alert) (payload := fun c : Cause => bytesOf 1 c.code ++ bytesOf 1 1)
    ([.paperLow, .jam, .estop, .trayFull].filter fun c : Cause =>
      decide (f.payload.getD c.code 0 = 1) && s.levelHolds c && (s.cause c).enabled) link tags
  exact ⟨raised.1.trans sameLink, raised.2.trans sameTags⟩

/-! ### ALERT ENABLE -/

/-- What an ALERT ENABLE leaves before it reports causes. -/
def State.enabledBy (f : InFrame) (s : State) : State :=
  answeredCommand f .accepted (s.setEnables (f.payload.map fun b => decide (b = 1)))

theorem State.takeAlertEnable_accepted (queued : s.commands = f :: rest) (length : f.payload.length = 20)
    (small : ∀ b ∈ f.payload, b.toNat ≤ 1) : s.takeAlertEnable f = (s.enabledBy f).reportCauses allCauses := by
  have commutes := State.removeImmediate_commutes (act := State.reportCauses allCauses) (f := f) (rest := rest)
    (s := State.answer f .accepted (s.setEnables (f.payload.map fun b => decide (b = 1)))) (by simpa [State.setEnables] using queued)
    (by simp) fun store commands stream command => State.reportCauses_withFronts _ store commands stream command _
  rw [State.takeAlertEnable, parseCauseValues_eq_some length small]
  refine commutes.trans ?_
  rw [State.removeImmediate_answer (g := f) (rest := rest) (by simpa [State.setEnables] using queued), State.enabledBy]

theorem State.enabledBy_twenty (length : f.payload.length = 20) (twenty : s.alerts.causes.length = 20) :
    (s.enabledBy f).alerts.causes.length = 20 := by
  simp [State.enabledBy, answeredCommand, State.setEnables, length, twenty]

theorem State.cause_enabledBy (length : f.payload.length = 20) (twenty : s.alerts.causes.length = 20) (c : Cause) :
    (s.enabledBy f).cause c = { s.cause c with enabled := decide (f.payload.getD c.code 0 = 1) } := by
  have inside := c.code_lt
  rw [State.enabledBy, State.cause_answeredCommand, State.cause, State.setEnables, State.cause]
  simp [List.getD_eq_getElem?_getD, length, twenty, inside]

/-- The ALERT frames of an ALERT ENABLE. -/
theorem State.reportCauses_enabledBy_link (length : f.payload.length = 20) (twenty : s.alerts.causes.length = 20) :
    let told := (allCauses.filter fun c =>
        decide (f.payload.getD c.code 0 = 1) && (s.cause c).pending && !(s.cause c).reported).foldl
      (fun u c => u.report .alert (bytesOf 1 c.code ++ bytesOf 1 (s.cause c).count)) (answeredCommand f .accepted s)
    ((s.enabledBy f).reportCauses allCauses).link = told.link ∧ ((s.enabledBy f).reportCauses allCauses).freeTags = told.freeTags := by
  intro told
  have reported := State.reportCauses_link allCauses allCauses_nodup (s.enabledBy_twenty (f := f) length twenty)
  simp only [State.cause_enabledBy length twenty] at reported
  have link : (s.enabledBy f).link = (answeredCommand f .accepted s).link := answeredCommand_link_congr rfl
  have tags : (s.enabledBy f).freeTags = (answeredCommand f .accepted s).freeTags := by
    simp [State.enabledBy, answeredCommand, State.setEnables]
  obtain ⟨sameLink, sameTags⟩ := State.foldl_report_congr (k := .alert)
    (payload := fun c : Cause => bytesOf 1 c.code ++ bytesOf 1 (s.cause c).count)
    (allCauses.filter fun c => decide (f.payload.getD c.code 0 = 1) && (s.cause c).pending && !(s.cause c).reported) link tags
  exact ⟨reported.1.trans sameLink, reported.2.trans sameTags⟩

end

/-- Settles O27: by the causes one after another in ascending order, once the frame is gone. -/
theorem alertClearAndEnable : Obligations.AlertClearAndEnable := by
  refine ⟨fun f rest s front twenty => ⟨fun bad => ?refused, fun length small => ?clear⟩,
    fun f rest s front twenty => ⟨fun bad => ?refusedEnable, fun length small => ?enable⟩, allCauses_codes⟩
  case refused =>
    rw [exec_command_front front rfl (rfl : effect .alertClear s = s.onImmediate .alertClear State.takeAlertClear),
      State.takeAlertClear, parseCauseValues_eq_none bad, State.removeImmediate_answer front.2.1]
  case refusedEnable =>
    rw [exec_command_front front rfl (rfl : effect .alertEnable s = s.onImmediate .alertEnable State.takeAlertEnable),
      State.takeAlertEnable, parseCauseValues_eq_none bad, State.removeImmediate_answer front.2.1]
  case clear =>
    intro holds told
    have acts : exec .alertClear s = .next (s.takeAlertClear f) := exec_command_front front rfl rfl
    have level : ∀ c, holds c = s.levelHolds c := fun c => by cases c <;> rfl
    obtain ⟨link, tags⟩ := s.raiseLevels_cleared_link (f := f) twenty
    refine ⟨_, acts, ?_⟩
    rw [State.takeAlertClear_accepted front.2.1 length small]
    refine ⟨?_, ?_, fun c => ?_, fun i inside => ?_, ?_⟩
    · simp only [told, level]
      exact link
    · simp only [told, level]
      exact tags
    · rw [State.cause_raiseLevels _ f.namedCauses_nodup c (s.cleared_twenty twenty), State.levelHolds_cleared,
        State.cause_cleared twenty]
      simp only [InFrame.mem_namedCauses, level]
      by_cases named : f.payload.getD c.code 0 = 1
      · by_cases held : s.levelHolds c = true
        · rw [if_pos ⟨named, held⟩, if_pos named, if_pos named, if_pos held]
          simp [saturate]
        · rw [if_neg fun both => held both.2, if_pos named, if_pos named, if_neg held]
      · rw [if_neg fun both => named both.1, if_neg named, if_neg named]
    · have monitor : ((s.cleared f).raiseLevels f.namedCauses).monitor = (s.clearCauses f.namedCauses).monitor := by
        simp [State.cleared, answeredCommand]
      rw [monitor, State.channel_clearCauses _ inside]
      simp only [InFrame.namedCauses, exists_namedCause_iff f.payload inside]
    · simp [State.cleared, answeredCommand, front.2.1]
  case enable =>
    intro told
    have acts : exec .alertEnable s = .next (s.takeAlertEnable f) := exec_command_front front rfl rfl
    obtain ⟨link, tags⟩ := s.reportCauses_enabledBy_link (f := f) length twenty
    refine ⟨_, acts, ?_⟩
    rw [State.takeAlertEnable_accepted front.2.1 length small]
    refine ⟨link, tags, fun c => ?_, ?_⟩
    · rw [State.cause_reportCauses _ c (s.enabledBy_twenty length twenty), if_pos (mem_allCauses c),
        State.cause_enabledBy length twenty]
    · simp [State.enabledBy, answeredCommand, State.setEnables, front.2.1]

end Sys2Proof.Machine
end

section
/-!
PROOFS. What a cut-done frees and fires, and how a PRINT piece is judged (sections 6.4 and 6.5).
-/

namespace Sys2Proof.Machine

/-! ### The judgement of a PRINT piece -/

/-- The order of a print is being wound down. -/
def State.Dying (p : PrintRecord) (s : State) : Prop :=
  ∃ r, s.findOrder p.order = some r ∧ (r.state = .cancelling ∨ r.state = .failing)

theorem OrderState.windingDown_isSome_iff (state : OrderState) :
    state.windingDown.isSome = true ↔ state = .cancelling ∨ state = .failing := by
  cases state <;> simp [OrderState.windingDown]

theorem DamageFlags.mem_reasons (f : DamageFlags) (reason : RejectReason) : reason ∈ f.reasons ↔
    (reason = .underrun ∧ f.underrun = true ∨ reason = .short ∧ f.short = true ∨ reason = .aborted ∧ f.aborted = true ∨
      reason = .chem ∧ f.chem = true ∨ reason = .dwell ∧ f.dwell = true ∨ reason = .miscut ∧ f.miscut = true ∨
      reason = .cancelled ∧ f.cancelled = true) := by
  have listed : ∀ (flag : Bool) (named : RejectReason), reason ∈ (if flag then [named] else []) ↔ reason = named ∧ flag = true :=
    fun flag named => by cases flag <;> simp
  simp only [DamageFlags.reasons, List.mem_append, listed, or_assoc]

theorem State.mem_pieceReasons (g : Segment) (p : PrintRecord) (s : State) (reason : RejectReason) :
    reason ∈ s.pieceReasons g p ↔
      (reason = .underrun ∧ g.flags.underrun = true ∨ reason = .short ∧ g.flags.short = true ∨
        reason = .aborted ∧ g.flags.aborted = true ∨ reason = .chem ∧ g.flags.chem = true ∨
        reason = .dwell ∧ g.flags.dwell = true ∨ reason = .miscut ∧ g.flags.miscut = true ∨
        reason = .cancelled ∧ (g.flags.cancelled = true ∨ s.Dying p)) := by
  have dying : (match s.findOrder p.order with | some r => r.state.windingDown.isSome | none => false) = true ↔ s.Dying p := by
    unfold State.Dying
    cases s.findOrder p.order with
    | none => simp
    | some r => simp [OrderState.windingDown_isSome_iff]
  rw [State.pieceReasons, DamageFlags.mem_reasons, Bool.or_eq_true]
  exact or_congr_right (or_congr_right (or_congr_right (or_congr_right (or_congr_right (or_congr_right
    (and_congr_right fun _ => or_congr_right dying))))))

section
variable {g : Segment} {p : PrintRecord} {s : State}

theorem State.classify_rejected (kind : g.kind = .print) (print : g.print = some p) (reasons : s.pieceReasons g p ≠ []) :
    s.classify g = (s.setFlap .chute).rejectPrint p (s.pieceReasons g p) := by
  cases found : s.pieceReasons g p with
  | nil => exact absurd found reasons
  | cons reason others => simp only [State.classify, kind, print, found]

theorem State.classify_good (kind : g.kind = .print) (print : g.print = some p) (reasons : s.pieceReasons g p = []) :
    s.classify g = s.sendGood p := by
  simp only [State.classify, kind, print, reasons]

theorem State.classify_other (kind : g.kind ≠ .print) : s.classify g = s.setFlap .chute := by
  unfold State.classify
  split
  · next print _ => exact absurd print kind
  · rfl

end

/-- Settles O40: by the reasons of the piece and the answer of the sorter. -/
theorem printPiecesAreJudged : Obligations.PrintPiecesAreJudged := by
  intro g p s kind print dying
  refine ⟨fun reason => s.mem_pieceReasons g p reason, fun reasons => State.classify_rejected kind print reasons,
    fun target t reasons sorted => ?_, fun reason t reasons sorted => ?_⟩
  · rw [State.classify_good kind print reasons, State.sendGood, sorted]
  · rw [State.classify_good kind print reasons, State.sendGood, sorted]
    rfl

/-! ### The cut that falls due behind a cut-done -/

section
variable {e : CutEntry} {rest : List CutEntry} {s : State}

theorem State.dueEntry_eq (idle : s.cutter.progress = none) (oldest : s.cutter.cutList = e :: rest) :
    s.dueEntry = if e.cutAt ≤ s.path.position then some e else none := by
  rw [State.dueEntry, idle, oldest]

theorem State.fireLate_waits (idle : s.cutter.progress = none) (oldest : s.cutter.cutList = e :: rest)
    (waits : (s.path.position : Int) < e.cutAt ∨ e.retry = true) : s.fireLate = s := by
  rw [State.fireLate, State.dueEntry_eq idle oldest]
  split
  · next found due =>
    obtain ⟨reached, same⟩ := Option.ite_none_right_eq_some.mp due
    obtain rfl := Option.some.inj same
    exact if_pos (waits.resolve_left (by omega))
  · rfl

theorem State.fireLate_fires (idle : s.cutter.progress = none) (oldest : s.cutter.cutList = e :: rest)
    (due : e.cutAt ≤ s.path.position) (fresh : e.retry = false) : s.fireLate = (s.markLate e.boundary).fire := by
  rw [State.fireLate, State.dueEntry_eq idle oldest, if_pos due]
  exact if_neg (by simp [fresh])

end

/-! ### A cut-done -/

theorem exec_cutDone {s : State} (out : s.inReset = false) : exec .cutDone s = .next s.takeCutDone :=
  State.event_of_not_inReset out

theorem State.takeCutDone_none {s : State} (idle : s.cutter.progress = none) : s.takeCutDone = s.bump .lateCutDone := by
  rw [State.takeCutDone, idle]

theorem State.takeCutDone_some {p : CutProgress} {e : CutEntry} {rest : List CutEntry} {s : State}
    (progress : s.cutter.progress = some p) (oldest : s.cutter.cutList = e :: rest) : s.takeCutDone = s.completeCut e rest := by
  rw [State.takeCutDone, progress, oldest]

theorem State.freePiece_other {g : Segment} {queue : List Segment} {s : State} (oldest : s.path.queue = g :: queue)
    (kind : g.kind ≠ .print) : s.freePiece = State.setFlap .chute { s with path := { s.path with queue := queue } } := by
  rw [State.freePiece, oldest]
  dsimp only
  rw [if_neg (by simp [kind]), State.classify_other kind]

theorem State.freePiece_print {g : Segment} {queue : List Segment} {s : State} (oldest : s.path.queue = g :: queue)
    (kind : g.kind = .print) : s.freePiece =
      let judged := State.classify g { s with path := { s.path with queue := queue } }
      if judged.path.run = .draining ∧ judged.hasPrint = false then judged.endDrain else judged := by
  rw [State.freePiece, oldest]
  simp [kind]

/-- Settles O39: by the boundary of the cut and the kind of the record, and by the entry that is due behind it. -/
theorem cutDoneFreesAPiece : Obligations.CutDoneFreesAPiece := by
  refine ⟨fun s out idle => ?late, fun p e rest s out progress oldest => ?done, fun e rest s idle oldest => ?fires⟩
  case late =>
    rw [exec_cutDone out, State.takeCutDone_none idle]
    rfl
  case done =>
    intro cut
    rw [exec_cutDone out, State.takeCutDone_some progress oldest]
    refine ⟨fun j point => ?_, fun start g queue record first kind => ?_, fun start g queue record first kind => ?_⟩
    · rw [State.completeCut, point]
      rfl
    · rw [State.completeCut, record]
      exact congrArg (fun t => Host.Outcome.next (State.fireLate t))
        (State.freePiece_other (s := { s with cutter := { s.cutter with progress := none, cutList := rest } }) first kind)
    · intro judged
      rw [State.completeCut, record]
      exact congrArg (fun t => Host.Outcome.next (State.fireLate t))
        (State.freePiece_print (s := { s with cutter := { s.cutter with progress := none, cutList := rest } }) first kind)
  case fires =>
    intro fired
    refine ⟨State.fireLate_waits idle oldest, fun j due fresh point => ?_, fun start due fresh record => ?_⟩
    · rw [State.fireLate_fires idle oldest due fresh, point]
      rfl
    · have queue := s.markLate_record_queue start
      rw [State.fireLate_fires idle oldest due fresh, record, ← queue]
      rfl

end Sys2Proof.Machine
end

section
/-!
PROOFS. The Cutter Unit at a step (sections 6.1 to 6.4): the boundaries that are predicted, the cut points that are scheduled, the fire.
-/

namespace Sys2Proof.Machine

/-! ### One test of the boundary under watch -/

theorem State.raise_withCutter (c : Cause) (s : State) (cutter : CutterUnit) :
    ({ s with cutter := cutter } : State).raise c = { s.raise c with cutter := cutter } := by
  unfold State.raise State.reportCause State.report State.queueFrame State.setCause State.cause
  dsimp only
  repeat' split
  all_goals rfl

theorem State.setLead_mapAdjacent_queue (start : Int) (lead : LeadState) (s : State) :
    ((s.setLead start lead).mapAdjacent start Segment.flagMiscut).path.queue = s.path.queue.map fun g =>
      { g with
        lead := if g.start = start then lead else g.lead
        flags := { g.flags with miscut := g.flags.miscut || decide (g.start = start ∨ g.start + g.length = start) } } := by
  simp only [State.mapAdjacent, State.setLead, State.mapSegments, List.map_map]
  refine List.map_congr_left fun g _ => ?_
  by_cases front : g.start = start <;> by_cases back : g.start + g.length = start <;>
    simp [Segment.flagMiscut, front, back]

theorem firstStartAfter_map {f : Segment → Segment} (starts : ∀ g, (f g).start = g.start) (position : Int) (queue : List Segment) :
    firstStartAfter position (queue.map f) = firstStartAfter position queue := by
  simp [firstStartAfter, List.find?_map, Function.comp_def, starts]

/-- The part where the record boundary at a start has passed its window without a punch, before the cause is raised (R104). -/
def State.predicted (start expected : Int) (s : State) : State :=
  { s with
    path := { s.path with queue := s.path.queue.map fun g =>
      { g with
        lead := if g.start = start then .predicted else g.lead
        flags := { g.flags with miscut := g.flags.miscut || decide (g.start = start ∨ g.start + g.length = start) } } }
    cutter := { s.cutter with
      missing := saturate 65535 s.cutter.missing
      consecutive := saturate 255 s.cutter.consecutive
      cutList := s.cutter.cutList ++
        [{ boundary := .record start, cutAt := expected + s.path.params.dSensor, retry := false }]
      current := firstStartAfter start s.path.queue } }

theorem State.fixCut_raise (c : Cause) (b : Boundary) (cutAt : Int) (s : State) :
    (s.raise c).fixCut b cutAt = (s.fixCut b cutAt).raise c := by
  have path : (s.raise c).path = s.path := by simp
  have cutter : (s.raise c).cutter = s.cutter := by simp
  have next : (s.raise c).nextBoundary b = s.nextBoundary b := by
    cases b <;> simp only [State.nextBoundary, State.cutPointOr, State.purgeRecord, path]
  rw [State.fixCut, next, cutter]
  exact (State.raise_withCutter c s _).symm

/-- The part where the record boundary at a start is counted as missing, its cut not yet fixed (R104). -/
def State.missed (start : Int) (s : State) : State :=
  { (s.setLead start .predicted).mapAdjacent start Segment.flagMiscut with
    cutter := { s.cutter with
      missing := saturate 65535 s.cutter.missing, consecutive := saturate 255 s.cutter.consecutive } }

theorem State.fixCut_missed (start expected : Int) (s : State) :
    (s.missed start).fixCut (.record start) (expected + s.path.params.dSensor) = s.predicted start expected := by
  have queue : (s.missed start).path.queue = _ := State.setLead_mapAdjacent_queue start .predicted s
  have path : (s.missed start).path = (s.predicted start expected).path :=
    congrArg (fun queue => { s.path with queue := queue }) queue
  have next : (s.missed start).nextBoundary (.record start) = firstStartAfter start s.path.queue := by
    rw [State.nextBoundary, queue]
    exact firstStartAfter_map (by exact fun _ => rfl) _ _
  rw [State.fixCut, next]
  exact congrArg (fun path => { s.predicted start expected with path := path }) path

theorem State.declareMissing_eq (start expected : Int) (s : State) :
    s.declareMissing start expected =
      if 3 ≤ saturate 255 s.cutter.consecutive then (s.predicted start expected).raise .regMissing
      else s.predicted start expected := by
  have opened : s.declareMissing start expected =
      (fun u : State => u.fixCut (.record start) (expected + u.path.params.dSensor))
        (if 3 ≤ saturate 255 s.cutter.consecutive then (s.missed start).raise .regMissing else s.missed start) := rfl
  have path : ((s.missed start).raise .regMissing).path = (s.missed start).path := by simp
  rw [opened, ← State.fixCut_missed, ← State.fixCut_raise]
  split
  · simp only [path]
    rfl
  · rfl

section
variable {s : State} {start expected : Int} {j : Nat}

theorem State.testBoundaries_unwatched (fuel : Nat) (unwatched : s.cutter.current = none) :
    s.testBoundaries fuel = (s, false) := by
  cases fuel with
  | zero => rfl
  | succ fuel => simp only [State.testBoundaries, unwatched]

theorem State.testBoundaries_record_ahead (fuel : Nat) (watched : s.cutter.current = some (.record start))
    (expects : s.expectedAt (.record start) = some expected)
    (ahead : (s.path.position : Int) < expected + s.path.params.window + 1) : s.testBoundaries fuel = (s, false) := by
  cases fuel with
  | zero => rfl
  | succ fuel =>
    simp only [State.testBoundaries, watched, expects]
    exact if_neg ahead.not_ge

theorem State.testBoundaries_record_missing (fuel : Nat) (watched : s.cutter.current = some (.record start))
    (expects : s.expectedAt (.record start) = some expected)
    (passed : expected + s.path.params.window + 1 ≤ (s.path.position : Int)) :
    s.testBoundaries (fuel + 1) = (s.declareMissing start expected).testBoundaries fuel := by
  rw [State.testBoundaries]
  simp only [watched, expects]
  exact if_pos passed

theorem State.testBoundaries_cutPoint_unexpected (fuel : Nat) (watched : s.cutter.current = some (.cutPoint j))
    (unexpected : s.expectedAt (.cutPoint j) = none) : s.testBoundaries fuel = (s, false) := by
  cases fuel with
  | zero => rfl
  | succ fuel => simp only [State.testBoundaries, watched, unexpected]

theorem State.testBoundaries_cutPoint_ahead (fuel : Nat) (watched : s.cutter.current = some (.cutPoint j))
    (expects : s.expectedAt (.cutPoint j) = some expected) (ahead : (s.path.position : Int) < expected) :
    s.testBoundaries fuel = (s, false) := by
  cases fuel with
  | zero => rfl
  | succ fuel =>
    simp only [State.testBoundaries, watched, expects]
    exact if_neg ahead.not_ge

theorem State.testBoundaries_cutPoint_reached (fuel : Nat) (watched : s.cutter.current = some (.cutPoint j))
    (expects : s.expectedAt (.cutPoint j) = some expected) (reached : expected ≤ (s.path.position : Int)) :
    s.testBoundaries (fuel + 1) = (((s.scheduleCutPoint j expected).testBoundaries fuel).1, true) := by
  rw [State.testBoundaries]
  simp only [watched, expects]
  exact if_pos reached

end

/-! ### The fuel is enough: the boundary that stays under watch lies ahead -/

/-- How many records of a queue begin behind a web position. -/
def startsBeyond (position : Int) (queue : List Segment) : Nat := queue.countP fun g => decide (position < g.start)

theorem startsBeyond_anti {a b : Int} (le : a ≤ b) (queue : List Segment) : startsBeyond b queue ≤ startsBeyond a queue :=
  List.countP_mono_left fun _ _ beyond => decide_eq_true (le.trans_lt (of_decide_eq_true beyond))

theorem startsBeyond_lt {a : Int} {g : Segment} {queue : List Segment} (present : g ∈ queue) (beyond : a < g.start) :
    startsBeyond g.start queue < startsBeyond a queue := by
  induction queue with
  | nil => cases present
  | cons h queue ih =>
    simp only [startsBeyond, List.countP_cons]
    rcases List.mem_cons.mp present with rfl | inRest
    · have rest := startsBeyond_anti beyond.le queue
      simpa [beyond, startsBeyond] using Nat.lt_succ_of_le rest
    · have rest := ih inRest
      by_cases behind : g.start < h.start
      · simpa [behind, beyond.trans behind, startsBeyond] using rest
      · simp only [behind, decide_false, Bool.false_eq_true, if_false]
        exact Nat.lt_add_right _ rest

theorem startsBeyond_map {f : Segment → Segment} (starts : ∀ g, (f g).start = g.start) (position : Int) (queue : List Segment) :
    startsBeyond position (queue.map f) = startsBeyond position queue := by
  simp [startsBeyond, List.countP_map, Function.comp_def, starts]

/-- How many boundaries may still come under watch, the one under watch among them. -/
def State.boundariesLeft (s : State) : Nat :=
  match s.cutter.current, s.purgeRecord with
  | none, _ => 0
  | some (.record start), _ => startsBeyond start s.path.queue + 1
  | some (.cutPoint j), some g => (g.length / s.path.params.wasteUnit + 1 - j) + s.path.queue.length + 1
  | some (.cutPoint _), none => 0

/-- The boundary under watch, if there is one with an expected position, is still to be reached or may still be punched. -/
def State.WatchesAhead (s : State) : Prop :=
  ∀ b expected, s.cutter.current = some b → s.expectedAt b = some expected →
    (∀ j, b = .cutPoint j → (s.path.position : Int) < expected) ∧
    (∀ start, b = .record start → (s.path.position : Int) < expected + s.path.params.window + 1)

theorem State.watchesAhead_unwatched {s : State} (unwatched : s.cutter.current = none) : s.WatchesAhead := by
  intro b expected watched
  rw [unwatched] at watched
  cases watched

theorem State.watchesAhead_unexpected {s : State} {b : Boundary} (watched : s.cutter.current = some b)
    (unexpected : s.expectedAt b = none) : s.WatchesAhead := by
  intro c expected watched' expects
  obtain rfl : b = c := Option.some.inj (watched.symm.trans watched')
  cases unexpected.symm.trans expects

theorem State.watchesAhead_record {s : State} {start expected : Int} (watched : s.cutter.current = some (.record start))
    (expects : s.expectedAt (.record start) = some expected)
    (ahead : (s.path.position : Int) < expected + s.path.params.window + 1) : s.WatchesAhead := by
  intro c expected' watched' expects'
  obtain rfl : _ = c := Option.some.inj (watched.symm.trans watched')
  obtain rfl : expected = expected' := Option.some.inj (expects.symm.trans expects')
  exact ⟨fun j e => (nomatch e), fun _ _ => ahead⟩

theorem State.watchesAhead_cutPoint {s : State} {j : Nat} {expected : Int} (watched : s.cutter.current = some (.cutPoint j))
    (expects : s.expectedAt (.cutPoint j) = some expected) (ahead : (s.path.position : Int) < expected) : s.WatchesAhead := by
  intro c expected' watched' expects'
  obtain rfl : _ = c := Option.some.inj (watched.symm.trans watched')
  obtain rfl : expected = expected' := Option.some.inj (expects.symm.trans expects')
  exact ⟨fun _ _ => ahead, fun start e => (nomatch e)⟩

theorem State.expectedAt_cutPoint_of_no_purge {s : State} (gone : s.purgeRecord = none) (j : Nat) :
    s.expectedAt (.cutPoint j) = none := by
  simp [State.expectedAt, State.boundaryStart, gone]

/-- Behind a boundary that has been dealt with, fewer are left. -/
theorem State.boundariesLeft_firstStartAfter {s : State} {position : Int} {queue : List Segment}
    (starts : ∀ start, startsBeyond start s.path.queue = startsBeyond start queue)
    (watched : s.cutter.current = firstStartAfter position queue) : s.boundariesLeft ≤ startsBeyond position queue := by
  cases found : queue.find? fun g => decide (position < g.start) with
  | none => simp [State.boundariesLeft, watched, firstStartAfter, found]
  | some g =>
    have beyond : position < g.start := by simpa using List.find?_some found
    simpa [State.boundariesLeft, watched, firstStartAfter, found, starts] using
      startsBeyond_lt (List.mem_of_find?_eq_some found) beyond

theorem State.boundariesLeft_declareMissing {s : State} (start expected : Int) :
    (s.declareMissing start expected).boundariesLeft ≤ startsBeyond start s.path.queue := by
  have missed : (s.declareMissing start expected).path.queue = (s.predicted start expected).path.queue ∧
      (s.declareMissing start expected).cutter.current = firstStartAfter start s.path.queue := by
    rw [State.declareMissing_eq]
    split
    · simp [State.predicted]
    · exact ⟨rfl, rfl⟩
  refine State.boundariesLeft_firstStartAfter (fun a => ?_) missed.2
  rw [missed.1]
  exact startsBeyond_map (by exact fun _ => rfl) _ _

theorem State.boundariesLeft_scheduleCutPoint {s : State} {g : Segment} {j : Nat} (expected : Int)
    (wide : 0 < s.path.params.wasteUnit) (purge : s.purgeRecord = some g) (watched : s.cutter.current = some (.cutPoint j)) :
    (s.scheduleCutPoint j expected).boundariesLeft < s.boundariesLeft := by
  have purge' : (s.scheduleCutPoint j expected).purgeRecord = some g := purge
  have next : (s.scheduleCutPoint j expected).cutter.current = s.cutPointOr (j + 1) := rfl
  have before : s.boundariesLeft = (g.length / s.path.params.wasteUnit + 1 - j) + s.path.queue.length + 1 := by
    simp only [State.boundariesLeft, watched, purge]
  by_cases inside : (j + 1) * s.path.params.wasteUnit < g.length
  · have most : j + 1 ≤ g.length / s.path.params.wasteUnit := (Nat.le_div_iff_mul_le wide).mpr inside.le
    rw [State.cutPointOr_inside purge inside] at next
    have after : (s.scheduleCutPoint j expected).boundariesLeft =
        (g.length / s.path.params.wasteUnit + 1 - (j + 1)) + s.path.queue.length + 1 := by
      simp only [State.boundariesLeft, next, purge']
      rfl
    omega
  · rw [State.cutPointOr_beyond purge (not_lt.mp inside)] at next
    calc (s.scheduleCutPoint j expected).boundariesLeft
      _ ≤ startsBeyond g.start s.path.queue := State.boundariesLeft_firstStartAfter (fun _ => rfl) next
      _ ≤ s.path.queue.length := List.countP_le_length
      _ < s.boundariesLeft := by omega

theorem State.testBoundaries_watchesAhead (fuel : Nat) : ∀ {s : State}, 0 < s.path.params.wasteUnit → s.boundariesLeft ≤ fuel →
    (s.testBoundaries fuel).1.WatchesAhead := by
  induction fuel with
  | zero =>
    intro s wide enough
    cases watched : s.cutter.current with
    | none => exact State.watchesAhead_unwatched watched
    | some b =>
      cases b with
      | record start => simp [State.boundariesLeft, watched] at enough
      | cutPoint j =>
        cases purge : s.purgeRecord with
        | none => exact State.watchesAhead_unexpected watched (State.expectedAt_cutPoint_of_no_purge purge j)
        | some g => simp [State.boundariesLeft, watched, purge] at enough
  | succ fuel ih =>
    intro s wide enough
    cases watched : s.cutter.current with
    | none => exact State.testBoundaries_unwatched _ watched ▸ State.watchesAhead_unwatched watched
    | some b =>
      cases b with
      | record start =>
        have expects := s.expectedAt_record start
        by_cases ahead : (s.path.position : Int) <
            start + s.path.params.lCut - s.path.params.dSensor + s.cutter.delta + s.path.params.window + 1
        · rw [State.testBoundaries_record_ahead _ watched expects ahead]
          exact State.watchesAhead_record watched expects ahead
        · rw [State.testBoundaries_record_missing _ watched expects (not_lt.mp ahead)]
          have left : s.boundariesLeft = startsBeyond start s.path.queue + 1 := by simp only [State.boundariesLeft, watched]
          have fewer := State.boundariesLeft_declareMissing (s := s) start
            (start + s.path.params.lCut - s.path.params.dSensor + s.cutter.delta)
          exact ih (by simpa using wide) (by omega)
      | cutPoint j =>
        cases purge : s.purgeRecord with
        | none =>
          have unexpected := State.expectedAt_cutPoint_of_no_purge purge j
          rw [State.testBoundaries_cutPoint_unexpected _ watched unexpected]
          exact State.watchesAhead_unexpected watched unexpected
        | some g =>
          have expects := State.expectedAt_cutPoint purge j
          by_cases ahead : (s.path.position : Int) <
              g.start + (j * s.path.params.wasteUnit : Nat) + s.path.params.lCut - s.path.params.dSensor + s.cutter.delta
          · rw [State.testBoundaries_cutPoint_ahead _ watched expects ahead]
            exact State.watchesAhead_cutPoint watched expects ahead
          · rw [State.testBoundaries_cutPoint_reached _ watched expects (not_lt.mp ahead)]
            exact ih (by simpa using wide)
              (Nat.le_of_lt_succ ((State.boundariesLeft_scheduleCutPoint _ wide purge watched).trans_le enough))

/-- The fuel of a step covers every boundary that may come under watch. -/
theorem State.boundariesLeft_le_boundaryFuel {s : State} (wide : 0 < s.path.params.wasteUnit) : s.boundariesLeft ≤ s.boundaryFuel := by
  have all : ∀ start, startsBeyond start s.path.queue ≤ s.path.queue.length := fun _ => List.countP_le_length
  have unit : max 1 s.path.params.wasteUnit = s.path.params.wasteUnit := Nat.max_eq_right wide
  unfold State.boundariesLeft State.boundaryFuel
  split
  · exact Nat.zero_le _
  · have := all ‹_›
    omega
  · rename_i purge
    rw [purge, unit]
    dsimp only
    generalize Segment.length _ / _ = q
    omega
  · exact Nat.zero_le _

/-! ### The fire -/

theorem State.dueEntry_isSome_iff {s : State} :
    s.dueEntry.isSome = true ↔
      s.cutter.progress = none ∧ ∃ e, s.cutter.cutList.head? = some e ∧ e.cutAt ≤ (s.path.position : Int) := by
  unfold State.dueEntry
  cases s.cutter.progress with
  | some p => simp
  | none =>
    cases s.cutter.cutList with
    | nil => simp
    | cons e rest => by_cases due : e.cutAt ≤ (s.path.position : Int) <;> simp [due]

/-! ### The web that a step has moved, before the Cutter Unit acts -/

/-- A step up to the line: the stream's end, the web, the counters and the line. -/
def State.lineExposed (s : State) : State := s.settleFront.advanceWeb.countStep.exposeLine

/-- A step up to the Cutter Unit: the line, and the zone entry. -/
def State.webMoved (s : State) : State := s.lineExposed.markZoneEntry

theorem State.issueStep_eq (sample : PunchSample) (s : State) : s.issueStep sample = s.webMoved.cutterStep sample := rfl

/-- A view of a record sees nothing of what the line of a step changes in the head segment. -/
structure LineBlind {β : Type} (view : Segment → β) : Prop where
  print : ∀ g f, view { g with print := g.print.map f } = view g
  length : ∀ g n, view { g with length := n } = view g
  short : ∀ g b, view { g with flags := { g.flags with short := b } } = view g
  underrun : ∀ g b, view { g with flags := { g.flags with underrun := b } } = view g

section
variable {β : Type} {view : Segment → β}

theorem State.map_modifyHead {f : Segment → Segment} (blind : ∀ g, view (f g) = view g) (s : State) :
    (s.modifyHead f).path.queue.map view = s.path.queue.map view := map_modifyLast view f blind _

theorem State.map_endStreamShort (blind : LineBlind view) (s : State) :
    s.endStreamShort.path.queue.map view = s.path.queue.map view :=
  (State.map_modifyHead (fun g => blind.short g true) _).trans (State.map_modifyHead (fun g => blind.print g _) s)

theorem State.map_endStreamImplicit (blind : LineBlind view) (s : State) :
    s.endStreamImplicit.path.queue.map view = s.path.queue.map view :=
  (State.map_endStreamShort blind _).trans (State.map_modifyHead (fun g => blind.print g _) s)

theorem State.map_settleFront (blind : LineBlind view) (s : State) : s.settleFront.path.queue.map view = s.path.queue.map view := by
  unfold State.settleFront
  split
  · split
    · rfl
    · rw [(by simp : ∀ u : State, u.removeSequenced.path = u.path)]
      exact State.map_endStreamShort blind s
    · exact State.map_endStreamImplicit blind s
  · rfl

theorem State.map_advanceWeb (blind : LineBlind view) (s : State) : s.advanceWeb.path.queue.map view = s.path.queue.map view :=
  State.map_modifyHead (fun g => blind.length g _) _

theorem State.map_underrun (blind : LineBlind view) (p : PrintRecord) (s : State) :
    (s.underrun p).2.path.queue.map view = s.path.queue.map view := by
  rw [State.underrun, (by simp : ∀ (c : Cause) (u : State), (u.raise c).path = u.path)]
  exact (State.map_modifyHead (fun g => blind.underrun g true) _).trans (State.map_modifyHead (fun g => blind.print g _) s)

theorem State.map_nextLine (blind : LineBlind view) (p : PrintRecord) (source : LineSource) (s : State) :
    (s.nextLine p source).2.path.queue.map view = s.path.queue.map view := by
  cases source with
  | margin => rfl
  | cutOff => exact State.map_underrun blind p s
  | store =>
    rw [State.nextLine]
    cases s.store with
    | nil => exact State.map_underrun blind p s
    | cons f rest =>
      dsimp only
      rw [(by simp : ∀ u : State, u.removeSequenced.path = u.path)]
      exact State.map_modifyHead (fun g => blind.print g _) s

theorem State.map_exposeLine (blind : LineBlind view) (s : State) : s.exposeLine.path.queue.map view = s.path.queue.map view := by
  unfold State.exposeLine
  split
  · dsimp only
    rw [(by simp : ∀ u : State, u.completePrint.path = u.path)]
    exact (State.map_modifyHead (fun g => blind.print g _) _).trans (State.map_nextLine blind _ _ s)
  · rfl

/-- What the line of a step leaves of every record. -/
theorem State.map_lineExposed (blind : LineBlind view) (s : State) :
    s.lineExposed.path.queue.map view = s.path.queue.map view :=
  calc s.lineExposed.path.queue.map view
    _ = s.settleFront.advanceWeb.countStep.path.queue.map view := State.map_exposeLine blind _
    _ = s.settleFront.advanceWeb.path.queue.map view := by rw [(by simp : ∀ u : State, u.countStep.path = u.path)]
    _ = s.settleFront.path.queue.map view := State.map_advanceWeb blind _
    _ = s.path.queue.map view := State.map_settleFront blind s

end

/-- What the Cutter Unit reads or writes of a record, beside its length. -/
def Segment.cutterView (g : Segment) : Int × LeadState × Bool := (g.start, g.lead, g.flags.miscut)

theorem State.map_webMoved_cutterView (s : State) :
    s.webMoved.path.queue.map Segment.cutterView = s.path.queue.map Segment.cutterView := by
  have line : s.lineExposed.path.queue.map Segment.cutterView = s.path.queue.map Segment.cutterView :=
    State.map_lineExposed ⟨fun _ _ => rfl, fun _ _ => rfl, fun _ _ => rfl, fun _ _ => rfl⟩ s
  rw [← line, State.webMoved, State.markZoneEntry]
  split
  · simp only [State.mapSegments, List.map_map]
    refine List.map_congr_left fun g _ => ?_
    simp only [Function.comp_apply]
    split <;> rfl
  · rfl

/-! ### What a step leaves of the rest, up to the Cutter Unit -/

section
variable {c : Cause}

theorem State.cause_of_causes {s t : State} (same : s.alerts.causes = t.alerts.causes) (c : Cause) : s.cause c = t.cause c := by
  rw [State.cause, State.cause, same]

theorem State.cause_underrun (other : c ≠ .underrun) (p : PrintRecord) (s : State) : (s.underrun p).2.cause c = s.cause c :=
  (State.cause_raise_of_ne other _).trans (State.cause_congr (by simp) c)

theorem State.cause_nextLine (other : c ≠ .underrun) (p : PrintRecord) (source : LineSource) (s : State) :
    (s.nextLine p source).2.cause c = s.cause c := by
  cases source with
  | margin => rfl
  | cutOff => exact State.cause_underrun other p s
  | store =>
    rw [State.nextLine]
    cases s.store with
    | nil => exact State.cause_underrun other p s
    | cons f rest => exact State.cause_congr (by simp) c

theorem State.cause_exposeLine (other : c ≠ .underrun) (s : State) : s.exposeLine.cause c = s.cause c := by
  unfold State.exposeLine
  split
  · have completed : ∀ u : State, u.completePrint.alerts = u.alerts := by simp
    have counted : ∀ f (u : State), (u.modifyPrint f).alerts = u.alerts := by simp
    exact (State.cause_congr ((completed _).trans (counted _ _)) c).trans (State.cause_nextLine other _ _ s)
  · rfl

end

@[simp] theorem State.advanceWeb_keeps (s : State) :
    s.advanceWeb.inReset = s.inReset ∧ s.advanceWeb.now = s.now ∧ s.advanceWeb.link = s.link ∧ s.advanceWeb.store = s.store ∧
    s.advanceWeb.commands = s.commands ∧ s.advanceWeb.reader = s.reader ∧ s.advanceWeb.orders = s.orders ∧
    s.advanceWeb.monitor = s.monitor ∧ s.advanceWeb.cutter = s.cutter ∧ s.advanceWeb.sorter = s.sorter ∧
    s.advanceWeb.price = s.price ∧ s.advanceWeb.alerts = s.alerts ∧ s.advanceWeb.freeTags = s.freeTags ∧
    s.advanceWeb.pending = s.pending ∧ s.advanceWeb.path.run = s.path.run ∧ s.advanceWeb.path.haltCause = s.path.haltCause ∧
    s.advanceWeb.path.drainCause = s.path.drainCause ∧ s.advanceWeb.path.dwell = s.path.dwell ∧
    s.advanceWeb.path.params = s.path.params ∧ s.advanceWeb.path.generation = s.path.generation ∧
    s.advanceWeb.path.rampDue = s.path.rampDue ∧ s.advanceWeb.path.position = s.path.position + 1 ∧
    s.advanceWeb.exposure = { s.exposure with
      paper := { s.exposure.paper with remaining := s.exposure.paper.remaining - 1 }
      stepDue := s.exposure.stepDue + s.exposure.reload + 1 } ∧
    s.advanceWeb.outputs = { s.outputs with stepPulse := 2 } := by
  unfold State.advanceWeb
  simp

/-- What a step leaves alone up to the Cutter Unit, and how far the web and the line clock go. -/
@[simp] theorem State.webMoved_keeps (s : State) :
    s.webMoved.inReset = s.inReset ∧ s.webMoved.now = s.now ∧ s.webMoved.commands = s.commands ∧
    s.webMoved.orders = s.orders ∧ s.webMoved.monitor = s.monitor ∧ s.webMoved.cutter = s.cutter ∧
    s.webMoved.sorter = s.sorter ∧ s.webMoved.price = s.price ∧ s.webMoved.path.run = s.path.run ∧
    s.webMoved.path.haltCause = s.path.haltCause ∧ s.webMoved.path.drainCause = s.path.drainCause ∧
    s.webMoved.path.dwell = s.path.dwell ∧ s.webMoved.path.params = s.path.params ∧
    s.webMoved.path.rampDue = s.path.rampDue ∧ s.webMoved.path.position = s.path.position + 1 ∧
    s.webMoved.exposure.paper = { s.exposure.paper with remaining := s.exposure.paper.remaining - 1 } ∧
    s.webMoved.exposure.stepDue = s.exposure.stepDue + s.exposure.reload + 1 ∧
    s.webMoved.exposure.reload = s.exposure.reload ∧
    s.webMoved.outputs = { s.outputs with stepPulse := 2 } ∧ s.webMoved.reader.staged = s.reader.staged := by
  unfold State.webMoved State.lineExposed
  simp

/-- A line of a step raises nothing but UNDERRUN. -/
theorem State.cause_webMoved {c : Cause} (other : c ≠ .underrun) (s : State) : s.webMoved.cause c = s.cause c :=
  calc s.webMoved.cause c
    _ = s.settleFront.advanceWeb.countStep.exposeLine.cause c := State.cause_congr (by simp [State.webMoved, State.lineExposed]) c
    _ = s.settleFront.advanceWeb.countStep.cause c := State.cause_exposeLine other _
    _ = s.cause c := State.cause_of_causes (by simp) c

/-- Settles O43: one test of the boundary under watch by its kind; the fuel covers the boundaries left (`boundariesLeft`), so that
the one that stays lies ahead; and the web that a step has moved, before the cutter acts (`webMoved`). -/
theorem missedBoundaryIsPredicted : Obligations.MissedBoundaryIsPredicted := by
  refine ⟨fun start fuel s watched => ?record, fun j fuel g queue s watched path purge => ?cutPoint, fun sample s => ?step,
    fun sample s t out acts moved => ?moved⟩
  case record =>
    intro expected consecutive predicted
    have same : predicted = s.predicted start expected := rfl
    refine ⟨fun ahead => State.testBoundaries_record_ahead _ watched (s.expectedAt_record start) ahead, fun passed => ?_⟩
    rw [State.testBoundaries_record_missing fuel watched (s.expectedAt_record start) passed, State.declareMissing_eq, same]
    rfl
  case cutPoint =>
    intro cutAt scheduled
    have found : s.purgeRecord = some g := by simp [State.purgeRecord, path, purge]
    have expects : s.expectedAt (.cutPoint j) = some (cutAt - s.path.params.dSensor) := by
      rw [State.expectedAt_cutPoint found]
      exact congrArg some (by simp only [cutAt]; ring)
    refine ⟨fun ahead => State.testBoundaries_cutPoint_ahead _ watched expects ahead, fun reached => ?_⟩
    have next : s.cutPointOr (j + 1) = scheduled.cutter.current := by
      simp only [scheduled, State.cutPointOr, found, ← path, firstStartAfter]
    have same : s.scheduleCutPoint j (cutAt - s.path.params.dSensor) = scheduled := by
      rw [State.scheduleCutPoint, Int.sub_add_cancel]
      exact congrArg (fun b => { scheduled with cutter := { scheduled.cutter with current := b } }) next
    rw [State.testBoundaries_cutPoint_reached fuel watched expects reached, same]
  case step =>
    intro sampled tested judged fired isDue
    have splits : s.cutterStep sample = judged.fireAtStep := by
      simp only [State.cutterStep, judged, tested, sampled, Bool.not_eq_true]
    have due : judged.dueEntry.isSome = true ↔ isDue := State.dueEntry_isSome_iff
    refine ⟨fun now => ?_, fun notNow => ?_, fun unwatched => ?_, fun wide b expected watched expects => ?_⟩
    · rw [splits, State.fireAtStep, if_pos (due.mpr now)]
      rfl
    · rw [splits, State.fireAtStep, if_neg fun now => notNow (due.mp now)]
    · exact State.testBoundaries_unwatched _ unwatched
    · have wide' : 0 < sampled.1.path.params.wasteUnit := wide
      have ahead := State.testBoundaries_watchesAhead _ wide' (State.boundariesLeft_le_boundaryFuel wide') b expected watched expects
      simpa [tested, sampled] using ahead
  case moved =>
    have view : ∀ queue : List Segment,
        queue.map (fun g => (g.start, g.lead, g.flags.miscut)) = queue.map Segment.cutterView := fun _ => rfl
    simp only [view]
    rcases execStep_moves out acts moved with ⟨inside, t_eq⟩ | ⟨boundary, kind, planned, print, u, t_eq, same⟩
    · refine ⟨State.webMoved _, t_eq, by simp, by simp, by simp, by simp, ?_, ?_, fun _ => ⟨by simp, ?_⟩, fun boundary => ?_⟩
      · exact State.cause_webMoved (by decide) _
      · exact State.cause_webMoved (by decide) _
      · exact State.map_webMoved_cutterView _
      · rw [inside] at boundary
        cases boundary
    · refine ⟨State.webMoved _, t_eq, ?_, ?_, ?_, ?_, ?_, ?_, fun inside => ?_, fun _ => ⟨?_, ?_⟩⟩
      · simp [same.now]
      · simp [same.position]
      · simp [same.params]
      · simp [same.outputs]
      · exact (State.cause_webMoved (by decide) _).trans (same.cause _ (by decide))
      · exact (State.cause_webMoved (by decide) _).trans (same.cause _ (by decide))
      · rw [boundary] at inside
        cases inside
      · cases watched : s.cutter.current <;> simp [State.beginSegment, same.cutter, same.position, watched]
      · refine (State.map_webMoved_cutterView _).trans ?_
        simp [State.beginSegment, same.queue, same.position, Segment.fresh, Segment.cutterView]

end Sys2Proof.Machine
end

section
/-!
PROOFS. The step that moves the web (sections 2.1 to 2.5): inside a segment, and behind a segment that begins at a boundary.
-/

namespace Sys2Proof.Machine

/-! ### Views of the records that the Cutter Unit does not touch -/

/-- A view of a record sees nothing of what the Cutter Unit changes in it: the lead and the MISCUT flag. -/
structure CutterBlind {β : Type} (view : Segment → β) : Prop where
  marks : ∀ g l b, view { g with lead := l, flags := { g.flags with miscut := b } } = view g

section
variable {β : Type} {view : Segment → β}

theorem State.map_mapSegments {f : Segment → Segment} (blind : ∀ g, view (f g) = view g) (s : State) :
    (s.mapSegments f).path.queue.map view = s.path.queue.map view := by
  simp only [State.mapSegments, List.map_map]
  exact List.map_congr_left fun g _ => blind g

theorem State.map_setLead (blind : CutterBlind view) (start : Int) (lead : LeadState) (s : State) :
    (s.setLead start lead).path.queue.map view = s.path.queue.map view := by
  refine State.map_mapSegments (fun g => ?_) s
  split
  · exact blind.marks g lead g.flags.miscut
  · rfl

theorem State.map_declareMissing (blind : CutterBlind view) (start expected : Int) (s : State) :
    (s.declareMissing start expected).path.queue.map view = s.path.queue.map view := by
  have predicted : (s.predicted start expected).path.queue.map view = s.path.queue.map view := by
    simp only [State.predicted, List.map_map]
    exact List.map_congr_left fun g _ => blind.marks g _ _
  rw [State.declareMissing_eq]
  split
  · rw [(by simp : ∀ u : State, (u.raise .regMissing).path = u.path), predicted]
  · exact predicted

theorem State.map_testBoundaries (blind : CutterBlind view) (fuel : Nat) : ∀ s : State,
    (s.testBoundaries fuel).1.path.queue.map view = s.path.queue.map view := by
  induction fuel with
  | zero => exact fun _ => rfl
  | succ fuel ih =>
    intro s
    unfold State.testBoundaries
    split
    · rfl
    · split
      · rfl
      · split
        · exact ih _
        · rfl
      · split
        · exact (ih _).trans (State.map_declareMissing blind _ _ s)
        · rfl

theorem State.map_judgePunch (blind : CutterBlind view) (s : State) : s.judgePunch.path.queue.map view = s.path.queue.map view := by
  have spurious : s.spuriousPunch.path = s.path := by simp
  unfold State.judgePunch
  split
  · rw [spurious]
  · rfl
  · split
    · rfl
    · split
      · exact State.map_setLead blind _ .registered s
      · split
        · rw [spurious]
        · rfl

/-- What the Cutter Unit leaves of every record at a step. -/
theorem State.map_cutterStep (blind : CutterBlind view) (sample : PunchSample) (s : State) :
    (s.cutterStep sample).path.queue.map view = s.path.queue.map view := by
  have tested : ((s.samplePunch sample).1.testBoundaries (s.samplePunch sample).1.boundaryFuel).1.path.queue.map view =
      s.path.queue.map view := State.map_testBoundaries blind _ _
  unfold State.cutterStep
  dsimp only
  rw [(by simp : ∀ u : State, u.fireAtStep.path = u.path)]
  split
  · exact (State.map_judgePunch blind _).trans tested
  · exact tested

end

/-! ### The layout of the path -/

theorem modifyLast_map {α β : Type} {f : α → α} {h : β → β} {view : α → β} (commutes : ∀ a, view (f a) = h (view a)) (l : List α) :
    (modifyLast f l).map view = modifyLast h (l.map view) := by
  rcases List.eq_nil_or_concat l with rfl | ⟨front, a, rfl⟩
  · rfl
  · simp [commutes]

theorem State.webMoved_layout (s : State) :
    s.webMoved.pathLayout = modifyLast (fun l => (l.1, l.2.1, l.2.2.1 + 1, l.2.2.2)) s.pathLayout := by
  have advanced : ∀ u : State, u.advanceWeb.pathLayout = modifyLast (fun l => (l.1, l.2.1, l.2.2.1 + 1, l.2.2.2)) u.pathLayout :=
    fun u => modifyLast_map (f := fun g : Segment => { g with length := g.length + 1 })
      (h := fun l => (l.1, l.2.1, l.2.2.1 + 1, l.2.2.2)) (view := Segment.layout) (fun _ => rfl) u.path.queue
  rw [State.webMoved, State.lineExposed, State.markZoneEntry_layout, State.exposeLine_layout, State.countStep_layout, advanced,
    State.settleFront_layout]

/-! ### The dark head -/

theorem State.exposeLine_dark {s : State} (none : s.headSegment.bind Segment.print = none) : s.exposeLine.exposure.drive = [] := by
  unfold State.exposeLine
  rw [none]
  split
  · rename_i absurd
    cases absurd
  · rfl

/-- A view of the newest record. -/
theorem State.headSegment_map {β : Type} (view : Segment → β) (s : State) :
    s.headSegment.map view = (s.path.queue.map view).getLast? := by
  rw [State.headSegment, List.getLast?_map]

theorem Segment.bind_print_eq_none_iff (g : Option Segment) :
    g.bind Segment.print = none ↔ g.map (·.print.isSome) ≠ some true := by
  cases g <;> simp

/-- The record of a print stays with its segment through a step, and none comes to any other segment. -/
theorem printBlind : LineBlind (fun g : Segment => g.print.isSome) :=
  ⟨fun g f => by simp, fun _ _ => rfl, fun _ _ => rfl, fun _ _ => rfl⟩

theorem State.settled_headSegment {β : Type} {view : Segment → β} (blind : LineBlind view) (s : State) :
    s.settleFront.advanceWeb.headSegment.map view = s.headSegment.map view := by
  rw [State.headSegment_map, State.headSegment_map, State.map_advanceWeb blind, State.map_settleFront blind]

theorem State.webMoved_drive_dark {s : State} (none : s.headSegment.bind Segment.print = none) : s.webMoved.exposure.drive = [] := by
  have exposure : s.webMoved.exposure = s.lineExposed.exposure := by simp [State.webMoved]
  rw [exposure]
  have counted : s.settleFront.advanceWeb.countStep.headSegment = s.settleFront.advanceWeb.headSegment :=
    congrArg (·.queue.getLast?) (by simp : s.settleFront.advanceWeb.countStep.path = s.settleFront.advanceWeb.path)
  refine State.exposeLine_dark ?_
  rw [Segment.bind_print_eq_none_iff] at none ⊢
  rwa [counted, State.settled_headSegment printBlind]

theorem State.issueStep_headSegment (sample : PunchSample) (s : State) :
    (s.issueStep sample).headSegment.bind Segment.print = none ↔ s.headSegment.bind Segment.print = none := by
  have zone : ∀ u : State, u.markZoneEntry.path.queue.map (·.print.isSome) = u.path.queue.map (·.print.isSome) := by
    intro u
    unfold State.markZoneEntry
    split
    · exact State.map_mapSegments (fun g => by split <;> rfl) u
    · rfl
  have views : (s.issueStep sample).path.queue.map (·.print.isSome) = s.path.queue.map (·.print.isSome) :=
    (State.map_cutterStep ⟨fun _ _ _ => rfl⟩ sample _).trans ((zone _).trans (State.map_lineExposed printBlind s))
  rw [Segment.bind_print_eq_none_iff, Segment.bind_print_eq_none_iff, State.headSegment_map, State.headSegment_map, views]

/-! ### The zone entry -/

/-- What the zone entry reads and writes of a record. -/
def Segment.zoneView (g : Segment) : SegmentKind × Int × Bool := (g.kind, g.start, g.flags.chem)

/-- A record's view of the zone once the web stands at a position and DEV is tripped, or not (R41). -/
def enterZone (tripped : Bool) (position : Int) (zIn : Nat) (v : SegmentKind × Int × Bool) : SegmentKind × Int × Bool :=
  (v.1, v.2.1, v.2.2 || (tripped && decide (v.1 = .print ∧ position - v.2.1 = zIn)))

theorem State.map_markZoneEntry (s : State) :
    s.markZoneEntry.path.queue.map Segment.zoneView =
      (s.path.queue.map Segment.zoneView).map (enterZone (s.tripped 3) s.path.position s.path.params.zIn) := by
  rw [List.map_map]
  unfold State.markZoneEntry
  split
  · rename_i tripped
    simp only [State.mapSegments, List.map_map]
    refine List.map_congr_left fun g _ => ?_
    by_cases enters : g.kind = .print ∧ (s.path.position : Int) - g.start = s.path.params.zIn <;>
      simp [Segment.zoneView, enterZone, tripped, enters, Segment.flagChem]
  · rename_i calm
    refine List.map_congr_left fun g _ => ?_
    simp [Segment.zoneView, enterZone, calm]

theorem State.map_issueStep_zoneView (sample : PunchSample) (s : State) :
    (s.issueStep sample).path.queue.map Segment.zoneView =
      (s.path.queue.map Segment.zoneView).map (enterZone (s.tripped 3) (s.path.position + 1) s.path.params.zIn) := by
  have tripped : s.lineExposed.tripped 3 = s.tripped 3 := by simp [State.tripped, State.lineExposed]
  have position : (s.lineExposed.path.position : Int) = s.path.position + 1 := by simp [State.lineExposed]
  have params : s.lineExposed.path.params = s.path.params := by simp [State.lineExposed]
  rw [State.issueStep_eq, State.map_cutterStep ⟨fun _ _ _ => rfl⟩, State.webMoved, State.map_markZoneEntry,
    State.map_lineExposed ⟨fun _ _ => rfl, fun _ _ => rfl, fun _ _ => rfl, fun _ _ => rfl⟩, tripped, position, params]

theorem State.issueStep_chem (sample : PunchSample) {s : State} {i : Nat} {k : Segment} (here : s.path.queue[i]? = some k) :
    ∃ l, (s.issueStep sample).path.queue[i]? = some l ∧
      l.flags.chem = (k.flags.chem || (s.tripped 3 &&
        decide (k.kind = .print ∧ (s.path.position : Int) + 1 - k.start = s.path.params.zIn))) := by
  have there := congrArg (fun l => l[i]?) (State.map_issueStep_zoneView sample s)
  simp only [List.getElem?_map, here, Option.map_some] at there
  obtain ⟨l, found, same⟩ := Option.map_eq_some_iff.mp there
  exact ⟨l, found, congrArg (·.2.2) same⟩

/-! ### A step that is issued, and one that is not -/

section
variable {sample : PunchSample} {s u : State}

/-- The part at the time that its step is due, at least. -/
def State.atStepDue (s : State) : State := { s with now := max s.now s.exposure.stepDue }

theorem exec_step_issued (out : s.inReset = false) (moving : s.stepping = true) (due : s.atStepDue.fallsDue = (u, true)) :
    exec (.step sample) s = .next (u.issueStep sample) := by
  have acts : exec (.step sample) s = .next (s.takeStep sample) := State.event_of_not_inReset out
  have falls : s.takeStep sample =
      if s.atStepDue.fallsDue.2 then s.atStepDue.fallsDue.1.issueStep sample else s.atStepDue.fallsDue.1 := if_pos moving
  rw [acts, falls, due]
  rfl

theorem exec_step_notIssued (out : s.inReset = false) (moving : s.stepping = true) (due : s.atStepDue.fallsDue = (u, false)) :
    exec (.step sample) s = .next u := by
  have acts : exec (.step sample) s = .next (s.takeStep sample) := State.event_of_not_inReset out
  have falls : s.takeStep sample =
      if s.atStepDue.fallsDue.2 then s.atStepDue.fallsDue.1.issueStep sample else s.atStepDue.fallsDue.1 := if_pos moving
  rw [acts, falls, due]
  rfl

theorem State.atBoundary_of_queue {queue : List Segment} {g : Segment} (path : s.path.queue = queue ++ [g]) :
    s.atBoundary = true ↔ g.length = g.planned := by
  simp [State.atBoundary, State.headSegment_of_queue path]

theorem State.fallsDue_inside (inside : s.atBoundary = false) (paper : 0 < s.exposure.paper.remaining) : s.fallsDue = (s, true) := by
  simp [State.fallsDue, inside, paper.ne']

/-! ### The counters of a step -/

theorem State.countStep_eq (kind : SegmentKind) (head : s.headSegment.map Segment.kind = some kind) :
    s.countStep = if kind = .waste ∨ kind = .ramp then (s.bump .paperLines).bump .wasteLines else s.bump .paperLines := by
  obtain ⟨g, found, rfl⟩ := Option.map_eq_some_iff.mp head
  have found' : (s.bump .paperLines).headSegment = some g := found
  simp only [State.countStep, found']
  cases g.kind <;> rfl

theorem State.issueStep_counter (c : Counter) :
    (s.issueStep sample).counter c = s.settleFront.advanceWeb.countStep.counter c := by
  simp only [State.counter, State.issueStep_eq, State.webMoved, State.lineExposed, State.cutterStep_keeps, State.markZoneEntry_keeps,
    State.exposeLine_keeps]

end

/-- Settles O31: by what the line and the Cutter Unit leave of the layout, and by the views of the records that they do not touch. -/
theorem stepMovesTheWebOneLine : Obligations.StepMovesTheWebOneLine := by
  refine ⟨fun sample g queue s out moving path unfinished paper counters => ?inside, fun sample s t out acts moved => ?moved⟩
  case inside =>
    have inside : s.atBoundary = false := by
      rw [Bool.eq_false_iff]
      exact fun boundary => unfinished ((State.atBoundary_of_queue path).mp boundary)
    have head : s.headSegment = some g := State.headSegment_of_queue path
    have layout : (s.atStepDue.issueStep sample).pathLayout = queue.map Segment.layout ++ [(g.kind, g.start, g.length + 1, g.planned)] := by
      have before : s.atStepDue.pathLayout = queue.map Segment.layout ++ [g.layout] := by
        simp [State.pathLayout, State.atStepDue, path]
      rw [State.issueStep_eq, State.cutterStep_layout, State.webMoved_layout, before, modifyLast_append]
      rfl
    have settled : s.atStepDue.settleFront.advanceWeb.headSegment.map Segment.kind = some g.kind := by
      rw [State.settled_headSegment ⟨fun _ _ => rfl, fun _ _ => rfl, fun _ _ => rfl, fun _ _ => rfl⟩]
      exact congrArg (Option.map Segment.kind) head
    have counter : ∀ c, (s.atStepDue.issueStep sample).counter c = _ := fun c =>
      (State.issueStep_counter c).trans (congrArg (State.counter c) (State.countStep_eq g.kind settled))
    have same : ∀ c, s.atStepDue.settleFront.advanceWeb.counter c = s.counter c := fun c => by
      simp [State.counter, State.atStepDue]
    have eighteen : s.atStepDue.settleFront.advanceWeb.alerts.counters.length = 18 := by simpa [State.atStepDue] using counters
    refine ⟨_, exec_step_issued out moving (State.fallsDue_inside inside paper), ?_, ?_, layout, ?_, ?_, fun c noPaper noWaste => ?_, ?_⟩
    · simp [State.issueStep_eq, State.atStepDue]
    · simp [State.issueStep_eq, State.atStepDue]
    · rw [counter, ← same]
      split
      · rw [State.counter_bump_of_ne (by decide), State.counter_bump (by rw [eighteen]; decide)]
      · rw [State.counter_bump (by rw [eighteen]; decide)]
    · rw [counter, ← same]
      split
      · rw [State.counter_bump (by simp [counters, Counter.place, State.atStepDue]), State.counter_bump_of_ne (by decide)]
      · rw [State.counter_bump_of_ne (by decide)]
    · rw [counter, ← same]
      split
      · rw [State.counter_bump_of_ne noWaste, State.counter_bump_of_ne noPaper]
      · rw [State.counter_bump_of_ne noPaper]
    · have dark : g.print = none → (s.atStepDue.issueStep sample).exposure.drive = [] := fun none => by
        simp only [State.issueStep_eq, State.cutterStep_keeps]
        exact State.webMoved_drive_dark (show s.headSegment.bind Segment.print = _ by rw [head]; exact none)
      refine ⟨?_, ?_, ?_, ?_, ?_, ?_, ?_, ?_, ?_, ?_, ?_, ?_, ?_, ?_, dark⟩
      all_goals simp [State.issueStep_eq, State.atStepDue]
  case moved =>
    have issued : ∃ u : State, t = u.issueStep sample ∧ u.path.position = s.path.position ∧ u.path.params = s.path.params ∧
        u.monitor = s.monitor ∧ ∃ begun, u.path.queue = s.path.queue ++ begun := by
      rcases execStep_moves out acts moved with ⟨-, t_eq⟩ | ⟨-, kind, planned, print, u, t_eq, same⟩
      · exact ⟨_, t_eq, rfl, rfl, rfl, [], by simp⟩
      · exact ⟨_, t_eq, by simp [same.position], by simp [same.params], by simp [same.monitor], _,
          congrArg (· ++ [Segment.fresh kind u.path.position planned print]) same.queue⟩
    obtain ⟨u, rfl, position, params, monitor, begun, queue⟩ := issued
    refine ⟨fun dark => ?_, fun i k here => ?_⟩
    · have none := (State.issueStep_headSegment sample u).mp dark
      simp only [State.issueStep_eq, State.cutterStep_keeps]
      exact State.webMoved_drive_dark none
    · have there : u.path.queue[i]? = some k := by
        rw [queue, List.getElem?_append_left (List.getElem?_eq_some_iff.mp here).1, here]
      have tripped : u.tripped 3 = s.tripped 3 := by rw [State.tripped, State.tripped, monitor]
      rw [← tripped, ← position, ← params]
      exact State.issueStep_chem sample there

end Sys2Proof.Machine
end

section
/-!
PROOFS. A boundary (sections 2.2 to 2.4): the segment that begins there, or the drain for paper.
-/

namespace Sys2Proof.Machine

/-! ### What the Cutter Unit raises -/

section
variable {c : Cause}

theorem State.cause_testBoundaries (other : c ≠ .regMissing) (fuel : Nat) : ∀ s : State,
    (s.testBoundaries fuel).1.cause c = s.cause c := by
  induction fuel with
  | zero => exact fun _ => rfl
  | succ fuel ih =>
    intro s
    unfold State.testBoundaries
    split
    · rfl
    · split
      · rfl
      · split
        · exact ih _
        · rfl
      · split
        · rw [ih, State.declareMissing_eq]
          split
          · exact State.cause_raise_of_ne other _
          · rfl
        · rfl

theorem State.cause_judgePunch (other : c ≠ .punchSpurious) (s : State) : s.judgePunch.cause c = s.cause c := by
  have spurious : s.spuriousPunch.cause c = s.cause c := State.cause_raise_of_ne other _
  unfold State.judgePunch
  split
  · exact spurious
  · rfl
  · split
    · rfl
    · split
      · rfl
      · split
        · exact spurious
        · rfl

theorem State.cause_cutterStep (notMissing : c ≠ .regMissing) (notSpurious : c ≠ .punchSpurious) (sample : PunchSample) (s : State) :
    (s.cutterStep sample).cause c = s.cause c := by
  have tested : ((s.samplePunch sample).1.testBoundaries (s.samplePunch sample).1.boundaryFuel).1.cause c = s.cause c :=
    State.cause_testBoundaries notMissing _ _
  have fired : ∀ u : State, u.fireAtStep.cause c = u.cause c := fun u => State.cause_congr (by simp) c
  unfold State.cutterStep
  dsimp only
  rw [fired]
  split
  · exact (State.cause_judgePunch notSpurious _).trans tested
  · exact tested

end

/-! ### The choice at a boundary -/

section
variable {s : State}

theorem State.fallsDue_boundary (boundary : s.atBoundary = true) (undrained : s.path.run = .draining → s.hasPrint = true)
    (paper : 0 < s.exposure.paper.remaining) (room : s.path.queue.length < 128) : s.fallsDue = s.chooseSegment := by
  have notDrained : ¬ (s.path.run = .draining ∧ ¬ s.hasPrint = true) := fun ⟨draining, gone⟩ => gone (undrained draining)
  rw [State.fallsDue, if_pos boundary, if_neg notDrained, if_neg paper.ne', if_neg room.not_ge]

theorem State.chooseSegment_ramp (starting : s.path.run = .starting) (due : s.path.rampDue = true) :
    s.chooseSegment =
      (State.beginSegment .ramp s.path.params.rampLength none { s with path := { s.path with rampDue := false } }, true) := by
  simp [State.chooseSegment, starting, due]

theorem State.chooseSegment_draining (draining : s.path.run = .draining) : s.chooseSegment = (s.beginWaste, true) := by
  simp [State.chooseSegment, draining]

/-- The part with its run RUNNING. -/
def State.inRun (s : State) : State := { s with path := { s.path with run := .running } }

theorem State.chooseSegment_running (running : s.path.run = .running ∨ s.path.run = .starting ∧ s.path.rampDue = false) :
    s.chooseSegment = s.inRun.chooseRunning := by
  rcases running with running | ⟨starting, due⟩
  · have same : s.inRun = s := by rw [State.inRun, ← running]
    rw [same]
    simp [State.chooseSegment, running]
  · simp [State.chooseSegment, starting, due, State.inRun]

theorem State.candidate_eq_none (held : s.headHold = true ∨ s.chemistryHold = true ∨ s.stagedReady = false) : s.candidate = none := by
  rcases held with held | held | held <;> simp [State.candidate, held]

theorem State.candidate_eq_staged (head : s.headHold = false) (chemistry : s.chemistryHold = false) (ready : s.stagedReady = true) :
    s.candidate = s.reader.staged := by
  simp [State.candidate, head, chemistry, ready]

theorem State.paperTest_iff {planned : Nat} :
    s.paperTest planned = true ↔ planned + (s.path.params.lCut + 240) ≤ s.exposure.paper.remaining := by
  rw [State.paperTest, decide_eq_true_iff]
  rfl

/-- The planned length that the paper test judges at a boundary in RUNNING: of the ready staged print, or of a waste unit. -/
def State.Judges (planned : Nat) (s : State) : Prop :=
  (s.headHold = true ∨ s.chemistryHold = true ∨ s.stagedReady = false) ∧ planned = s.path.params.wasteUnit ∨
    s.headHold = false ∧ s.chemistryHold = false ∧ s.stagedReady = true ∧ ∃ p, s.reader.staged = some p ∧ planned = p.length

theorem State.chooseRunning_waste (held : s.headHold = true ∨ s.chemistryHold = true ∨ s.stagedReady = false)
    (enough : s.path.params.wasteUnit + (s.path.params.lCut + 240) ≤ s.exposure.paper.remaining) :
    s.chooseRunning = (s.beginWaste, true) := by
  simp only [State.chooseRunning, State.candidate_eq_none held, State.paperTest_iff.mpr enough, if_true]

theorem State.chooseRunning_drain {planned : Nat} (judges : s.Judges planned)
    (short : s.exposure.paper.remaining < planned + (s.path.params.lCut + 240)) : s.chooseRunning = s.drainForPaper := by
  have fails : s.paperTest planned = false := by rw [Bool.eq_false_iff, ne_eq, State.paperTest_iff]; omega
  rcases judges with ⟨held, rfl⟩ | ⟨head, chemistry, ready, p, staged, rfl⟩
  · simp only [State.chooseRunning, State.candidate_eq_none held, fails, Bool.false_eq_true, if_false]
  · have candidate := (State.candidate_eq_staged head chemistry ready).trans staged
    simp only [State.chooseRunning, candidate, fails, Bool.false_eq_true, if_false]

end

/-! ### The segment that begins -/

/-- A segment of a kind and planned length has begun, and the step that follows has been issued. -/
structure Begun (kind : SegmentKind) (planned : Nat) (s t : State) : Prop where
  layout : t.pathLayout = s.pathLayout ++ [(kind, (s.path.position : Int), 1, planned)]
  position : t.path.position = s.path.position + 1
  punch : t.outputs.punchPulse = 2
  step : t.outputs.stepPulse = 2
  paper : t.exposure.paper = { s.exposure.paper with remaining := s.exposure.paper.remaining - 1 }
  run : t.path.run = s.path.run
  rampDue : t.path.rampDue = s.path.rampDue
  drainCause : t.path.drainCause = s.path.drainCause
  haltCause : t.path.haltCause = s.path.haltCause
  staged : t.reader.staged = s.reader.staged
  orders : t.orders = s.orders
  sorter : t.sorter = s.sorter
  monitor : t.monitor = s.monitor
  price : t.price = s.price
  commands : t.commands = s.commands

theorem State.beginSegment_issueStep (kind : SegmentKind) (planned : Nat) (print : Option PrintRecord) (sample : PunchSample) (s : State) :
    Begun kind planned s ((State.beginSegment kind planned print s).issueStep sample) := by
  have layout : (State.beginSegment kind planned print s).pathLayout =
      s.pathLayout ++ [(kind, (s.path.position : Int), 0, planned)] := by
    simp [State.beginSegment, State.pathLayout, Segment.fresh, Segment.layout]
  have punch : (State.beginSegment kind planned print s).outputs.punchPulse = 2 := rfl
  constructor
  case layout =>
    rw [State.issueStep_eq, State.cutterStep_layout, State.webMoved_layout, layout, modifyLast_append]
  case punch => simpa [State.issueStep_eq] using punch
  all_goals simp [State.issueStep_eq]

/-- The segment that begins holds no print, so the step is dark. -/
theorem State.beginSegment_dark (kind : SegmentKind) (planned : Nat) (sample : PunchSample) (s : State) :
    ((State.beginSegment kind planned none s).issueStep sample).exposure.drive = [] := by
  have none : (State.beginSegment kind planned none s).headSegment.bind Segment.print = none := by
    rw [State.headSegment_of_queue (s := State.beginSegment kind planned none s) rfl]
    rfl
  simp only [State.issueStep_eq, State.cutterStep_keeps]
  exact State.webMoved_drive_dark none

/-! ### The drain for paper -/

/-- The part as the paper test fails: it drains for paper, and PAPER_LOW is raised (R37). -/
def State.paperFailed (s : State) : State :=
  State.raise .paperLow { s with path := { s.path with run := .draining, drainCause := some .paper } }

theorem State.paperFailed_path (s : State) :
    s.paperFailed.path = { s.path with run := .draining, drainCause := some .paper } := by simp [State.paperFailed]

@[simp] theorem State.paperFailed_keeps (s : State) :
    s.paperFailed.now = s.now ∧ s.paperFailed.commands = s.commands ∧ s.paperFailed.store = s.store ∧
    s.paperFailed.reader = s.reader ∧ s.paperFailed.orders = s.orders ∧ s.paperFailed.exposure = s.exposure ∧
    s.paperFailed.monitor = s.monitor ∧ s.paperFailed.cutter = s.cutter ∧ s.paperFailed.sorter = s.sorter ∧
    s.paperFailed.price = s.price ∧ s.paperFailed.outputs = s.outputs := by
  simp [State.paperFailed]

theorem State.paperFailed_cause {s : State} (twenty : s.alerts.causes.length = 20) :
    s.paperFailed.cause .paperLow =
      { enabled := (s.cause .paperLow).enabled, pending := true
        reported := (s.cause .paperLow).reported || (s.cause .paperLow).enabled
        count := saturate 255 (s.cause .paperLow).count } :=
  (State.cause_raise .paperLow .paperLow
    (s := { s with path := { s.path with run := .draining, drainCause := some .paper } }) twenty).trans (if_pos rfl)

theorem State.drainForPaper_waste {s : State} (prints : s.hasPrint = true) : s.drainForPaper = (s.paperFailed.beginWaste, true) := by
  have prints' : s.paperFailed.hasPrint = true := by simpa [State.paperFailed, State.hasPrint] using prints
  exact if_pos prints'

theorem State.drainForPaper_end {s : State} (none : s.hasPrint = false) : s.drainForPaper = (s.paperFailed.endDrain, false) := by
  have none' : ¬ s.paperFailed.hasPrint = true := by simpa [State.paperFailed, State.hasPrint] using none
  exact if_neg none'

theorem State.beginWaste_eq (s : State) : s.beginWaste = State.beginSegment .waste s.path.params.wasteUnit none s := rfl

/-- Settles O32: by the choice at the boundary; the segment that begins is dark (`beginSegment_dark`). -/
theorem boundaryBeginsASegment : Obligations.BoundaryBeginsASegment := by
  refine ⟨fun sample kind planned s out boundary paper room chosen => ?begins,
    fun sample planned s out boundary room running judges paper short prints twenty => ?drains⟩
  case begins =>
    have moving : s.stepping = true := by
      rcases chosen with ⟨run, -⟩ | ⟨run, -⟩ | ⟨run | ⟨run, -⟩, -⟩ <;> simp [State.stepping, run]
    have undrained : s.path.run = .draining → s.hasPrint = true := by
      intro draining
      rcases chosen with ⟨run, -⟩ | ⟨-, prints, -⟩ | ⟨run | ⟨run, -⟩, -⟩
      · cases run.symm.trans draining
      · exact prints
      · cases run.symm.trans draining
      · cases run.symm.trans draining
    have due : s.atStepDue.fallsDue = s.atStepDue.chooseSegment := State.fallsDue_boundary boundary undrained paper room
    rcases chosen with ⟨run, ramp, rfl, rfl⟩ | ⟨run, -, rfl, rfl⟩ | ⟨running, held, enough, rfl, rfl⟩
    · rw [State.chooseSegment_ramp (s := s.atStepDue) run ramp] at due
      have begun := State.beginSegment_issueStep .ramp s.path.params.rampLength none sample
        { s.atStepDue with path := { s.path with rampDue := false } }
      exact ⟨_, exec_step_issued out moving due, begun.layout, begun.position, begun.punch, begun.step, State.beginSegment_dark ..,
        begun.paper, begun.run.trans run, begun.rampDue, begun.drainCause, begun.haltCause, begun.staged, begun.orders, begun.sorter,
        begun.monitor, begun.price, begun.commands⟩
    · rw [State.chooseSegment_draining (s := s.atStepDue) run] at due
      have begun := State.beginSegment_issueStep .waste s.path.params.wasteUnit none sample s.atStepDue
      exact ⟨_, exec_step_issued out moving due, begun.layout, begun.position, begun.punch, begun.step, State.beginSegment_dark ..,
        begun.paper, begun.run.trans (by simp [State.atStepDue, run]), begun.rampDue, begun.drainCause, begun.haltCause, begun.staged,
        begun.orders, begun.sorter, begun.monitor, begun.price, begun.commands⟩
    · rw [State.chooseSegment_running (s := s.atStepDue) running,
        State.chooseRunning_waste (s := s.atStepDue.inRun) held enough] at due
      have begun := State.beginSegment_issueStep .waste s.path.params.wasteUnit none sample s.atStepDue.inRun
      have notDraining : s.path.run ≠ .draining := by
        rcases running with run | ⟨run, -⟩ <;> simp [run]
      exact ⟨_, exec_step_issued out moving due, begun.layout, begun.position, begun.punch, begun.step, State.beginSegment_dark ..,
        begun.paper, begun.run.trans (by simp [State.inRun, notDraining]), begun.rampDue, begun.drainCause, begun.haltCause,
        begun.staged, begun.orders, begun.sorter, begun.monitor, begun.price, begun.commands⟩
  case drains =>
    have moving : s.stepping = true := by
      rcases running with run | ⟨run, -⟩ <;> simp [State.stepping, run]
    have undrained : s.path.run = .draining → s.hasPrint = true := fun _ => prints
    have due : s.atStepDue.fallsDue = (s.atStepDue.inRun.paperFailed.beginWaste, true) := by
      rw [State.fallsDue_boundary (s := s.atStepDue) boundary undrained paper room, State.chooseSegment_running (s := s.atStepDue) running,
        State.chooseRunning_drain (s := s.atStepDue.inRun) judges short, State.drainForPaper_waste (s := s.atStepDue.inRun) prints]
    have failedPath := State.paperFailed_path s.atStepDue.inRun
    have low : s.atStepDue.inRun.paperFailed.cause .paperLow = _ := State.paperFailed_cause (s := s.atStepDue.inRun) twenty
    have begun := State.beginSegment_issueStep .waste s.path.params.wasteUnit none sample s.atStepDue.inRun.paperFailed
    have unit : s.atStepDue.inRun.paperFailed.beginWaste =
        State.beginSegment .waste s.path.params.wasteUnit none s.atStepDue.inRun.paperFailed := by
      rw [State.beginWaste_eq, failedPath]
      rfl
    rw [unit] at due
    have layout : s.atStepDue.inRun.paperFailed.pathLayout = s.pathLayout := State.pathLayout_congr (by rw [failedPath]; rfl)
    refine ⟨_, exec_step_issued out moving due, ?_, ?_, ?_, ?_, ?_, begun.punch, begun.step, State.beginSegment_dark .., ?_, ?_, ?_, ?_,
      ?_, ?_, ?_⟩
    · exact begun.run.trans (by rw [failedPath])
    · exact begun.drainCause.trans (by rw [failedPath])
    · rw [State.issueStep_eq, State.cause_cutterStep (by decide) (by decide), State.cause_webMoved (by decide)]
      exact low
    · exact begun.layout.trans (by rw [layout, failedPath]; rfl)
    · exact begun.position.trans (by rw [failedPath]; rfl)
    · exact begun.haltCause.trans (by rw [failedPath]; rfl)
    · exact begun.staged.trans (by simp [State.atStepDue, State.inRun])
    · exact begun.orders.trans (by simp [State.atStepDue, State.inRun])
    · exact begun.sorter.trans (by simp [State.atStepDue, State.inRun])
    · exact begun.monitor.trans (by simp [State.atStepDue, State.inRun])
    · exact begun.price.trans (by simp [State.atStepDue, State.inRun])
    · exact begun.commands.trans (by simp [State.atStepDue, State.inRun])

end Sys2Proof.Machine
end

section
/-!
PROOFS. A step due that is not issued (sections 2.3 and 2.4): the halt for no paper or a full path, and the end of a drain.
-/

namespace Sys2Proof.Machine

section
variable {s : State} {queue : List Segment} {g : Segment}

/-! ### The halt -/

theorem State.fallsDue_noPaper (undrained : ¬ (s.atBoundary = true ∧ s.path.run = .draining ∧ s.hasPrint = false))
    (paper : s.exposure.paper.remaining = 0) : s.fallsDue = (s.haltForPaper, false) := by
  cases boundary : s.atBoundary with
  | false => simp [State.fallsDue, boundary, paper]
  | true =>
    have notDrained : ¬ (s.path.run = .draining ∧ ¬ s.hasPrint = true) := fun ⟨draining, gone⟩ =>
      undrained ⟨boundary, draining, by simpa using gone⟩
    rw [State.fallsDue, if_pos boundary, if_neg notDrained, if_pos paper]

theorem State.fallsDue_pathFull (undrained : ¬ (s.atBoundary = true ∧ s.path.run = .draining ∧ s.hasPrint = false))
    (boundary : s.atBoundary = true) (paper : 0 < s.exposure.paper.remaining) (full : 128 ≤ s.path.queue.length) :
    s.fallsDue = (s.halt .pathFull, false) := by
  have notDrained : ¬ (s.path.run = .draining ∧ ¬ s.hasPrint = true) := fun ⟨draining, gone⟩ =>
    undrained ⟨boundary, draining, by simpa using gone⟩
  rw [State.fallsDue, if_pos boundary, if_neg notDrained, if_neg paper.ne', if_pos full]

/-! ### The end of a drain -/

theorem State.fallsDue_drained (boundary : s.atBoundary = true) (draining : s.path.run = .draining) (none : s.hasPrint = false) :
    s.fallsDue = (s.endDrain, false) := by
  rw [State.fallsDue, if_pos boundary, if_pos ⟨draining, by simp [none]⟩]

/-- The part once its drain has ended, the staged print as it was (R32). -/
def State.drained (queue : List Segment) (g : Segment) (s : State) : State :=
  { s with
    exposure := { s.exposure with drive := [] }
    path := { s.path with run := .idle, drainCause := none, queue := queue ++ [{ g with planned := g.length }] } }

theorem State.endDrain_eq (path : s.path.queue = queue ++ [g]) :
    s.endDrain = if s.path.drainCause = some .paper then (s.drained queue g).discardStaged .aborted .discarding
      else s.drained queue g := by
  have stopped : s.stopStepping = { s with
      exposure := { s.exposure with drive := [] }
      path := { s.path with queue := queue ++ [{ g with planned := g.length }] } } := by
    rw [State.stopStepping, State.modifyHead]
    simp only [path, modifyLast_append]
    rfl
  rw [State.endDrain, stopped]
  rfl

theorem State.discardStaged_none (gone : s.reader.staged = none) (reason : RejectReason) (mode : ReaderMode) :
    s.discardStaged reason mode = s := by
  rw [State.discardStaged, gone]

theorem State.discardStaged_some {p : PrintRecord} (staged : s.reader.staged = some p) (reason : RejectReason) (mode : ReaderMode) :
    s.discardStaged reason mode =
      ((State.report .printFate (discardedPayload p reason)
        { s with reader := { s.reader with staged := none, mode := mode } }).bump (.rejected reason)).reject p.order p.index p.attempt := by
  rw [State.discardStaged, staged]
  rfl

theorem State.raise_withExposure (c : Cause) (s : State) (exposure : ExposureUnit) :
    ({ s with exposure := exposure } : State).raise c = { s.raise c with exposure := exposure } := by
  unfold State.raise State.reportCause State.report State.queueFrame State.setCause State.cause
  dsimp only
  repeat' split
  all_goals rfl

theorem State.drained_raise (c : Cause) (queue : List Segment) (g : Segment) (s : State) :
    (s.raise c).drained queue g = (s.drained queue g).raise c := by
  have exposure : (s.raise c).exposure = s.exposure := by simp
  have path : (s.raise c).path = s.path := by simp
  have commutes : ∀ p e, ({ s with path := p, exposure := e } : State).raise c = { s.raise c with path := p, exposure := e } := by
    intro p e
    rw [State.raise_withExposure c { s with path := p } e, State.raise_withPath]
  rw [State.drained, exposure, path]
  exact (commutes _ _).symm

end

/-- Settles O35: by the test that ends stepping: the halt, the end of a drain that the paper test begins, and that of a drain in
progress. -/
theorem stepDueMayEndStepping : Obligations.StepDueMayEndStepping := by
  refine ⟨fun sample g queue cause s out moving path twenty undrained why => ?halts,
    fun sample planned g queue s out running judges path boundary room gone paper short => ?fails,
    fun sample g queue s out draining path boundary gone => ?drained⟩
  case halts =>
    have halted := State.halt_eq cause s.atStepDue
    have queued : modifyLast (Segment.stopped s.reader.source.isSome) s.path.queue = queue ++ [Segment.stopped s.reader.source.isSome g] := by
      rw [path, modifyLast_append]
    rcases why with ⟨paper, rfl⟩ | ⟨paper, boundary, full, rfl⟩
    · have due := State.fallsDue_noPaper (s := s.atStepDue) undrained paper
      rw [State.haltForPaper, halted] at due
      refine ⟨_, exec_step_notIssued out moving due, ?path, ?_, ?_, ?_, ?mode, fun _ => State.pending_raise .paperLow twenty, (fun e => nomatch e),
        ?_, ?_, ?_, ?_, ?_⟩
      case path => simp [State.atStepDue, queued, Segment.stopped]
      case mode =>
        simp only [State.raise_keeps]
        rfl
      all_goals simp [State.atStepDue, Reader.darkened]
    · have due := State.fallsDue_pathFull (s := s.atStepDue) undrained boundary paper full
      rw [halted] at due
      refine ⟨_, exec_step_notIssued out moving due, ?path, ?_, ?_, ?_, ?mode, (fun e => nomatch e), fun _ => rfl, ?_, ?_, ?_, ?_, ?_⟩
      case path => simp [State.atStepDue, queued, Segment.stopped]
      case mode => rfl
      all_goals simp [State.atStepDue, Reader.darkened]
  case fails =>
    have moving : s.stepping = true := by rcases running with run | ⟨run, -⟩ <;> simp [State.stepping, run]
    have undrained : s.path.run = .draining → s.hasPrint = true := by
      intro draining
      rcases running with run | ⟨run, -⟩ <;> cases run.symm.trans draining
    have due : s.atStepDue.fallsDue = (s.atStepDue.inRun.paperFailed.endDrain, false) := by
      rw [State.fallsDue_boundary (s := s.atStepDue) boundary undrained paper room, State.chooseSegment_running (s := s.atStepDue) running,
        State.chooseRunning_drain (s := s.atStepDue.inRun) judges short, State.drainForPaper_end (s := s.atStepDue.inRun) gone]
    have failedPath := State.paperFailed_path s.atStepDue.inRun
    have ends : s.atStepDue.inRun.paperFailed.endDrain =
        (s.atStepDue.inRun.paperFailed.drained queue g).discardStaged .aborted .discarding := by
      rw [State.endDrain_eq (queue := queue) (g := g) (by rw [failedPath]; exact path), if_pos (by rw [failedPath])]
    have ended : s.atStepDue.inRun.paperFailed.drained queue g = State.raise .paperLow { s with
        now := max s.now s.exposure.stepDue
        exposure := { s.exposure with drive := [] }
        path := { s.path with run := .idle, drainCause := none, queue := queue ++ [{ g with planned := g.length }] } } :=
      State.drained_raise ..
    have reader : (s.atStepDue.inRun.paperFailed.drained queue g).reader = s.reader := by
      rw [ended]
      simp
    rw [ends] at due
    refine ⟨_, rfl, fun none => ?_, fun p staged => ?_⟩
    · rw [exec_step_notIssued out moving due, State.discardStaged_none (by rw [reader, none]), ended]
    · rw [exec_step_notIssued out moving due, State.discardStaged_some (p := p) (by rw [reader, staged]), reader, ended]
  case drained =>
    have moving : s.stepping = true := by simp [State.stepping, draining]
    have due := State.fallsDue_drained (s := s.atStepDue) boundary draining gone
    rw [State.endDrain_eq (s := s.atStepDue) path] at due
    refine ⟨_, rfl, fun stays => ?_, fun p forPaper staged => ?_⟩
    · rw [exec_step_notIssued out moving due]
      split
      · rename_i forPaper
        have none : s.reader.staged = none := by
          refine stays.resolve_left fun runEnd => ?_
          cases runEnd.symm.trans (show s.path.drainCause = some .paper from forPaper)
        exact congrArg _ (State.discardStaged_none (s := s.atStepDue.drained queue g) none _ _)
      · rfl
    · rw [exec_step_notIssued out moving due, if_pos (show s.atStepDue.path.drainCause = some .paper from forPaper)]
      exact congrArg _ (State.discardStaged_some (s := s.atStepDue.drained queue g) staged _ _)

end Sys2Proof.Machine
end

section
/-!
PROOFS. The line of a step (sections 3.4, 3.5 and 4.1): where it comes from, what it counts and flags, and the end of the stream.
-/

namespace Sys2Proof.Machine

/-! ### The line that is drawn (R57 to R59) -/

/-- How a step draws the line of a print from its source: the line, whether it was fitted, whether it was lost to an underrun, and
whether the frame at the front was used up. -/
inductive Draw (p : PrintRecord) (s : State) : LineSource → List Rgb → Bool → Bool → Bool → Prop
  | stored {f : InFrame} {rest : List InFrame} (front : s.store = f :: rest) :
    Draw p s .store (fitLine p.paperPixels (s.profile p.profile).margin (linePixels f.payload)).1
      (fitLine p.paperPixels (s.profile p.profile).margin (linePixels f.payload)).2 false true
  | starved (empty : s.store = []) : Draw p s .store (s.reader.lastLine.getD (s.marginLine p)) false true false
  | cutOff : Draw p s .cutOff (s.reader.lastLine.getD (s.marginLine p)) false true false
  | margin : Draw p s .margin (s.marginLine p) false false false

/-- A print record with the width fit and the underrun of a line counted. -/
def PrintRecord.drawn (fitted lost : Bool) (p : PrintRecord) : PrintRecord :=
  { p with underruns := p.underruns + lost.toNat, widthFits := p.widthFits + fitted.toNat }

/-- The head segment with a print record, and the UNDERRUN flag of a lost line. -/
def Segment.drawn (p : PrintRecord) (lost : Bool) (g : Segment) : Segment :=
  { g with print := some p, flags := { g.flags with underrun := g.flags.underrun || lost } }

/-- What drawing a line makes of the part, beside the line itself. -/
structure Drawn (queue : List Segment) (g : Segment) (p : PrintRecord) (source : LineSource) (line : List Rgb) (fitted lost took : Bool)
    (s u : State) : Prop where
  queue : u.path.queue = queue ++ [g.drawn (p.drawn fitted lost) lost]
  lastLine : u.reader.lastLine = if source = .store then some line else s.reader.lastLine
  cause : s.alerts.causes.length = 20 → ∀ c, u.cause c =
    if c = .underrun ∧ lost = true then
      { enabled := (s.cause .underrun).enabled, pending := true
        reported := (s.cause .underrun).reported || (s.cause .underrun).enabled, count := saturate 255 (s.cause .underrun).count }
    else s.cause c
  store : u.store = if took then s.store.tail else s.store
  returned : u.link.returnedStream = s.link.returnedStream + took.toNat

section
variable {s : State} {queue : List Segment} {g : Segment} {p : PrintRecord}

theorem State.modifyPrint_queue (path : s.path.queue = queue ++ [g]) (print : g.print = some p) (f : PrintRecord → PrintRecord) :
    (s.modifyPrint f).path.queue = queue ++ [{ g with print := some (f p) }] := by
  rw [State.modifyPrint, State.modifyHead_path_queue, path, modifyLast_append, print]
  rfl

theorem State.underrun_queue (path : s.path.queue = queue ++ [g]) (print : g.print = some p) (q : PrintRecord) :
    (s.underrun q).2.path.queue = queue ++ [g.drawn (p.drawn false true) true] := by
  have raised : ∀ u : State, (u.raise .underrun).path = u.path := by simp
  rw [State.underrun, raised, State.modifyHead_path_queue, State.modifyPrint_queue path print, modifyLast_append]
  simp [Segment.drawn, PrintRecord.drawn]

theorem State.underrun_cause (twenty : s.alerts.causes.length = 20) (c : Cause) :
    (s.underrun p).2.cause c =
      if c = .underrun then
        { enabled := (s.cause .underrun).enabled, pending := true
          reported := (s.cause .underrun).reported || (s.cause .underrun).enabled, count := saturate 255 (s.cause .underrun).count }
      else s.cause c := by
  have before : ∀ d, State.cause d ((s.modifyPrint fun p => { p with underruns := p.underruns + 1 }).modifyHead fun g =>
      { g with flags := { g.flags with underrun := true } }) = s.cause d := fun d => State.cause_congr (by simp) d
  rw [State.underrun, State.cause_raise _ _ (by simpa using twenty), before, before]

theorem Segment.drawn_unchanged (print : g.print = some p) : g.drawn (p.drawn false false) false = g := by
  simp [Segment.drawn, PrintRecord.drawn, ← print]

theorem PrintRecord.drawn_fitted (fitted : Bool) (p : PrintRecord) :
    (if fitted = true then { p with widthFits := p.widthFits + 1 } else p) = p.drawn fitted false := by
  cases fitted <;> rfl

theorem State.nextLine_stored {f : InFrame} {rest : List InFrame} (front : s.store = f :: rest) :
    s.nextLine p .store =
      ((fitLine p.paperPixels (s.profile p.profile).margin (linePixels f.payload)).1,
        { (s.modifyPrint (PrintRecord.drawn (fitLine p.paperPixels (s.profile p.profile).margin (linePixels f.payload)).2
            false)).removeSequenced with
          reader := { s.reader with
            lastLine := some (fitLine p.paperPixels (s.profile p.profile).margin (linePixels f.payload)).1 } }) := by
  have reader : ∀ k, (s.modifyPrint k).removeSequenced.reader = s.reader := by simp
  simp only [State.nextLine, front, PrintRecord.drawn_fitted, reader]

theorem State.nextLine_starved (empty : s.store = []) :
    s.nextLine p .store =
      (s.reader.lastLine.getD (s.marginLine p),
        { (s.underrun p).2 with reader := { s.reader with lastLine := some (s.reader.lastLine.getD (s.marginLine p)) } }) := by
  have reader : (s.underrun p).2.reader = s.reader := by simp
  simp only [State.nextLine, empty, reader]
  rfl

theorem State.nextLine_drawn {source : LineSource} {line : List Rgb} {fitted lost took : Bool} (path : s.path.queue = queue ++ [g])
    (print : g.print = some p) (draw : Draw p s source line fitted lost took) :
    (s.nextLine p source).1 = line ∧ Drawn queue g p source line fitted lost took s (s.nextLine p source).2 := by
  cases draw with
  | stored front =>
    rw [State.nextLine_stored front]
    refine ⟨rfl, ?_, rfl, fun _ c => ?_, ?_, ?_⟩
    · have removed : ∀ u : State, u.removeSequenced.path = u.path := by simp
      simp only [removed, State.modifyPrint_queue path print, Segment.drawn, Bool.or_false]
    · simpa using State.cause_congr (by simp) c
    · simp [State.removeSequenced, front]
    · simp [State.removeSequenced, front]
  | starved empty =>
    rw [State.nextLine_starved empty]
    refine ⟨rfl, State.underrun_queue path print p, rfl, fun twenty c => ?_, ?_, ?_⟩
    · exact (State.underrun_cause (p := p) twenty c).trans (by simp)
    · simp
    · simp
  | cutOff =>
    refine ⟨rfl, State.underrun_queue path print p, ?_, fun twenty c => ?_, ?_, ?_⟩
    · simp [State.nextLine]
    · simpa [State.nextLine] using State.underrun_cause (p := p) twenty c
    · simp [State.nextLine]
    · simp [State.nextLine]
  | margin =>
    refine ⟨rfl, ?_, rfl, fun _ c => by simp [State.nextLine], rfl, rfl⟩
    rw [Segment.drawn_unchanged print]
    exact path

/-! ### The line that is exposed (R57, R69, R74) -/

/-- A print record with a line exposed, whose pixels clipped so many samples. -/
def PrintRecord.withLine (fitted lost : Bool) (clipped : Nat) (p : PrintRecord) : PrintRecord :=
  { (p.drawn fitted lost).addClipped clipped with exposed := p.exposed + 1 }

/-- The reader once a line has been exposed: the line is kept as the last one, and a complete print is exposing no more. -/
def Reader.withLine (p : PrintRecord) (lastLine : Option (List Rgb)) (r : Reader) : Reader :=
  if p.length ≤ p.exposed + 1 then
    { r with
      source := none, lastLine := none
      mode := if r.mode = .feeding then .awaitingEnd else r.mode
      awaited := if r.mode = .feeding then some p.key else r.awaited }
  else { r with lastLine := lastLine }

/-- What a step of a print makes of the part: of its head segment, the drive, the reader, the causes and the store. -/
structure Exposed (queue : List Segment) (g : Segment) (p : PrintRecord) (source : LineSource) (line : List Rgb) (fitted lost took : Bool)
    (s t : State) : Prop where
  queue : t.path.queue = queue ++
    [g.drawn (p.withLine fitted lost ((line.map (s.lineSettings p).pixel).map Prod.snd).sum) lost]
  drive : t.exposure.drive = (line.map (s.lineSettings p).pixel).map Prod.fst
  reader : t.reader = s.reader.withLine p (if source = .store then some line else s.reader.lastLine)
  cause : s.alerts.causes.length = 20 → ∀ c, t.cause c =
    if c = .underrun ∧ lost = true then
      { enabled := (s.cause .underrun).enabled, pending := true
        reported := (s.cause .underrun).reported || (s.cause .underrun).enabled, count := saturate 255 (s.cause .underrun).count }
    else s.cause c
  store : t.store = if took then s.store.tail else s.store
  returned : t.link.returnedStream = s.link.returnedStream + took.toNat

theorem State.lineSettings_congr {s t : State} (profiles : t.exposure.profiles = s.exposure.profiles)
    (luts : t.exposure.luts = s.exposure.luts) (params : t.path.params = s.path.params) (p : PrintRecord) :
    t.lineSettings p = s.lineSettings p := by
  simp only [State.lineSettings, State.profile, State.lut, profiles, luts, params]

theorem State.completePrint_reader (path : s.path.queue = queue ++ [g]) (print : g.print = some p) :
    s.completePrint.reader =
      if p.length ≤ p.exposed then
        { s.reader with
          source := none, lastLine := none
          mode := if s.reader.mode = .feeding then .awaitingEnd else s.reader.mode
          awaited := if s.reader.mode = .feeding then some p.key else s.reader.awaited }
      else s.reader := by
  simp only [State.completePrint, State.headSegment_of_queue path, print]
  split <;> rfl

theorem State.exposeLine_exposed {source : LineSource} {line : List Rgb} {fitted lost took : Bool} (path : s.path.queue = queue ++ [g])
    (print : g.print = some p) (lit : s.reader.source = some source)
    (draw : Draw p s source line fitted lost took) : Exposed queue g p source line fitted lost took s s.exposeLine := by
  obtain ⟨drawnLine, drawn⟩ := State.nextLine_drawn path print draw
  obtain ⟨u, u_eq⟩ : ∃ u, u = (s.nextLine p source).2 := ⟨_, rfl⟩
  obtain ⟨pixels, pixels_eq⟩ : ∃ pixels, pixels = line.map (s.lineSettings p).pixel := ⟨_, rfl⟩
  have settings : u.lineSettings p = s.lineSettings p := State.lineSettings_congr (by simp [u_eq]) (by simp [u_eq]) (by simp [u_eq]) p
  have exposes : s.exposeLine =
      (State.modifyPrint (fun p => { p.addClipped (pixels.map Prod.snd).sum with exposed := p.exposed + 1 })
        { u with exposure := { u.exposure with drive := pixels.map Prod.fst } }).completePrint := by
    have head : s.headSegment.bind Segment.print = some p := by rw [State.headSegment_of_queue path]; exact print
    rw [pixels_eq, ← settings, u_eq, State.exposeLine]
    simp only [lit, head, drawnLine]
  rw [← u_eq] at drawn
  obtain ⟨v, v_eq⟩ : ∃ v, v = State.modifyPrint (fun p => { p.addClipped (pixels.map Prod.snd).sum with exposed := p.exposed + 1 })
      { u with exposure := { u.exposure with drive := pixels.map Prod.fst } } := ⟨_, rfl⟩
  rw [← v_eq] at exposes
  have queued : v.path.queue = queue ++ [g.drawn (p.withLine fitted lost (pixels.map Prod.snd).sum) lost] :=
    (congrArg (·.path.queue) v_eq).trans (State.modifyPrint_queue
      (s := { u with exposure := { u.exposure with drive := pixels.map Prod.fst } }) drawn.queue rfl _)
  have reader : v.reader = { s.reader with lastLine := if source = .store then some line else s.reader.lastLine } := by
    have same : v.reader = u.reader := by simp [v_eq]
    have kept : u.reader.mode = s.reader.mode ∧ u.reader.staged = s.reader.staged ∧ u.reader.source = s.reader.source ∧
        u.reader.awaited = s.reader.awaited := by simp [u_eq]
    obtain ⟨mode, staged, source', awaited⟩ := kept
    dsimp only
    rw [same, ← drawn.lastLine, ← mode, ← staged, ← source', ← awaited]
  rw [pixels_eq] at queued
  rw [exposes]
  constructor
  case queue => simpa using queued
  case drive => simp [v_eq, pixels_eq]
  case reader =>
    rw [State.completePrint_reader queued rfl, reader]
    rfl
  case cause =>
    intro twenty c
    rw [← drawn.cause twenty c]
    exact State.cause_congr (by simp [v_eq]) c
  case store => simpa [v_eq] using drawn.store
  case returned => simpa [v_eq] using drawn.returned

/-! ### The end of the stream before the step (R56, R60, R61) -/

theorem State.settleFront_stays (stays : s.reader.mode = .feeding → ∀ f ∈ s.store.head?, f.kind = .line) : s.settleFront = s := by
  unfold State.settleFront
  split
  · rename_i f rest feeding front
    have line : f.kind = .line := stays feeding f (by rw [front]; rfl)
    rw [line]
  · rfl

/-- A print record whose stream has ended early. -/
def PrintRecord.cutOff (missingEnd : Bool) (p : PrintRecord) : PrintRecord :=
  { p with notes := { p.notes with short := true, missingEnd := p.notes.missingEnd || missingEnd } }

/-- What a line leaves of the record of a print whose stream has ended before it. -/
theorem PrintRecord.cutOff_withLine (p : PrintRecord) (missing : Bool) (clipped : Nat) :
    let q := (p.cutOff missing).withLine false false clipped
    (q.order = p.order ∧ q.index = p.index ∧ q.attempt = p.attempt ∧ q.length = p.length ∧ q.profile = p.profile ∧
      q.charge = p.charge ∧ q.exposed = p.exposed + 1 ∧ q.underruns = p.underruns ∧ q.widthFits = p.widthFits ∧
      q.thermal = p.thermal) ∧ q.notes.short = true ∧ q.notes.missingEnd = (p.notes.missingEnd || missing) ∧
      q.clipped = min 65535 (p.clipped + clipped) ∧ q.notes.clipped = (p.notes.clipped || decide (0 < q.clipped)) := by
  simp [PrintRecord.withLine, PrintRecord.drawn, PrintRecord.addClipped, PrintRecord.cutOff]

/-- The head segment with a print record whose stream has ended early. -/
def Segment.cutOff (p : PrintRecord) (g : Segment) : Segment :=
  { g with print := some p, flags := { g.flags with short := true } }

theorem State.endStreamShort_queue (path : s.path.queue = queue ++ [g]) (print : g.print = some p) :
    s.endStreamShort.path.queue = queue ++ [g.cutOff (p.cutOff false)] := by
  have noted : (s.noteHead fun n => { n with short := true }).path.queue = queue ++ [{ g with print := some (p.cutOff false) }] := by
    rw [State.noteHead, State.modifyHead_path_queue, path, modifyLast_append, print]
    simp [PrintRecord.cutOff]
  simp only [State.endStreamShort, State.modifyHead_path_queue, noted, modifyLast_append]
  rfl

theorem State.endStreamImplicit_queue (path : s.path.queue = queue ++ [g]) (print : g.print = some p) :
    s.endStreamImplicit.path.queue = queue ++ [g.cutOff (p.cutOff true)] := by
  have noted : (s.noteHead fun n => { n with missingEnd := true }).path.queue =
      queue ++ [{ g with print := some { p with notes := { p.notes with missingEnd := true } } }] := by
    rw [State.noteHead, State.modifyHead_path_queue, path, modifyLast_append, print]
    rfl
  rw [State.endStreamImplicit, State.endStreamShort_queue noted rfl]
  simp [PrintRecord.cutOff, Segment.cutOff]

theorem State.settleFront_ends {f : InFrame} {rest : List InFrame} (feeding : s.reader.mode = .feeding) (front : s.store = f :: rest)
    (other : f.kind ≠ .line) :
    s.settleFront = if f.kind = .printEnd then s.endStreamShort.removeSequenced else s.endStreamImplicit := by
  unfold State.settleFront
  rw [feeding, front]
  cases kind : f.kind <;> simp_all

/-- What the end of the stream makes of the part, before the step. -/
structure StreamEnded (queue : List Segment) (g : Segment) (p : PrintRecord) (f : InFrame) (rest : List InFrame) (s u : State) : Prop where
  queue : u.path.queue = queue ++ [g.cutOff (p.cutOff (decide (f.kind ≠ .printEnd)))]
  reader : u.reader = { s.reader with source := some .margin, mode := .reading }
  store : u.store = if f.kind = .printEnd then rest else s.store
  returned : u.link.returnedStream = s.link.returnedStream + (decide (f.kind = .printEnd)).toNat

theorem State.settleFront_streamEnded {f : InFrame} {rest : List InFrame} (path : s.path.queue = queue ++ [g])
    (print : g.print = some p) (feeding : s.reader.mode = .feeding) (front : s.store = f :: rest) (other : f.kind ≠ .line) :
    StreamEnded queue g p f rest s s.settleFront := by
  have removed : ∀ u : State, u.removeSequenced.path = u.path ∧ u.removeSequenced.reader = u.reader := by simp
  have reader : ∀ u : State, u.endStreamShort.reader = { u.reader with source := some .margin, mode := .reading } := by
    simp [State.endStreamShort]
  rw [State.settleFront_ends feeding front other]
  by_cases ends : f.kind = .printEnd
  · have store : s.endStreamShort.store = f :: rest := by simp [front]
    rw [if_pos ends, State.removeSequenced_cons store]
    constructor <;> simp [ends, State.endStreamShort_queue path print, reader]
  · rw [if_neg ends]
    constructor
    · simpa [ends] using State.endStreamImplicit_queue path print
    · rw [State.endStreamImplicit, reader]
      simp
    · simp [ends]
    · simp [ends]

/-! ### The step of a print -/

theorem Draw.congr {t : State} {source : LineSource} {line : List Rgb} {fitted lost took : Bool} (store : t.store = s.store)
    (lastLine : t.reader.lastLine = s.reader.lastLine) (profiles : t.exposure.profiles = s.exposure.profiles)
    (draw : Draw p s source line fitted lost took) : Draw p t source line fitted lost took := by
  have profile : t.profile p.profile = s.profile p.profile := by simp only [State.profile, profiles]
  have margin : t.marginLine p = s.marginLine p := by simp only [State.marginLine, profile]
  cases draw with
  | stored front =>
    rw [← profile]
    exact .stored (store.trans front)
  | starved empty =>
    rw [← margin, ← lastLine]
    exact .starved (store.trans empty)
  | cutOff =>
    rw [← margin, ← lastLine]
    exact .cutOff
  | margin =>
    rw [← margin]
    exact .margin

/-- What a whole step of a print makes of the part: of the head segment's record, the drive, the reader, the causes and the store. -/
structure Stepped (g : Segment) (p : PrintRecord) (source : LineSource) (line : List Rgb) (fitted lost took : Bool) (s t : State) :
    Prop where
  head : ∃ h, t.headSegment = some h ∧
    h.print = some (p.withLine fitted lost ((line.map (s.lineSettings p).pixel).map Prod.snd).sum) ∧
    h.flags.short = g.flags.short ∧ h.flags.underrun = (g.flags.underrun || lost)
  drive : t.exposure.drive = (line.map (s.lineSettings p).pixel).map Prod.fst
  reader : t.reader = s.reader.withLine p (if source = .store then some line else s.reader.lastLine)
  cause : s.alerts.causes.length = 20 → ∀ c, c ≠ .regMissing → c ≠ .punchSpurious → t.cause c =
    if c = .underrun ∧ lost = true then
      { enabled := (s.cause .underrun).enabled, pending := true
        reported := (s.cause .underrun).reported || (s.cause .underrun).enabled, count := saturate 255 (s.cause .underrun).count }
    else s.cause c
  store : t.store = if took then s.store.tail else s.store
  returned : t.link.returnedStream = s.link.returnedStream + took.toNat

/-- What the zone entry and the Cutter Unit leave of the head segment's record and of the flags of the line. -/
def Segment.lineView (g : Segment) : Option PrintRecord × Bool × Bool := (g.print, g.flags.short, g.flags.underrun)

theorem State.issueStep_stepped {source : LineSource} {line : List Rgb} {fitted lost took : Bool} (sample : PunchSample)
    (path : s.path.queue = queue ++ [g]) (print : g.print = some p) (lit : s.reader.source = some source)
    (settled : s.settleFront = s) (draw : Draw p s source line fitted lost took) :
    Stepped g p source line fitted lost took s (s.issueStep sample) := by
  obtain ⟨v, v_eq⟩ : ∃ v, v = s.advanceWeb.countStep := ⟨_, rfl⟩
  have steps : s.issueStep sample = v.exposeLine.markZoneEntry.cutterStep sample := by
    rw [v_eq, State.issueStep, settled]
  have queued : v.path.queue = queue ++ [{ g with length := g.length + 1 }] := by
    have counted : ∀ u : State, u.countStep.path = u.path := by simp
    rw [v_eq, counted, State.advanceWeb, State.modifyHead_path_queue]
    simp only [path, modifyLast_append]
  have reader : v.reader = s.reader := by simp [v_eq]
  have exposed := State.exposeLine_exposed queued print (by rw [reader]; exact lit)
    (draw.congr (t := v) (by simp [v_eq]) (by rw [reader]) (by simp [v_eq]))
  have settings : v.lineSettings p = s.lineSettings p :=
    State.lineSettings_congr (by simp [v_eq]) (by simp [v_eq]) (by simp [v_eq]) p
  have causes : ∀ c, v.cause c = s.cause c := State.cause_of_causes (by simp [v_eq])
  rw [steps]
  constructor
  case head =>
    have zone : v.exposeLine.markZoneEntry.path.queue.map Segment.lineView = v.exposeLine.path.queue.map Segment.lineView := by
      unfold State.markZoneEntry
      split
      · exact State.map_mapSegments (fun g => by split <;> rfl) _
      · rfl
    have views := (State.map_cutterStep (view := Segment.lineView) ⟨fun _ _ _ => rfl⟩ sample v.exposeLine.markZoneEntry).trans zone
    have last := (State.headSegment_map Segment.lineView (v.exposeLine.markZoneEntry.cutterStep sample)).trans
      (congrArg List.getLast? views)
    rw [exposed.queue, List.map_append, List.map_singleton, List.getLast?_concat] at last
    obtain ⟨h, found, same⟩ := Option.map_eq_some_iff.mp last
    simp only [Segment.lineView, Segment.drawn, Prod.mk.injEq, settings] at same
    exact ⟨h, found, same⟩
  case drive =>
    rw [← settings, ← exposed.drive]
    simp
  case reader =>
    rw [← reader, ← exposed.reader]
    simp
  case cause =>
    intro twenty c notMissing notSpurious
    have zone : v.exposeLine.markZoneEntry.cause c = v.exposeLine.cause c := State.cause_congr (by simp) c
    rw [State.cause_cutterStep notMissing notSpurious, zone, exposed.cause (by simpa [v_eq] using twenty) c, causes, causes]
  case store => simpa [v_eq] using exposed.store
  case returned => simpa [v_eq] using exposed.returned

/-- A step whose front frame ends the stream is the step of the part that has ended it. -/
theorem State.issueStep_settleFront (sample : PunchSample) (settled : s.settleFront.settleFront = s.settleFront) :
    s.settleFront.issueStep sample = s.issueStep sample := by
  rw [State.issueStep, State.issueStep, settled]

/-- What a step of a print makes of the part where a frame at the front has ended the stream: the margin line (R60, R61). -/
structure SteppedShort (g : Segment) (p : PrintRecord) (f : InFrame) (rest : List InFrame) (s t : State) : Prop where
  head : ∃ h, t.headSegment = some h ∧
    h.print = some ((p.cutOff (decide (f.kind ≠ .printEnd))).withLine false false
      (((s.marginLine p).map (s.lineSettings p).pixel).map Prod.snd).sum) ∧
    h.flags.short = true ∧ h.flags.underrun = g.flags.underrun
  drive : t.exposure.drive = ((s.marginLine p).map (s.lineSettings p).pixel).map Prod.fst
  reader : t.reader = Reader.withLine p s.reader.lastLine { s.reader with source := some .margin, mode := .reading }
  cause : s.alerts.causes.length = 20 → ∀ c, c ≠ .regMissing → c ≠ .punchSpurious → t.cause c = s.cause c
  store : t.store = if f.kind = .printEnd then rest else s.store
  returned : t.link.returnedStream = s.link.returnedStream + (decide (f.kind = .printEnd)).toNat

theorem State.issueStep_steppedShort {f : InFrame} {rest : List InFrame} (sample : PunchSample) (path : s.path.queue = queue ++ [g])
    (print : g.print = some p) (feeding : s.reader.mode = .feeding)
    (front : s.store = f :: rest) (other : f.kind ≠ .line) : SteppedShort g p f rest s (s.issueStep sample) := by
  have streamEnded := State.settleFront_streamEnded path print feeding front other
  have settled : s.settleFront.settleFront = s.settleFront :=
    State.settleFront_stays fun mode => by rw [streamEnded.reader] at mode; cases mode
  obtain ⟨a, a_eq⟩ : ∃ a, a = s.settleFront := ⟨_, rfl⟩
  have margin : ∀ m, a.marginLine (p.cutOff m) = s.marginLine p := fun m => by
    simp [State.marginLine, State.profile, PrintRecord.cutOff, PrintRecord.paperPixels, a_eq]
  have settings : ∀ m, a.lineSettings (p.cutOff m) = s.lineSettings p := fun m =>
    State.lineSettings_congr (s := s) (by simp [a_eq]) (by simp [a_eq]) (by simp [a_eq]) (p.cutOff m)
  have causes : ∀ c, a.cause c = s.cause c := State.cause_of_causes (by simp [a_eq])
  rw [← State.issueStep_settleFront sample settled]
  rw [← a_eq] at streamEnded settled ⊢
  have stepped := State.issueStep_stepped sample streamEnded.queue rfl (source := .margin) (by rw [streamEnded.reader])
    settled .margin
  rw [margin] at stepped
  obtain ⟨h, head, record, short, underrun⟩ := stepped.head
  constructor
  case head =>
    rw [settings] at record
    exact ⟨h, head, record, short, underrun.trans (Bool.or_false _)⟩
  case drive => rw [stepped.drive, settings]
  case reader =>
    rw [stepped.reader, streamEnded.reader]
    rfl
  case cause =>
    intro twenty c notMissing notSpurious
    rw [stepped.cause (by simpa [a_eq] using twenty) c notMissing notSpurious, causes, causes]
    simp
  case store => exact stepped.store.trans streamEnded.store
  case returned => exact stepped.returned.trans streamEnded.returned

end

end Sys2Proof.Machine
end

section
/-!
PROOFS. The step of an exposing print, and the lit emitters (sections 3.5, 4.1 and 4.2).
-/

namespace Sys2Proof.Machine

section
variable {s : State} {p : PrintRecord}

/-! ### The lit emitters (R68) -/

theorem State.sinceStep_of_began {began : Nat} (due : s.exposure.stepDue = began + (s.exposure.reload + 1)) :
    s.sinceStep = s.now - began := by
  rw [State.sinceStep, due]
  omega

/-- The on-time of a colour: R 0, G 1, B 2. -/
def Rgb.ofColour (t : Rgb) : Nat → Nat
  | 0 => t.r
  | 1 => t.g
  | _ => t.b

theorem State.emitterLit_iff (out : s.inReset = false) (i colour : Nat) :
    s.emitterLit i colour = true ↔
      colour * (s.path.params.linePeriod / 3) ≤ s.sinceStep ∧
        s.sinceStep < colour * (s.path.params.linePeriod / 3) + (s.drivenPixel i).ofColour colour := by
  have lit : s.emitterLit i colour = (!s.inReset && decide (colour * (s.path.params.linePeriod / 3) ≤ s.sinceStep ∧
      s.sinceStep < colour * (s.path.params.linePeriod / 3) + (s.drivenPixel i).ofColour colour)) := rfl
  rw [lit, out, Bool.not_false, Bool.true_and, decide_eq_true_iff]

/-- An emitter is dark from the end of the third phase on, if its on-time is no longer than a phase. -/
theorem State.emitterLit_after (out : s.inReset = false) {i colour : Nat} (inside : colour < 3)
    (short : (s.drivenPixel i).ofColour colour ≤ s.path.params.linePeriod / 3)
    (after : 3 * (s.path.params.linePeriod / 3) ≤ s.sinceStep) : s.emitterLit i colour = false := by
  have last : colour * (s.path.params.linePeriod / 3) + s.path.params.linePeriod / 3 ≤ 3 * (s.path.params.linePeriod / 3) := by
    rw [← Nat.succ_mul]
    exact Nat.mul_le_mul_right _ inside
  rw [Bool.eq_false_iff, ne_eq, State.emitterLit_iff out]
  exact fun ⟨_, before⟩ => before.not_ge (((Nat.add_le_add_left short _).trans last).trans after)

theorem State.emitterLit_inReset (held : s.inReset = true) (i colour : Nat) : s.emitterLit i colour = false := by
  simp [State.emitterLit, held]

/-! ### The reader behind a line -/

theorem Reader.withLine_going (going : p.exposed + 1 < p.length) (lastLine : Option (List Rgb)) (r : Reader) :
    r.withLine p lastLine = { r with lastLine := lastLine } := if_neg going.not_ge

theorem Reader.withLine_complete (complete : p.length ≤ p.exposed + 1) (lastLine : Option (List Rgb)) (r : Reader) :
    r.withLine p lastLine =
      { r with
        source := none, lastLine := none
        mode := if r.mode = .feeding then .awaitingEnd else r.mode
        awaited := if r.mode = .feeding then some p.key else r.awaited } := if_pos complete

end

/-! ### Where the line comes from -/

/-- The line of a step by its source, as section 3.5 tells it: whether it is fitted, lost to an underrun, or the stream ends. -/
def LineOfStep (p : PrintRecord) (s : State) (source : LineSource) (line : List Rgb) (fitted lost ended : Bool) : Prop :=
  source = .store ∧ lost = false ∧ ended = false ∧
      (∃ f, s.store.head? = some f ∧ f.kind = .line ∧
        (line, fitted) = fitLine p.paperPixels (s.profile p.profile).margin (linePixels f.payload)) ∨
    source = .store ∧ s.store = [] ∧ line = s.reader.lastLine.getD (s.marginLine p) ∧ fitted = false ∧ lost = true ∧ ended = false ∨
    source = .cutOff ∧ line = s.reader.lastLine.getD (s.marginLine p) ∧ fitted = false ∧ lost = true ∧ ended = false ∨
    source = .margin ∧ line = s.marginLine p ∧ fitted = false ∧ lost = false ∧ ended = false ∨
    source = .store ∧ (∃ f, s.store.head? = some f ∧ f.kind ≠ .line) ∧ line = s.marginLine p ∧ fitted = false ∧ lost = false ∧
      ended = true

section
variable {s : State} {p : PrintRecord} {source : LineSource} {line : List Rgb} {fitted lost : Bool}

/-- A line that does not end the stream is drawn, and takes the frame at the front away where it is a LINE of the source STORE. -/
theorem LineOfStep.draw (from_ : LineOfStep p s source line fitted lost false) :
    ∃ took, Draw p s source line fitted lost took ∧
      (took = true ↔ source = .store ∧ ∃ f ∈ s.store.head?, f.kind = .line ∨ f.kind = .printEnd) ∧
      (source = .store → ∀ f ∈ s.store.head?, f.kind = .line) := by
  rcases from_ with ⟨rfl, rfl, -, f, front, kind, fits⟩ | ⟨rfl, empty, rfl, rfl, rfl, -⟩ | ⟨rfl, rfl, rfl, rfl, -⟩ |
    ⟨rfl, rfl, rfl, rfl, -⟩ | ⟨-, -, -, -, -, ended⟩
  · obtain ⟨rest, store⟩ := List.head?_eq_some_iff.mp front
    obtain ⟨rfl, rfl⟩ := Prod.mk.inj fits
    exact ⟨true, .stored store, by simp [front, kind], by simp [front, kind]⟩
  · exact ⟨false, .starved empty, by simp [empty], by simp [empty]⟩
  · exact ⟨false, .cutOff, by simp, by simp⟩
  · exact ⟨false, .margin, by simp, by simp⟩
  · cases ended

theorem LineOfStep.ends (from_ : LineOfStep p s source line fitted lost true) :
    source = .store ∧ (∃ f rest, s.store = f :: rest ∧ f.kind ≠ .line) ∧ line = s.marginLine p ∧ fitted = false ∧ lost = false := by
  rcases from_ with ⟨-, -, ended, -⟩ | ⟨-, -, -, -, -, ended⟩ | ⟨-, -, -, -, ended⟩ | ⟨-, -, -, -, ended⟩ |
    ⟨fromStore, ⟨f, front, other⟩, line, fitted, lost, -⟩
  · cases ended
  · cases ended
  · cases ended
  · cases ended
  · obtain ⟨rest, store⟩ := List.head?_eq_some_iff.mp front
    exact ⟨fromStore, ⟨f, rest, store, other⟩, line, fitted, lost⟩

end

/-- Settles O37: by whether the frame at the front ends the stream (`issueStep_steppedShort`) or the line is drawn
(`issueStep_stepped`). -/
theorem stepExposesALine : Obligations.StepExposesALine := by
  refine ⟨fun sample p g queue source line fitted lost ended s out moving path unfinished paper print lit feeding twenty => ?line,
    fun i began s due past => ?emitters⟩
  case line =>
    intro code margin drawn pixels
    have drawn : LineOfStep p s.atStepDue source line fitted lost ended := drawn
    have inside : s.atBoundary = false := by
      rw [Bool.eq_false_iff]
      exact fun boundary => unfinished ((State.atBoundary_of_queue path).mp boundary)
    have acts := exec_step_issued (sample := sample) out moving (State.fallsDue_inside (s := s.atStepDue) inside paper)
    have chem := fun (i : Nat) (k : Segment) (here : s.path.queue[i]? = some k) => State.issueStep_chem sample (s := s.atStepDue) here
    have clock : (s.atStepDue.issueStep sample).now = max s.now s.exposure.stepDue ∧
        (s.atStepDue.issueStep sample).exposure.stepDue = s.exposure.stepDue + (s.exposure.reload + 1) ∧
        (s.atStepDue.issueStep sample).exposure.reload = s.exposure.reload := by
      simp [State.issueStep_eq, State.atStepDue, Nat.add_assoc]
    obtain ⟨now, stepDue, reload⟩ := clock
    obtain ⟨t, t_eq⟩ : ∃ t, t = s.atStepDue.issueStep sample := ⟨_, rfl⟩
    rw [← t_eq] at acts chem now stepDue reload
    by_cases ends : ended = true
    · obtain rfl : ended = true := ends
      obtain ⟨rfl, ⟨f, rest, store, other⟩, rfl, rfl, rfl⟩ := drawn.ends
      have store : s.store = f :: rest := store
      have fed : s.reader.mode = .feeding := feeding.mp rfl
      have stepped := State.issueStep_steppedShort (s := s.atStepDue) sample path print fed store other
      rw [← t_eq] at stepped
      obtain ⟨h, head, record, short, underrun⟩ := stepped.head
      obtain ⟨⟨order, index, attempt, length, -, -, exposed, underruns, widthFits, thermal⟩, noted, -, clipped, noteClipped⟩ :=
        PrintRecord.cutOff_withLine p (decide (f.kind ≠ .printEnd))
          (((s.atStepDue.marginLine p).map (s.atStepDue.lineSettings p).pixel).map Prod.snd).sum
      refine ⟨t, h, _, acts, head, record, now, stepDue, reload, stepped.drive, ⟨order, index, attempt, length, thermal⟩, exposed,
        underruns, widthFits, clipped, noteClipped, noted.trans (Bool.or_true _).symm,
        underrun.trans (Bool.or_false _).symm, short.trans (Bool.or_true _).symm,
        fun c notMissing notSpurious =>
          (stepped.cause twenty c notMissing notSpurious).trans (by simp [State.atStepDue, State.cause]), fun used _ => ?_, fun unused => ?_,
        fun going => ?_, fun complete => ?_, chem⟩
      · have kind : f.kind = .printEnd := by
          obtain ⟨f', front', kind⟩ := used
          obtain rfl : f = f' := Option.some.inj ((congrArg List.head? store).symm.trans front')
          exact kind.resolve_left other
        exact ⟨stepped.store.trans (by rw [if_pos kind, store]; rfl), stepped.returned.trans (by rw [kind]; rfl)⟩
      · have kind : f.kind ≠ .printEnd := (unused.resolve_left fun h => h rfl) f (congrArg List.head? store) |>.2
        exact ⟨stepped.store.trans (if_neg kind), stepped.returned.trans (by rw [decide_eq_false kind]; rfl)⟩
      · rw [stepped.reader, Reader.withLine_going going]
        exact ⟨rfl, rfl, by simp [State.atStepDue]⟩
      · rw [stepped.reader, Reader.withLine_complete complete]
        exact ⟨rfl, rfl, rfl, fun _ e => nomatch e⟩
    · obtain rfl : ended = false := by simpa using ends
      obtain ⟨took, draw, tookIff, lines⟩ := drawn.draw
      have settled : s.atStepDue.settleFront = s.atStepDue := State.settleFront_stays fun mode => lines (feeding.mpr mode)
      have stepped := State.issueStep_stepped (s := s.atStepDue) sample path print lit settled draw
      rw [← t_eq] at stepped
      obtain ⟨h, head, record, short, underrun⟩ := stepped.head
      refine ⟨t, h, _, acts, head, record, now, stepDue, reload, stepped.drive, ⟨rfl, rfl, rfl, rfl, rfl⟩, rfl, rfl, rfl, rfl, rfl,
        (Bool.or_false _).symm, underrun, by simpa using short, stepped.cause twenty, fun used fromStore => ?_, fun unused => ?_, fun going => ?_,
        fun complete => ?_, chem⟩
      · have took_eq := tookIff.mpr ⟨fromStore, used⟩
        exact ⟨stepped.store.trans (by rw [took_eq]; rfl), stepped.returned.trans (by rw [took_eq]; rfl)⟩
      · have took_eq : took = false := by
          rw [Bool.eq_false_iff, ne_eq, tookIff]
          rintro ⟨fromStore, f, front, kind⟩
          rcases unused with other | others
          · exact other fromStore
          · exact kind.elim (others f front).1 (others f front).2
        exact ⟨stepped.store.trans (by rw [took_eq]; rfl), stepped.returned.trans (by rw [took_eq]; rfl)⟩
      · have reader := stepped.reader.trans (Reader.withLine_going going _ _)
        rw [reader]
        exact ⟨rfl, lit, by simp [State.atStepDue]⟩
      · have reader := stepped.reader.trans (Reader.withLine_complete complete _ _)
        rw [reader]
        refine ⟨rfl, rfl, ?_, fun fromStore _ => if_pos (feeding.mp fromStore)⟩
        simp only [Bool.false_eq_true, if_false, feeding]
        rfl
  case emitters =>
    intro phase since t
    have since_eq : s.sinceStep = since := State.sinceStep_of_began due
    have phase_eq : s.path.params.linePeriod / 3 = phase := rfl
    refine ⟨fun v there => by simp [t, State.drivenPixel, List.getD_eq_getElem?_getD, there],
      fun held colour => State.emitterLit_inReset held i colour, fun out => ⟨?_, ?_, ?_⟩, fun red green blue after colour inside => ?_⟩
    · rw [State.emitterLit_iff out, since_eq, Nat.zero_mul, Nat.zero_add]
      exact and_iff_right (Nat.zero_le _)
    · rw [State.emitterLit_iff out, since_eq, phase_eq, Nat.one_mul]
      rfl
    · rw [State.emitterLit_iff out, since_eq, phase_eq]
      rfl
    · by_cases held : s.inReset = true
      · exact State.emitterLit_inReset held i colour
      · have short : t.ofColour colour ≤ phase := by interval_cases colour <;> assumption
        exact State.emitterLit_after (by simpa using held) inside short (by rw [since_eq]; exact after)

end Sys2Proof.Machine
end

section
/-!
PROOFS. The start of the ready print at a boundary (sections 2.3, 2.4, 3.4 and 3.5).
-/

namespace Sys2Proof.Machine

section
variable {s : State} {p : PrintRecord}

theorem State.chooseRunning_start (head : s.headHold = false) (chemistry : s.chemistryHold = false) (ready : s.stagedReady = true)
    (staged : s.reader.staged = some p) (enough : p.length + (s.path.params.lCut + 240) ≤ s.exposure.paper.remaining) :
    s.chooseRunning = (s.startPrint p, true) := by
  have candidate := (State.candidate_eq_staged head chemistry ready).trans staged
  simp only [State.chooseRunning, candidate, State.paperTest_iff.mpr enough, if_true]

/-- The record of a print that starts: the staged one, with the thermal values of the moment (R38). -/
def State.started (p : PrintRecord) (s : State) : PrintRecord := { p with thermal := some s.captureThermal }

/-- The reader that has handed the staged print over and feeds it (R56). -/
def Reader.feeds (r : Reader) : Reader :=
  { r with mode := .feeding, staged := none, source := some .store, lastLine := none, awaited := none }

theorem State.fallsDue_start (boundary : s.atBoundary = true) (room : s.path.queue.length < 128)
    (running : s.path.run = .running ∨ s.path.run = .starting ∧ s.path.rampDue = false) (head : s.headHold = false)
    (chemistry : s.chemistryHold = false) (ready : s.stagedReady = true) (staged : s.reader.staged = some p)
    (paper : 0 < s.exposure.paper.remaining) (enough : p.length + (s.path.params.lCut + 240) ≤ s.exposure.paper.remaining) :
    s.fallsDue = (s.inRun.startPrint p, true) := by
  have undrained : s.path.run = .draining → s.hasPrint = true := by
    intro draining
    rcases running with run | ⟨run, -⟩ <;> cases run.symm.trans draining
  rw [State.fallsDue_boundary boundary undrained paper room, State.chooseSegment_running running,
    State.chooseRunning_start (s := s.inRun) head chemistry ready staged enough]

theorem State.startPrint_eq (p : PrintRecord) (s : State) :
    s.startPrint p = State.beginSegment .print p.length (some (s.started p)) { s with reader := s.reader.feeds } := rfl

theorem State.startPrint_queue (p : PrintRecord) (s : State) :
    (s.startPrint p).path.queue = s.path.queue ++ [Segment.fresh .print s.path.position p.length (some (s.started p))] := rfl

theorem State.startPrint_reader (p : PrintRecord) (s : State) : (s.startPrint p).reader = s.reader.feeds := rfl

end

/-- Settles O33: the choice starts the print, and its first step draws the LINE at the front, or ends the stream. -/
theorem readyPrintStartsAtABoundary : Obligations.ReadyPrintStartsAtABoundary := by
  unfold Obligations.ReadyPrintStartsAtABoundary
  intro sample p f rest s out boundary room running head chemistry ready staged front enough going thermal code line
  have moving : s.stepping = true := by rcases running with run | ⟨run, -⟩ <;> simp [State.stepping, run]
  have due : s.atStepDue.fallsDue = (s.atStepDue.inRun.startPrint p, true) :=
    State.fallsDue_start (s := s.atStepDue) boundary room running head chemistry ready staged (by simp only [State.atStepDue]; omega) enough
  have acts := exec_step_issued (sample := sample) out moving due
  have begun : Begun .print p.length { s.atStepDue.inRun with reader := s.reader.feeds }
      ((s.atStepDue.inRun.startPrint p).issueStep sample) := State.beginSegment_issueStep ..
  obtain ⟨v, v_eq⟩ : ∃ v, v = s.atStepDue.inRun.startPrint p := ⟨_, rfl⟩
  have started : s.atStepDue.inRun.started p = { p with thermal := some thermal } := rfl
  have queued : v.path.queue = s.path.queue ++ [Segment.fresh .print s.path.position p.length (some { p with thermal := some thermal })] :=
    congrArg (·.path.queue) v_eq
  have reader : v.reader = s.reader.feeds := congrArg State.reader v_eq
  have stored : v.store = f :: rest := (congrArg State.store v_eq).trans front
  have returned : v.link.returnedStream = s.link.returnedStream := congrArg (·.link.returnedStream) v_eq
  have settings : v.lineSettings { p with thermal := some thermal } = s.lineSettings { p with thermal := some thermal } :=
    State.lineSettings_congr (congrArg (·.exposure.profiles) v_eq) (congrArg (·.exposure.luts) v_eq) (congrArg (·.path.params) v_eq) _
  have profile : v.profile p.profile = s.profile p.profile := by simp only [State.profile, v_eq]; rfl
  rw [← v_eq] at begun acts
  have common := And.intro begun.punch (And.intro begun.run (And.intro begun.position (And.intro begun.orders
    (And.intro begun.sorter (And.intro begun.monitor (And.intro begun.price begun.commands))))))
  by_cases kind : f.kind = .line
  · have settled : v.settleFront = v := State.settleFront_stays fun _ f' first => by
      rw [stored] at first
      obtain rfl : f = f' := Option.some.inj first
      exact kind
    have draw : Draw { p with thermal := some thermal } v .store line.1 line.2 false true := by
      have line_eq : line = fitLine (12 * p.width) (v.profile p.profile).margin (linePixels f.payload) := by
        rw [profile]
        exact if_pos kind
      rw [line_eq]
      exact .stored stored
    have stepped := State.issueStep_stepped sample queued rfl (by rw [reader]; rfl) settled draw
    obtain ⟨h, top, record, short, underrun⟩ := stepped.head
    refine ⟨_, h, _, acts, begun.layout, top, record, short.trans (by simp [kind, Segment.fresh]),
      ⟨rfl, rfl, rfl, rfl, rfl, rfl, rfl, rfl, rfl, rfl, ?_, ?_⟩, ?_, begun.staged, fun _ => ?_, fun other => absurd kind other,
      fun _ => ⟨?_, ?_⟩, fun other => absurd kind other, common⟩
    · simp [kind, PrintRecord.withLine, PrintRecord.drawn, PrintRecord.addClipped]
    · simp [kind, PrintRecord.withLine, PrintRecord.drawn, PrintRecord.addClipped]
    · rw [stepped.drive, settings, List.map_map]
      rfl
    · rw [stepped.reader, Reader.withLine_going (p := { p with thermal := some thermal }) going, reader]
      exact ⟨rfl, rfl, rfl⟩
    · rw [stepped.store, stored]
      rfl
    · rw [stepped.returned, returned]
      rfl
  · have stepped := State.issueStep_steppedShort sample queued rfl (by rw [reader]; rfl) stored kind
    obtain ⟨h, top, record, short, -⟩ := stepped.head
    obtain ⟨⟨order, index, attempt, length, slot, charge, exposed, underruns, widthFits, values⟩, noted, missing, -⟩ :=
      PrintRecord.cutOff_withLine { p with thermal := some thermal } (decide (f.kind ≠ .printEnd))
        (((v.marginLine { p with thermal := some thermal }).map (v.lineSettings { p with thermal := some thermal }).pixel).map
          Prod.snd).sum
    have line_eq : v.marginLine { p with thermal := some thermal } = line.1 := by
      have margin : line = (List.replicate (12 * p.width) ⟨code, code, code⟩, false) := if_neg kind
      rw [margin, State.marginLine, profile]
      rfl
    have fits : line.2 = false := congrArg Prod.snd (if_neg kind : line = (List.replicate (12 * p.width) ⟨code, code, code⟩, false))
    refine ⟨_, h, _, acts, begun.layout, top, record, short.trans (by simp [kind]),
      ⟨order, index, attempt, length, slot, charge, exposed, underruns, widthFits.trans (by rw [fits]; rfl), values,
        noted.trans (by simp [kind]), missing.trans (by simp [kind])⟩, ?_, begun.staged, fun line => absurd line kind, fun _ => ?_,
      fun ends => ?_, fun _ noEnd => ⟨?_, ?_⟩, common⟩
    · rw [stepped.drive, settings, line_eq, List.map_map]
      rfl
    · rw [stepped.reader, Reader.withLine_going (p := { p with thermal := some thermal }) going]
      exact ⟨rfl, rfl⟩
    · have printEnd : f.kind = .printEnd := ends.resolve_left kind
      exact ⟨stepped.store.trans (if_pos printEnd), stepped.returned.trans (by rw [returned, printEnd]; rfl)⟩
    · exact stepped.store.trans ((if_neg noEnd).trans (stored.trans front.symm))
    · exact stepped.returned.trans (by rw [returned, decide_eq_false noEnd]; rfl)

end Sys2Proof.Machine
end

section
/-!
PROOFS. No print starts unless it is allowed (section 2.4): of all commands only a step begins a PRINT segment, and only where the
ready staged print has passed the tests of the boundary.
-/

namespace Sys2Proof.Machine

/-- Every PRINT segment of the path begins before a web position. -/
def PrintsBefore (position : Int) (s : State) : Prop := ∀ h ∈ s.path.queue, h.kind = .print → h.start < position

namespace PrintsBefore

variable {position : Int} {s t : State}

theorem iff_gist : PrintsBefore position s ↔ ∀ l ∈ s.pathGist, l.1 = .print → l.2.1 < position := by
  simp [PrintsBefore, State.pathGist, Segment.gist]

theorem samePath (h : PrintsBefore position s) (k : SamePath s t) : PrintsBefore position t := by
  rw [iff_gist, k.pathGist]
  exact iff_gist.mp h

theorem calm (h : PrintsBefore position s) (k : Calm s t) : PrintsBefore position t := h.samePath k.samePath

theorem withQueue {queue : List Segment} (h : PrintsBefore position s) (same : t.path.queue = s.path.queue ++ queue)
    (notPrint : ∀ g ∈ queue, g.kind ≠ .print) : PrintsBefore position t := by
  intro g present print
  rw [same] at present
  rcases List.mem_append.mp present with old | new
  · exact h g old print
  · exact absurd print (notPrint g new)

theorem beginSegment {kind : SegmentKind} (notPrint : kind ≠ .print) (planned : Nat) (print : Option PrintRecord)
    (h : PrintsBefore position s) : PrintsBefore position (s.beginSegment kind planned print) :=
  h.withQueue rfl fun g new => by
    obtain rfl := List.mem_singleton.mp new
    exact notPrint

theorem halt (h : PrintsBefore position s) (cause : HaltCause) : PrintsBefore position (s.halt cause) := by
  have stopped : PrintsBefore position s.endExposure.stopStepping := (h.calm (.endExposure s)).calm (.stopStepping _)
  exact stopped

theorem endDrain (h : PrintsBefore position s) : PrintsBefore position s.endDrain := by
  have stopped : PrintsBefore position s.stopStepping := h.calm (.stopStepping s)
  have idle : PrintsBefore position { s.stopStepping with path := { s.stopStepping.path with run := .idle, drainCause := none } } :=
    stopped
  unfold State.endDrain
  dsimp only
  split
  · exact idle.calm (.discardStaged ..)
  · exact idle

theorem beginWaste (h : PrintsBefore position s) : PrintsBefore position s.beginWaste :=
  h.beginSegment (kind := .waste) (by decide) _ _

theorem keptByCuts : KeptByCuts (PrintsBefore position) where
  samePath _ _ same h := h.samePath same
  halt cause _ h := h.halt cause
  tail _ _ _ hq h := fun k present => h k (by rw [hq]; exact List.mem_cons_of_mem _ present)
  endDrain _ _ _ h := h.endDrain

theorem takeRunAbort (h : PrintsBefore position s) (f : InFrame) : PrintsBefore position (s.takeRunAbort f) := by
  have aborted (u : State) : PrintsBefore position u.abortRun := by
    intro g present print
    obtain rfl := List.mem_singleton.mp (show g ∈ [_] from present)
    cases print
  refine calm ?_ (Inert.removeImmediate _).calm
  repeat' split
  · exact h.calm (Inert.answer ..).calm
  · exact h.calm (Inert.answer ..).calm
  · exact aborted _

theorem takeRunparamLoad (h : PrintsBefore position s) (f : InFrame) : PrintsBefore position (s.takeRunparamLoad f) := by
  have applied (p : RunParams) : PrintsBefore position (s.applyRunParams p) := by
    intro g present print
    have resized : g ∈ s.path.queue.map (Segment.resizePurge s.path.params.lCut p.lCut) := by
      simpa [State.applyRunParams] using present
    obtain ⟨k, old, rfl⟩ := List.mem_map.mp resized
    unfold Segment.resizePurge at print ⊢
    split
    · rename_i purge
      rw [if_pos purge] at print
      cases purge.1.symm.trans print
    · rename_i other
      rw [if_neg other] at print
      exact h k old print
  refine calm ?_ (Inert.removeSequenced _).calm
  repeat' split
  · exact h.calm (Inert.answer ..).calm
  · exact (applied _).calm (Inert.answer ..).calm
  · exact h.calm (Inert.answer ..).calm

theorem takeRunStart (h : PrintsBefore position s) (f : InFrame) : PrintsBefore position (s.takeRunStart f) := by
  have accepted : PrintsBefore position s.acceptRunStart := by
    unfold State.acceptRunStart
    split
    all_goals exact h
  refine calm ?_ (Inert.removeImmediate _).calm
  repeat' split
  · exact h.calm (Inert.answer ..).calm
  · exact accepted.calm (Inert.answer ..).calm
  · exact h.calm (Inert.answer ..).calm

theorem takeRunEnd (h : PrintsBefore position s) (f : InFrame) : PrintsBefore position (s.takeRunEnd f) := by
  have accepted : PrintsBefore position s.acceptRunEnd := by
    unfold State.acceptRunEnd
    split
    all_goals exact h
  refine calm ?_ (Inert.removeImmediate _).calm
  split
  · exact h.calm (Inert.answer ..).calm
  · exact accepted.calm (Inert.answer ..).calm

theorem expireDwell (h : PrintsBefore position s) : PrintsBefore position s.expireDwell := by
  unfold State.expireDwell
  split
  · exact calm (calm (by exact h) (.markZone (f := Segment.flagDwell) (fun _ => rfl) _)) (Inert.raise ..).calm
  all_goals exact h

theorem issueStep (h : PrintsBefore position s) (sample : PunchSample) : PrintsBefore position (s.issueStep sample) := by
  have advanced {u : State} (h : PrintsBefore position u) : PrintsBefore position u.advanceWeb := by
    have views : u.advanceWeb.path.queue.map (fun g => (g.kind, g.start)) = u.path.queue.map fun g => (g.kind, g.start) :=
      State.map_advanceWeb ⟨fun _ _ => rfl, fun _ _ => rfl, fun _ _ => rfl, fun _ _ => rfl⟩ u
    have iff_view (v : State) : PrintsBefore position v ↔
        ∀ l ∈ v.path.queue.map (fun g => (g.kind, g.start)), l.1 = .print → l.2 < position := by simp [PrintsBefore]
    rw [iff_view, views, ← iff_view]
    exact h
  exact ((((advanced (h.calm (.settleFront s))).calm (Calm.countStep _).calm).calm (.exposeLine _)).calm
    (.markZoneEntry _)).samePath (.cutterStep sample _)

end PrintsBefore

theorem effect_printsBefore {c : Instr} {position : Int} {s : State} (notStep : ∀ sample, c ≠ .step sample)
    (h : PrintsBefore position s) : PrintsBefore position (effect c s) := by
  by_cases calm : calmCommand c = true
  · exact h.calm (effect_calm calm s)
  cases c
  case fullReset =>
    intro g present print
    obtain rfl := List.mem_singleton.mp (show g ∈ [_] from present)
    cases print
  case orderClose =>
    exact State.onSequenced_preserves (fun u _ h => h.calm (.toReading u)) (fun f u _ h => h.samePath (.takeOrderClose f u)) h
  case runparamLoad =>
    exact State.onSequenced_preserves (fun u _ h => h.calm (.toReading u)) (fun f _ _ h => h.takeRunparamLoad f) h
  case runStart => exact State.onImmediate_preserves (fun f _ h => h.takeRunStart f) h
  case runEnd => exact State.onImmediate_preserves (fun f _ h => h.takeRunEnd f) h
  case runAbort => exact State.onImmediate_preserves (fun f _ h => h.takeRunAbort f) h
  case step sample => exact absurd rfl (notStep sample)
  case cutDone => exact PrintsBefore.keptByCuts.takeCutDone h
  case cutTimeout => exact PrintsBefore.keptByCuts.giveUpCut h
  case dwellExpiry => exact h.expireDwell
  case estopJamInput input active => exact PrintsBefore.keptByCuts.takeStopInput input active h
  case drop place => exact (h.samePath (.judgeDrop _ s)).samePath (.expireOldest ..)
  case deliveryDeadline => exact h.samePath (.reachDeadline s)
  case pricingComplete => exact h.samePath (.completePricing s)
  all_goals exact absurd rfl calm

/-! ### The choice that starts a print -/

section
variable {s : State}

theorem State.candidate_eq_some {p : PrintRecord} (candidate : s.candidate = some p) :
    s.headHold = false ∧ s.chemistryHold = false ∧ s.stagedReady = true ∧ s.reader.staged = some p := by
  unfold State.candidate at candidate
  split at candidate
  · rename_i allowed
    simp only [Bool.and_eq_true, Bool.not_eq_true'] at allowed
    exact ⟨allowed.1.1, allowed.1.2, allowed.2, candidate⟩
  · cases candidate

/-- The ready staged print may start: no hold is on, and the paper test passes (R36, R37). -/
structure MayStart (p : PrintRecord) (s : State) : Prop where
  headHold : s.headHold = false
  chemistryHold : s.chemistryHold = false
  ready : s.stagedReady = true
  staged : s.reader.staged = some p
  paper : p.length + (s.path.params.lCut + 240) ≤ s.exposure.paper.remaining

theorem State.drainForPaper_printsBefore {position : Int} (h : PrintsBefore position s) : PrintsBefore position s.drainForPaper.1 := by
  have failed : PrintsBefore position s.paperFailed :=
    PrintsBefore.calm (s := { s with path := { s.path with run := .draining, drainCause := some .paper } }) h (Inert.raise ..).calm
  cases prints : s.hasPrint with
  | true =>
    rw [State.drainForPaper_waste prints]
    exact failed.beginWaste
  | false =>
    rw [State.drainForPaper_end prints]
    exact failed.endDrain

theorem State.chooseRunning_starts_or {position : Int} (h : PrintsBefore position s) :
    (∃ p, MayStart p s ∧ s.chooseRunning = (s.startPrint p, true)) ∨ PrintsBefore position s.chooseRunning.1 := by
  have drain := State.drainForPaper_printsBefore h
  unfold State.chooseRunning
  split
  · rename_i p candidate
    obtain ⟨head, chemistry, ready, staged⟩ := State.candidate_eq_some candidate
    split
    · rename_i enough
      exact .inl ⟨p, ⟨head, chemistry, ready, staged, State.paperTest_iff.mp enough⟩, rfl⟩
    · exact .inr drain
  · split
    · exact .inr h.beginWaste
    · exact .inr drain

/-- A step that falls due starts the ready print in RUNNING, or begins no PRINT segment. -/
theorem State.fallsDue_starts_or {position : Int} (h : PrintsBefore position s) :
    ((s.path.run = .running ∨ s.path.run = .starting ∧ s.path.rampDue = false) ∧
      ∃ p, MayStart p s.inRun ∧ s.fallsDue = (s.inRun.startPrint p, true)) ∨ PrintsBefore position s.fallsDue.1 := by
  have noPaper : PrintsBefore position s.haltForPaper := (h.halt .paperOut).calm (Inert.raise ..).calm
  unfold State.fallsDue
  split
  · split
    · exact .inr h.endDrain
    · split
      · exact .inr noPaper
      · split
        · exact .inr (h.halt _)
        · by_cases running : s.path.run = .running ∨ s.path.run = .starting ∧ s.path.rampDue = false
          · rw [State.chooseSegment_running running]
            rcases State.chooseRunning_starts_or (s := s.inRun) h with starts | keeps
            · exact .inl ⟨running, starts⟩
            · exact .inr keeps
          · refine .inr ?_
            unfold State.chooseSegment
            split
            · rename_i starting
              split
              · exact PrintsBefore.beginSegment (kind := .ramp) (by decide) _ _ (by exact h)
              · rename_i due
                exact absurd (.inr ⟨starting, by simpa using due⟩) running
            · exact absurd (.inl ‹_›) running
            · exact h.beginWaste
            · exact h
            · exact h
  · split
    · exact .inr noPaper
    · exact .inr h

end

/-- Settles O34: every command but a step keeps the starts of the PRINT segments behind the web (`PrintsBefore`), and a step does
so unless it starts the print that may start. -/
theorem noPrintStartsUnlessAllowed : Obligations.NoPrintStartsUnlessAllowed := by
  intro c s t g acts before present print start
  have old : PrintsBefore s.path.position s := fun h there _ => before h there
  have notOld : ¬ PrintsBefore s.path.position t := fun older => (older g present print).ne start
  rcases exec_next acts with rfl | rfl
  · exact absurd old notOld
  · by_cases isStep : ∃ sample, c = .step sample
    · obtain ⟨sample, rfl⟩ := isStep
      have due : PrintsBefore s.path.position s.atStepDue := old
      have takes : effect (.step sample) s = if s.stepping = true then
          (if s.atStepDue.fallsDue.2 = true then s.atStepDue.fallsDue.1.issueStep sample else s.atStepDue.fallsDue.1) else s := rfl
      rw [takes] at present notOld ⊢
      split at present
      case isFalse still => exact absurd old (by rwa [if_neg still] at notOld)
      case isTrue moving =>
      rw [if_pos moving] at notOld ⊢
      rcases State.fallsDue_starts_or due with ⟨running, p, may, starts⟩ | keeps
      · have begun : Begun .print p.length { s.atStepDue.inRun with reader := s.reader.feeds }
            ((s.atStepDue.inRun.startPrint p).issueStep sample) := State.beginSegment_issueStep ..
        rw [starts] at present ⊢
        have layout : g.layout ∈ s.pathLayout ++ [(SegmentKind.print, (s.path.position : Int), 1, p.length)] :=
          begun.layout ▸ List.mem_map_of_mem present
        have planned : g.planned = p.length := by
          rcases List.mem_append.mp layout with older | new
          · obtain ⟨k, there, same⟩ := List.mem_map.mp older
            have starts : k.start = g.start := congrArg (·.2.1) same
            exact absurd (starts.trans start) (before k there).ne
          · exact congrArg (·.2.2.2) (List.mem_singleton.mp new)
        have calm : ∀ channel < 4, s.tripped channel = false := by
          have heads := may.headHold
          simp only [State.headHold, Bool.or_eq_false_iff] at heads
          obtain ⟨⟨red, green⟩, blue⟩ := heads
          intro channel inside
          interval_cases channel
          · exact red
          · exact green
          · exact blue
          · exact may.chemistryHold
        refine ⟨⟨sample, rfl⟩, begun.run, running, calm, may.ready, p, may.staged, planned, ?_⟩
        have enough : p.length + (s.path.params.lCut + 240) ≤ s.exposure.paper.remaining := may.paper
        omega
      · refine absurd ?_ notOld
        split
        · exact keeps.issueStep sample
        · exact keeps
    · exact absurd (effect_printsBefore (fun sample e => isStep ⟨sample, e⟩) old) notOld

end Sys2Proof.Machine
end

section
/-!
PROOFS. RUN ABORT (sections 2.6, 3.6, 4.1 and 6.6): the path is stopped, its prints and the staged one are rejected, and it is purged.
-/

namespace Sys2Proof.Machine

/-! ### What the rejections of an abort leave -/

/-- The reader after rejections: as it was, or without a staged print that a failing order has discarded (R20, R54). -/
def Reader.Unstaged (r r' : Reader) : Prop := r' = r ∨ r' = { r with staged := none, mode := .discarding }

theorem Reader.Unstaged.trans {r r' r'' : Reader} (h : r.Unstaged r') (k : r'.Unstaged r'') : r.Unstaged r'' := by
  rcases h with rfl | rfl
  · exact k
  · exact .inr (k.elim id id)

theorem State.discardStagedOf_reader (n : Nat) (s : State) : s.reader.Unstaged (s.discardStagedOf n).reader := by
  unfold State.discardStagedOf
  repeat' split
  · exact .inl rfl
  · exact .inr (by simp)
  · exact .inl rfl

theorem State.windDown_reader (n : Nat) (next : OrderState) (s : State) : s.reader.Unstaged (s.windDown n next).reader := by
  have discarded := State.discardStagedOf_reader n (s.updateOrder n fun r => { r with state := next, remakes := [] })
  simpa [State.windDown] using discarded

theorem State.reject_reader (order index attempt : Nat) (s : State) : s.reader.Unstaged (s.reject order index attempt).reader := by
  have failed : s.reader.Unstaged (((s.updateOrder order Order.leaveFlight).raise .orderFailed).windDown order .failing).reader := by
    simpa using State.windDown_reader order .failing ((s.updateOrder order Order.leaveFlight).raise .orderFailed)
  unfold State.reject
  dsimp only
  repeat' split
  · exact .inl rfl
  · exact .inl (by simp)
  · exact failed
  · exact .inl (by simp)
  · exact failed
  · exact .inl (by simp)
  · exact .inl (by simp)
  · exact .inl rfl

/-- Between the two states prints have been rejected, and nothing else: what that leaves of the part. -/
structure Rejecting (s t : State) : Prop where
  now : t.now = s.now
  store : t.store = s.store
  commands : t.commands = s.commands
  exposure : t.exposure = s.exposure
  monitor : t.monitor = s.monitor
  cutter : t.cutter = s.cutter
  price : t.price = s.price
  outputs : t.outputs = s.outputs
  returned : t.link.returnedCommand = s.link.returnedCommand
  belt : t.sorter.queue = s.sorter.queue
  tray : t.sorter.tray = s.sorter.tray
  position : t.path.position = s.path.position
  params : t.path.params = s.path.params
  generation : t.path.generation = s.path.generation
  rampDue : t.path.rampDue = s.path.rampDue
  pathGist : t.pathGist = s.pathGist
  reader : s.reader.Unstaged t.reader

namespace Rejecting

protected theorem refl (s : State) : Rejecting s s := by
  constructor
  case reader => exact .inl rfl
  all_goals rfl

protected theorem trans {s t u : State} (h : Rejecting s t) (k : Rejecting t u) : Rejecting s u where
  now := k.now.trans h.now
  store := k.store.trans h.store
  commands := k.commands.trans h.commands
  exposure := k.exposure.trans h.exposure
  monitor := k.monitor.trans h.monitor
  cutter := k.cutter.trans h.cutter
  price := k.price.trans h.price
  outputs := k.outputs.trans h.outputs
  returned := k.returned.trans h.returned
  belt := k.belt.trans h.belt
  tray := k.tray.trans h.tray
  position := k.position.trans h.position
  params := k.params.trans h.params
  generation := k.generation.trans h.generation
  rampDue := k.rampDue.trans h.rampDue
  pathGist := k.pathGist.trans h.pathGist
  reader := h.reader.trans k.reader

theorem rejectPrint (p : PrintRecord) (reasons : List RejectReason) (s : State) : Rejecting s (s.rejectPrint p reasons) := by
  constructor
  case pathGist => exact (Calm.rejectPrint p reasons s).pathGist
  case reader =>
    have reported := State.reject_reader p.order p.index p.attempt
      ((s.report .printFate (rejectedPayload p reasons)).countReasons reasons)
    simpa [State.rejectPrint] using reported
  all_goals simp

theorem abortSegments (s : State) : Rejecting s s.abortSegments := by
  have one (i : Nat) (u : State) : Rejecting u (u.abortSegment i) := by
    unfold State.abortSegment
    repeat' split
    · exact .rejectPrint ..
    all_goals exact .refl u
  exact List.foldlRecOn _ _ (Rejecting.refl s) fun u h i _ => h.trans (one i u)

theorem discardStaged (reason : RejectReason) (s : State) : Rejecting s (s.discardStaged reason .discarding) := by
  constructor
  case pathGist => exact (Calm.discardStaged ..).pathGist
  case reader =>
    cases staged : s.reader.staged with
    | none => exact .inl (by rw [State.discardStaged_none staged])
    | some p =>
      have discarded : s.reader.Unstaged { s.reader with staged := none, mode := .discarding } := .inr rfl
      rw [State.discardStaged_some staged]
      refine discarded.trans ?_
      simpa using State.reject_reader p.order p.index p.attempt ((State.report .printFate (discardedPayload p reason)
        { s with reader := { s.reader with staged := none, mode := .discarding } }).bump (.rejected reason))
  all_goals simp

end Rejecting

theorem State.discardStaged_staged (reason : RejectReason) (mode : ReaderMode) (s : State) :
    (s.discardStaged reason mode).reader.staged = none := by
  cases staged : s.reader.staged with
  | none => rw [State.discardStaged_none staged, staged]
  | some p =>
    rw [State.discardStaged_some staged]
    obtain ⟨u, u_eq⟩ : ∃ u : State, u = (State.report .printFate (discardedPayload p reason)
      { s with reader := { s.reader with staged := none, mode := mode } }).bump (.rejected reason) := ⟨_, rfl⟩
    rw [← u_eq]
    rcases State.reject_reader p.order p.index p.attempt u with same | discarded
    · rw [same, u_eq]
      simp
    · rw [discarded]

/-! ### The paper stops -/

/-- The reader of an aborted run: it exposes no print and awaits no PRINT END (R43, R64). -/
def Reader.aborted (r : Reader) : Reader :=
  { r with
    source := none
    lastLine := if r.source.isSome then none else r.lastLine
    awaited := if r.mode = .awaitingEnd then none else r.awaited
    mode := if r.mode = .feeding ∨ r.mode = .awaitingEnd then .discarding else r.mode }

theorem Reader.aborted_eq {r : Reader} (coherent : r.source = some .store ↔ r.mode = .feeding) :
    (if r.darkened.mode = .awaitingEnd then { r.darkened with mode := .discarding, awaited := none } else r.darkened) = r.aborted := by
  obtain ⟨mode, staged, source, lastLine, awaited⟩ := r
  cases mode with
  | feeding =>
    obtain rfl : source = some .store := coherent.mpr rfl
    rfl
  | reading => simp [Reader.darkened, Reader.aborted]
  | staged => simp [Reader.darkened, Reader.aborted]
  | awaitingEnd => simp [Reader.darkened, Reader.aborted]
  | discarding => simp [Reader.darkened, Reader.aborted]

theorem State.abortAwaiting_eq (s : State) :
    s.abortAwaiting = { s with
      reader := if s.reader.mode = .awaitingEnd then { s.reader with mode := .discarding, awaited := none } else s.reader } := by
  unfold State.abortAwaiting
  split <;> rfl

theorem State.abortAwaiting_stopStepping (s : State) : s.abortAwaiting.stopStepping = s.stopStepping.abortAwaiting := by
  rw [State.abortAwaiting_eq, State.abortAwaiting_eq]
  rfl

theorem State.stopped_eq {s : State} (coherent : s.reader.source = some .store ↔ s.reader.mode = .feeding) :
    s.endExposure.abortAwaiting.stopStepping = { s with
      exposure := { s.exposure with drive := [] }
      reader := s.reader.aborted
      path := { s.path with queue := modifyLast (Segment.stopped s.reader.source.isSome) s.path.queue } } := by
  rw [State.abortAwaiting_stopStepping, State.endExposure_stopStepping, State.abortAwaiting_eq]
  exact congrArg (fun r => { s with
      exposure := { s.exposure with drive := [] }
      reader := r
      path := { s.path with queue := modifyLast (Segment.stopped s.reader.source.isSome) s.path.queue } })
    (Reader.aborted_eq coherent)

/-! ### The path is purged -/

/-- The path and the Cutter Unit of an aborted run, on the same paper (R43, R44, R116). -/
def State.purged (start : Int) (length : Nat) (s : State) : State :=
  { s with
    path := { s.path with
      run := .idle, haltCause := none, drainCause := none, dwell := .stopped, queue := [Segment.purge start length] }
    cutter := { s.cutter with
      current := if s.path.params.wasteUnit < length then some (.cutPoint 1) else none
      delta := 0, cutList := [], progress := none, consecutive := 0, missing := 0, spurious := 0
      lastPurgeCut := none } }

theorem State.purgePath_resetCutter {g : Segment} {rest : List Segment} {s : State} (path : s.path.queue = g :: rest) :
    State.resetCutter (State.purgePath { s with
      path := { s.path with run := .idle, haltCause := none, drainCause := none, dwell := .stopped } }) =
      s.purged g.start ((s.path.position : Int) - g.start).toNat := by
  obtain ⟨u, u_eq⟩ : ∃ u : State, u = State.purgePath { s with
      path := { s.path with run := .idle, haltCause := none, drainCause := none, dwell := .stopped } } := ⟨_, rfl⟩
  have queue : u.path.queue = [Segment.purge g.start ((s.path.position : Int) - g.start).toNat] := by
    rw [u_eq, State.purgePath]
    simp only [path]
  have params : u.path.params = s.path.params := by rw [u_eq]; rfl
  have record : u.purgeRecord = some (Segment.purge g.start ((s.path.position : Int) - g.start).toNat) := by
    rw [State.purgeRecord, queue]
    rfl
  have first : u.firstBoundary =
      if s.path.params.wasteUnit < ((s.path.position : Int) - g.start).toNat then some (.cutPoint 1) else none := by
    rw [State.firstBoundary, State.cutPointOr, record, params]
    simp [Segment.purge, firstStartAfter, queue]
  rw [← u_eq, State.resetCutter, first, u_eq, State.purgePath]
  simp only [path]
  rfl

/-- The oldest record's start follows from the gists of the records. -/
theorem State.exists_oldest_of_pathGist {s t : State} {g : Segment} {rest : List Segment} (same : t.pathGist = s.pathGist)
    (path : s.path.queue = g :: rest) : ∃ h others, t.path.queue = h :: others ∧ h.start = g.start := by
  rw [State.pathGist, State.pathGist, path] at same
  obtain ⟨h, others, queue, gist, -⟩ := List.map_eq_cons_iff.mp same
  exact ⟨h, others, queue, congrArg (·.2.1) gist⟩

/-- A run that is aborted, once the paper stands: the rejections, and the purge of the path (R43, R44, R116). -/
theorem State.abortRun_eq {s stopped : State} {g : Segment} {rest : List Segment}
    (stops : s.endExposure.abortAwaiting.stopStepping = stopped) (path : stopped.path.queue = g :: rest) :
    Rejecting stopped (stopped.abortSegments.discardStaged .aborted .discarding) ∧
      s.abortRun = (stopped.abortSegments.discardStaged .aborted .discarding).purged g.start
        ((stopped.path.position : Int) - g.start).toNat := by
  have rejecting : Rejecting stopped (stopped.abortSegments.discardStaged .aborted .discarding) :=
    (Rejecting.abortSegments stopped).trans (.discardStaged ..)
  obtain ⟨h, others, queue, begins⟩ := State.exists_oldest_of_pathGist rejecting.pathGist path
  have purges := State.purgePath_resetCutter queue
  rw [begins, rejecting.position] at purges
  refine ⟨rejecting, ?_⟩
  rw [State.abortRun, stops]
  exact purges

/-- Settles O26: the paper stands (`stopped_eq`), the rejections leave all but what `Rejecting` names free, and the path is purged. -/
theorem runAbortPurgesThePath : Obligations.RunAbortPurgesThePath := by
  intro f rest s front
  have acts : exec .runAbort s = .next (s.takeRunAbort f) := exec_command_front front rfl rfl
  obtain ⟨out, queued, -⟩ := front
  rw [acts, State.takeRunAbort]
  refine ⟨fun wrong => ?_, fun empty idle => ?_, fun older head empty running coherent path => ?_⟩
  · rw [if_pos (by simpa using wrong), State.removeImmediate_answer queued]
  · rw [if_neg (by simp [empty]), if_pos idle, State.removeImmediate_answer queued]
  · intro start length stopped rejected gone
    obtain ⟨a, a_eq⟩ : ∃ a, a = State.answer f .accepted s := ⟨_, rfl⟩
    have answered : a.exposure = s.exposure ∧ a.reader = s.reader ∧ a.path = s.path := by simp [a_eq]
    obtain ⟨exposure, reader, web⟩ := answered
    have stops : a.endExposure.abortAwaiting.stopStepping = stopped := by
      rw [State.stopped_eq (by rw [reader]; exact coherent.2), exposure, reader, web, path, modifyLast_append, a_eq]
      rfl
    have rejects : stopped.abortSegments = rejected := by
      have records : stopped.path.queue.length = older.length + 1 := by simp [stopped]
      rw [State.abortSegments, records]
      rfl
    have discards : rejected.discardStaged .aborted .discarding = gone := by
      cases staged : rejected.reader.staged with
      | none =>
        rw [State.discardStaged_none staged]
        simp only [gone, staged]
      | some p =>
        rw [State.discardStaged_some staged]
        simp only [gone, staged]
    have oldest : ∃ g others, stopped.path.queue = g :: others ∧ g.start = start := by
      cases older with
      | nil => exact ⟨_, _, rfl, rfl⟩
      | cons g older => exact ⟨_, _, rfl, rfl⟩
    obtain ⟨g, others, first, begins⟩ := oldest
    obtain ⟨rejecting, aborts⟩ := State.abortRun_eq stops first
    rw [rejects, discards] at rejecting aborts
    have aborts : a.abortRun = gone.purged start length := aborts.trans (by rw [begins])
    have commands : (gone.purged start length).commands = f :: rest := by
      have kept : gone.commands = stopped.commands := rejecting.commands
      have before : stopped.commands = s.commands := by simp [stopped]
      exact kept.trans (before.trans queued)
    rw [if_neg (by simp [empty]), if_neg running, ← a_eq, aborts, State.removeImmediate_cons commands]
    have position : gone.path.position = s.path.position := rejecting.position
    have cutter : gone.cutter = s.cutter := rejecting.cutter.trans (by simp [stopped])
    have params : gone.path.params = s.path.params := rejecting.params
    have generation : gone.path.generation = s.path.generation := rejecting.generation
    have rampDue : gone.path.rampDue = s.path.rampDue := rejecting.rampDue
    have returned : gone.link.returnedCommand = s.link.returnedCommand := rejecting.returned.trans (by simp [stopped])
    have left : gone.reader.source = none ∧ gone.reader.mode ≠ .feeding ∧ gone.reader.mode ≠ .awaitingEnd := by
      rcases rejecting.reader with same | discarded
      · rw [same]
        simp only [stopped]
        split <;> simp_all
      · simp [discarded, stopped]
    refine ⟨_, rfl, ?_, ?_, rfl, rfl, rfl, rfl, ?_, ?_, ?_, ?_, ?_, rfl, ?_, ?_, ?_, ?_, ?_, ?_, ?_, ?_⟩
    · simp [State.purged, Segment.purge, position, params, generation, rampDue]
    · simp [State.purged, cutter, params]
    · simp [State.purged, returned]
    · exact (congrArg (·.reader.staged) discards).symm.trans (State.discardStaged_staged ..)
    · exact left.1
    · exact left.2.1
    · exact left.2.2
    · exact rejecting.store.trans (by simp [stopped])
    · exact rejecting.exposure
    · exact rejecting.monitor.trans (by simp [stopped])
    · exact rejecting.price.trans (by simp [stopped])
    · exact rejecting.belt.trans (by simp [stopped])
    · exact rejecting.tray.trans (by simp [stopped])
    · exact rejecting.outputs.trans (by simp [stopped])
    · exact rejecting.now.trans (by simp [stopped])

end Sys2Proof.Machine
end
